-- ==== Sys2Proof/Word.lean ====
section
/-!
DEFINITION. The byte of the AB420's frames, images and attached memory. The part adds, shifts and masks nothing else:
every other quantity of the manual is a count, a size or an index and is a `Nat` or an `Int` (6.2: all device
arithmetic is on integers).
-/

namespace Sys2Proof

/-- One byte of a frame, an image or the attached memory. -/
abbrev Byte := BitVec 8

end Sys2Proof
end

