-- ==== Sys2Proof/Config.lean ====
section
/-!
DEFINITION. The constants the AB420 fixes: sizes of the pool, the panel and the ports. The manual leaves no value of
this part open, so there is no free value here.
-/

namespace Sys2Proof.Config

/-- Bytes of one extent (section 1.1). -/
abbrev extentBytes : Nat := 16384

/-- Extents of the attached memory (R1). -/
abbrev poolExtents : Nat := 512

/-- First extent of the waveform store, extents 504 to 511 (R6). -/
abbrev waveFirst : Nat := 504

/-- Slots of the slot table (R21). -/
abbrev slotCount : Nat := 24

/-- Largest number of PINNED slots (R24). -/
abbrev pinLimit : Nat := 8

/-- Where the use counter stays (R22). -/
abbrev useMax : Nat := 4294967295

/-- Largest image a slot can hold, in bytes (R7, R26). -/
abbrev imageMax : Nat := 1048576

/-- Largest book number of a page key. -/
abbrev bookMax : Nat := 65535

/-- Largest page number of a page key. -/
abbrev pageMax : Nat := 16777215

/-- Columns of the panel (section 1.7). -/
abbrev columns : Nat := 1200

/-- Rows of the panel (section 1.7). -/
abbrev rows : Nat := 1600

/-- Pixels of the panel (section 1.7). -/
abbrev pixels : Nat := 1920000

/-- Entries the turn queue holds at most (R51). -/
abbrev queueMax : Nat := 8

/-- Counts of one PWM period (R97). -/
abbrev period : Nat := 1024

/-- Milliseconds of one drive frame (R88). -/
abbrev frameMs : Nat := 12

/-- Bytes of the waveform store (R73). -/
abbrev waveBytes : Nat := 131072

/-- Bytes of one chunk at most (R10). -/
abbrev chunkMax : Nat := 256

/-- Bytes of one panel feed burst at most (R11). -/
abbrev burstMax : Nat := 2048

/-- Largest payload of WRITE_SLOT, WAVEFORM_WRITE and PUT_BLOCK (R29, R73, R158). -/
abbrev payloadMax : Nat := 4096

/-- Largest body length of a frame (R175). -/
abbrev bodyMax : Nat := 4200

/-- Largest unsigned number of four bytes. -/
abbrev wordMax : Nat := 4294967295

/-- One mAh in mA·ms (R135). -/
abbrev mAh : Int := 3600000

/-- The sync byte of a request frame (R182). -/
abbrev syncByte : Byte := 0xC3#8

/-- The ready marker of an answer (R182). -/
abbrev readyMarker : Byte := 0x3C#8

/-- The filler byte (R182). -/
abbrev filler : Byte := 0x00#8

end Sys2Proof.Config
end

