-- ==== Sys2Proof/Syntax.lean ====
section
/-!
DEFINITION. The commands of the AB420: one constructor of `Instr` for each row of spec/opcode_table.json, with the
fields the owning rules name. A row that is a master's request carries the `Frame` it came in and its `Body`; a row that
is an event carries what the pins or the converter show at that event.
-/

namespace Sys2Proof

/-- The two SPI target ports (chapter 10). -/
inductive Port where
  | a | r
  deriving DecidableEq, Repr

/-- One of the key inputs K0 to K3 (R46). -/
abbrev Key := Fin 4

/-- A page key (book, page). -/
structure PageKey where
  book : Nat
  page : Nat
  deriving DecidableEq, Repr

/-- Slot classes in the manual's order (section 2.1). -/
inductive Cls where
  | streamed | retained | pinned
  deriving DecidableEq, Repr

/-- The edge field of a slot (section 2.1). -/
inductive Edge where
  | first | last
  deriving DecidableEq, Repr

/-- The two designations (R25). -/
inductive Designation where
  | rest | empty
  deriving DecidableEq, Repr

/-- Direction of a STEP entry. -/
inductive StepDir where
  | plus | minus
  deriving DecidableEq, Repr

/-- Kind of a turn entry (section 3.3). -/
inductive TurnKind where
  | step (d : StepDir)
  | goto (k : PageKey)
  deriving DecidableEq, Repr

/-- Update mode a turn asks for (section 3.3). -/
inductive TurnMode where
  | auto | full | grey | fast
  deriving DecidableEq, Repr

/-- Mode of an update and of a waveform (R72, R184). -/
inductive UpdMode where
  | full | grey | fast
  deriving DecidableEq, Repr

/-- Actions of the key routing table (R49). -/
inductive Route where
  | next | prev | light | power | noticeOnly | none
  deriving DecidableEq, Repr

/-- Targets of SLEEP (R140). -/
inductive SleepTarget where
  | doze | deep
  deriving DecidableEq, Repr

/-- The shared items (R180). -/
inductive ShareItem where
  | battery | time | powerState | light
  deriving DecidableEq, Repr

/-- The reasons CLOSE_STREAM may name (R161). -/
inductive ClosedBy where
  | complete | failed
  deriving DecidableEq, Repr

/-- The charger lines (R137). -/
inductive ChgLine where
  | present | done
  deriving DecidableEq, Repr

/-- What a panel feed burst reads (R11): the shown image, the target image or the waveform store. -/
inductive FeedSource where
  | shown | target | waveform
  deriving DecidableEq, Repr

/-- One sample of the sense converter: millivolts, and milliamperes, positive while charging (R114, R134). -/
structure Sample where
  v : Nat
  i : Int
  deriving DecidableEq, Repr

/-- Levels of the input pins as a start finds them: a key is `true` when pressed (R46, R139). -/
structure StartPins where
  k0 : Bool
  k1 : Bool
  k2 : Bool
  k3 : Bool
  chgPresent : Bool
  chgDone : Bool
  awake : Bool
  deriving DecidableEq, Repr

/-- How a request frame came: its port, and whether its bytes come in the window that is still open (`true`) or in a
fresh chip-select window (`false`, the usual case; the earlier window was then released before it). -/
structure Frame where
  port : Port
  sameWindow : Bool
  deriving DecidableEq, Repr

/-- The body of a frame: one that does not match the request's field layout (R176, third check), or its fields. -/
inductive Body (α : Type) where
  | malformed
  | fields (x : α)
  deriving DecidableEq, Repr

/-- TAKE_NOTICE (R170, R173): a named source, or none. -/
structure TakeNoticeArgs where
  source : Option Nat
  deriving DecidableEq, Repr

/-- SET_PARAM (R179). -/
structure SetParamArgs where
  number : Nat
  value : Nat
  deriving DecidableEq, Repr

/-- GET_PARAM (R179). -/
structure GetParamArgs where
  number : Nat
  deriving DecidableEq, Repr

/-- SHARE (R180): an item, and GRANT (`true`) or WITHDRAW. -/
structure ShareArgs where
  item : ShareItem
  grant : Bool
  deriving DecidableEq, Repr

/-- READ_SHARED (R180). -/
structure ReadSharedArgs where
  item : ShareItem
  deriving DecidableEq, Repr

/-- OPEN_SLOT (R26). -/
structure OpenSlotArgs where
  key : PageKey
  cls : Cls
  length : Nat
  fullRefresh : Bool
  edge : Option Edge
  deriving DecidableEq, Repr

/-- WRITE_SLOT (R29). -/
structure WriteSlotArgs where
  slot : Nat
  offset : Nat
  payload : List Byte
  deriving DecidableEq, Repr

/-- A request that names one slot: COMMIT_SLOT (R31), CANCEL_SLOT (R34). -/
structure SlotArgs where
  slot : Nat
  deriving DecidableEq, Repr

/-- BLANK_SLOT (R35). -/
structure BlankSlotArgs where
  key : PageKey
  cls : Cls
  level : Nat
  deriving DecidableEq, Repr

/-- SET_CLASS (R36). -/
structure SetClassArgs where
  slot : Nat
  cls : Cls
  deriving DecidableEq, Repr

/-- DESIGNATE (R37). -/
structure DesignateArgs where
  which : Designation
  slot : Option Nat
  deriving DecidableEq, Repr

/-- FORGET (R38): a book and, optionally, a first and a last page. -/
structure ForgetArgs where
  book : Nat
  range : Option (Nat × Nat)
  deriving DecidableEq, Repr

/-- TURN (R53). -/
structure TurnArgs where
  kind : TurnKind
  mode : TurnMode
  deriving DecidableEq, Repr

/-- SET_KEY_ROUTE (R49). -/
structure SetKeyRouteArgs where
  key : Nat
  action : Route
  deriving DecidableEq, Repr

/-- WAVEFORM_WRITE (R73). -/
structure WaveformWriteArgs where
  offset : Nat
  payload : List Byte
  deriving DecidableEq, Repr

/-- LIGHT_SET (R105). -/
structure LightSetArgs where
  level : Nat
  warmth : Option Nat
  deriving DecidableEq, Repr

/-- LOAD_CURVE (R100): the points, 17 of them in a body of the right layout. -/
structure LoadCurveArgs where
  points : List Nat
  deriving DecidableEq, Repr

/-- SLEEP (R140). -/
structure SleepArgs where
  target : SleepTarget
  deriving DecidableEq, Repr

/-- RADIO_POWER (R146): ON is `true`. -/
structure RadioPowerArgs where
  on : Bool
  deriving DecidableEq, Repr

/-- SET_TIME (R147). -/
structure SetTimeArgs where
  time : Nat
  deriving DecidableEq, Repr

/-- SET_ALARM (R147): a time or no time. -/
structure SetAlarmArgs where
  time : Option Nat
  deriving DecidableEq, Repr

/-- A request that names one stream: ABORT_STREAM (R162). -/
structure StreamArgs where
  stream : Nat
  deriving DecidableEq, Repr

/-- CLEAR_NOTICES (R171): a list of source numbers, or ALL (`none`). -/
structure ClearNoticesArgs where
  sources : Option (List Nat)
  deriving DecidableEq, Repr

/-- SET_NOTICE_LEVEL (R168). -/
structure SetNoticeLevelArgs where
  source : Nat
  level : Nat
  priority : Nat
  deriving DecidableEq, Repr

/-- OPEN_STREAM (R153). -/
structure OpenStreamArgs where
  tag : Nat
  total : Option Nat
  deriving DecidableEq, Repr

/-- PUT_BLOCK (R158). -/
structure PutBlockArgs where
  stream : Nat
  sequence : Nat
  first : Bool
  last : Bool
  payload : List Byte
  deriving DecidableEq, Repr

/-- CLOSE_STREAM (R161). -/
structure CloseStreamArgs where
  stream : Nat
  reason : ClosedBy
  deriving DecidableEq, Repr

/-- WAIT_SPACE (R165). -/
structure WaitSpaceArgs where
  bytes : Nat
  deriving DecidableEq, Repr

/-- TX_LEASE (R121). -/
structure TxLeaseArgs where
  mW : Nat
  duration : Nat
  deriving DecidableEq, Repr

/-- The requests of the catalogue (section 10.3), in the order of their kind bytes. -/
inductive Kind where
  | identify | resetPort | takeNotice | setParam | getParam | share | readShared | openSlot | writeSlot | commitSlot
  | cancelSlot | blankSlot | setClass | designate | forget | listSlots | turn | setKeyRoute | turnStatus | waveformWrite
  | waveformCommit | panelStatus | lightSet | loadCurve | lightState | clearAlarm | headroomStatus | sleep | radioPower
  | setTime | setAlarm | batteryStatus | sleepStatus | abortStream | drain | stagingStatus | peekNotices | clearNotices
  | setNoticeLevel | openStream | putBlock | closeStream | waitSpace | txLease | txRelease | txCancel | radioSleep
  deriving DecidableEq, Repr

/-- A request with its fields, as a port hands it to the owning block once the checks of R176 have passed. -/
inductive Req where
  | identify
  | resetPort
  | takeNotice (x : TakeNoticeArgs)
  | setParam (x : SetParamArgs)
  | getParam (x : GetParamArgs)
  | share (x : ShareArgs)
  | readShared (x : ReadSharedArgs)
  | openSlot (x : OpenSlotArgs)
  | writeSlot (x : WriteSlotArgs)
  | commitSlot (x : SlotArgs)
  | cancelSlot (x : SlotArgs)
  | blankSlot (x : BlankSlotArgs)
  | setClass (x : SetClassArgs)
  | designate (x : DesignateArgs)
  | forget (x : ForgetArgs)
  | listSlots
  | turn (x : TurnArgs)
  | setKeyRoute (x : SetKeyRouteArgs)
  | turnStatus
  | waveformWrite (x : WaveformWriteArgs)
  | waveformCommit
  | panelStatus
  | lightSet (x : LightSetArgs)
  | loadCurve (x : LoadCurveArgs)
  | lightState
  | clearAlarm
  | headroomStatus
  | sleep (x : SleepArgs)
  | radioPower (x : RadioPowerArgs)
  | setTime (x : SetTimeArgs)
  | setAlarm (x : SetAlarmArgs)
  | batteryStatus
  | sleepStatus
  | abortStream (x : StreamArgs)
  | drain
  | stagingStatus
  | peekNotices
  | clearNotices (x : ClearNoticesArgs)
  | setNoticeLevel (x : SetNoticeLevelArgs)
  | openStream (x : OpenStreamArgs)
  | putBlock (x : PutBlockArgs)
  | closeStream (x : CloseStreamArgs)
  | waitSpace (x : WaitSpaceArgs)
  | txLease (x : TxLeaseArgs)
  | txRelease
  | txCancel
  | radioSleep
  deriving DecidableEq, Repr

/-- A complete frame as a port may hold it (R176): a request with a well-formed body, a known kind with a body that does
not match its layout, or a kind that names no request. -/
inductive Message where
  | request (q : Req)
  | malformed (k : Kind)
  | unknown (code : Nat)
  deriving DecidableEq, Repr

/-- The commands: one constructor for each row of spec/opcode_table.json, in the table's order. -/
inductive Instr where
  | powerOn (pins : StartPins) (first : Sample)
  | depletedRestartSample (v : Nat) (first : Sample)
  | chipSelectRelease (p : Port)
  | windowIgnored (p : Port) (bytes : List Byte)
  | frameDiscarded (p : Port)
  | unknownRequest (f : Frame) (code : Nat)
  | identify (f : Frame) (b : Body Unit)
  | resetPort (f : Frame) (b : Body Unit)
  | takeNotice (f : Frame) (b : Body TakeNoticeArgs)
  | setParam (f : Frame) (b : Body SetParamArgs)
  | getParam (f : Frame) (b : Body GetParamArgs)
  | share (f : Frame) (b : Body ShareArgs)
  | readShared (f : Frame) (b : Body ReadSharedArgs)
  | openSlot (f : Frame) (b : Body OpenSlotArgs)
  | writeSlot (f : Frame) (b : Body WriteSlotArgs)
  | writeSlotEnd
  | commitSlot (f : Frame) (b : Body SlotArgs)
  | verifyScanEnd
  | cancelSlot (f : Frame) (b : Body SlotArgs)
  | blankSlot (f : Frame) (b : Body BlankSlotArgs)
  | blankSlotWriteEnd
  | setClass (f : Frame) (b : Body SetClassArgs)
  | designate (f : Frame) (b : Body DesignateArgs)
  | forget (f : Frame) (b : Body ForgetArgs)
  | listSlots (f : Frame) (b : Body Unit)
  | turn (f : Frame) (b : Body TurnArgs)
  | setKeyRoute (f : Frame) (b : Body SetKeyRouteArgs)
  | turnStatus (f : Frame) (b : Body Unit)
  | keyRawEdge (k : Key) (pressed : Bool)
  | keyDebounceExpiry (k : Key)
  | holdTimerExpiry (k : Key)
  | repeatTimerExpiry (k : Key)
  | touchIntFall
  | missWaitExpiry
  | waveformWrite (f : Frame) (b : Body WaveformWriteArgs)
  | waveformWriteEnd
  | waveformCommit (f : Frame) (b : Body Unit)
  | waveformCommitEnd
  | panelStatus (f : Frame) (b : Body Unit)
  | tempReadEnd (reading : Option Int)
  | planningEnd
  | railRiseEnd
  | powerWaitExpiry
  | frameEnd
  | railHoldExpiry
  | railFallEnd
  | lightSet (f : Frame) (b : Body LightSetArgs)
  | loadCurve (f : Frame) (b : Body LoadCurveArgs)
  | lightState (f : Frame) (b : Body Unit)
  | rampTimerExpiry
  | periodBoundary
  | clearAlarm (f : Frame) (b : Body Unit)
  | headroomStatus (f : Frame) (b : Body Unit)
  | batterySample (x : Sample)
  | alarmClearTimerExpiry
  | txLease (f : Frame) (b : Body TxLeaseArgs)
  | txRelease (f : Frame) (b : Body Unit)
  | txCancel (f : Frame) (b : Body Unit)
  | leaseExpiry
  | sleep (f : Frame) (b : Body SleepArgs) (awake : Bool)
  | awakeFall
  | apOffTimerExpiry
  | dozeIdleExpiry
  | deferralExpiry
  | radioNoticeExpiry
  | selfRefreshEntered
  | radioPower (f : Frame) (b : Body RadioPowerArgs)
  | radioSleep (f : Frame) (b : Body Unit)
  | setTime (f : Frame) (b : Body SetTimeArgs)
  | setAlarm (f : Frame) (b : Body SetAlarmArgs)
  | timeCounterStep
  | chargerLineChange (line : ChgLine) (high : Bool)
  | criticalGraceExpiry
  | depletionTimerExpiry
  | batteryStatus (f : Frame) (b : Body Unit)
  | sleepStatus (f : Frame) (b : Body Unit)
  | openStream (f : Frame) (b : Body OpenStreamArgs)
  | putBlock (f : Frame) (b : Body PutBlockArgs)
  | putBlockWriteEnd
  | closeStream (f : Frame) (b : Body CloseStreamArgs)
  | waitSpace (f : Frame) (b : Body WaitSpaceArgs)
  | abortStream (f : Frame) (b : Body StreamArgs)
  | drain (f : Frame) (b : Body Unit)
  | drainEnd
  | stagingStatus (f : Frame) (b : Body Unit)
  | stagingIdleExpiry
  | peekNotices (f : Frame) (b : Body Unit)
  | clearNotices (f : Frame) (b : Body ClearNoticesArgs)
  | setNoticeLevel (f : Frame) (b : Body SetNoticeLevelArgs)
  | chunkGrant
  | panelFeedBurst (src : FeedSource) (roomAfter : Bool)
  | selfRefreshLeft
  deriving DecidableEq, Repr

end Sys2Proof
end

