-- ==== Sys2Proof/Machine/Bytes.lean ====
section
/-!
DEFINITION. Numbers as bytes, least significant byte first (R182, general field encoding).
-/

namespace Sys2Proof.Machine

/-- The low eight bits of a number. -/
def byteOf (n : Nat) : Byte := BitVec.ofNat 8 n

/-- A number in `w` bytes, least significant byte first (R182). -/
def leBytes : Nat → Nat → List Byte
  | 0, _ => []
  | w + 1, n => byteOf n :: leBytes w (n / 256)

/-- The number that bytes spell, least significant byte first (R182). -/
def leValue : List Byte → Nat
  | [] => 0
  | b :: bs => b.toNat + 256 * leValue bs

/-- A signed number in two bytes, two's complement (R182). -/
def signedBytes (i : Int) : List Byte := leBytes 2 (i % 65536).toNat

/-- A flag as a byte (R182). -/
def flagByte (b : Bool) : Byte := byteOf b.toNat

/-- Does a number lie in a range, both ends included? -/
def inRange (lo hi n : Nat) : Bool := decide (lo ≤ n) && decide (n ≤ hi)

end Sys2Proof.Machine
end

