-- ==== Sys2Proof/Machine/Params.lean ====
section
/-!
DEFINITION. The 41 parameters of section 10.4: their values, their ranges and defaults (the chapters' parameter tables),
and reading and writing one by its number (R179). The coupling of staging_floor and staging_max (R151) is in
Machine/Settings.lean.
-/

namespace Sys2Proof.Machine

/-- The parameters, in number order (section 10.4). `defaultPartial` is FAST when `true`, `lowBatteryFast` on when
`true`; every other one is a number in the unit of its chapter's table. -/
structure Params where
  ahead : Nat
  behind : Nat
  debounceMs : Nat
  holdMs : Nat
  repeatMs : Nat
  missWaitS : Nat
  defaultPartial : Bool
  lowBatteryFast : Bool
  ghostLimit : Nat
  railRiseMs : Nat
  railFallMs : Nat
  railHoldMs : Nat
  rowNJ : Nat
  pixPJ : Nat
  riseMW : Nat
  hotMW : Nat
  powerWaitS : Nat
  deadGap : Nat
  rampMs : Nat
  warmFullMW : Nat
  coolFullMW : Nat
  lightFloorMW : Nat
  vcutMV : Nat
  resrMOhm : Nat
  ceilingMaxMW : Nat
  reserveMW : Nat
  apMW : Nat
  radioIdleMW : Nat
  capacityMAh : Nat
  lowPct : Nat
  critPct : Nat
  critGraceS : Nat
  restartMV : Nat
  dozeIdleMin : Nat
  deepDeferMin : Nat
  apOffTimeoutS : Nat
  wakeThreshold : Nat
  stagingFloor : Nat
  stagingMax : Nat
  triggerKib : Nat
  idleS : Nat
  deriving DecidableEq, Repr

/-- A parameter's row: low limit, high limit and default. -/
structure ParamRow where
  low : Nat
  high : Nat
  dflt : Nat
  deriving DecidableEq, Repr

/-- The row of a parameter number (the parameter tables of 3.1, 4.1, 5.1, 6.1, 7.1 and 8.1 in the order of 10.4).
GREY is 0 and FAST 1; off is 0 and on 1. -/
def paramRow : Nat → Option ParamRow
  | 1 => some ⟨0, 8, 3⟩
  | 2 => some ⟨0, 4, 1⟩
  | 3 => some ⟨5, 50, 20⟩
  | 4 => some ⟨300, 2000, 700⟩
  | 5 => some ⟨150, 1000, 400⟩
  | 6 => some ⟨1, 30, 10⟩
  | 7 => some ⟨0, 1, 0⟩
  | 8 => some ⟨0, 1, 1⟩
  | 9 => some ⟨1, 64, 6⟩
  | 10 => some ⟨2, 20, 6⟩
  | 11 => some ⟨2, 20, 4⟩
  | 12 => some ⟨0, 2000, 300⟩
  | 13 => some ⟨0, 4095, 1500⟩
  | 14 => some ⟨0, 65535, 3000⟩
  | 15 => some ⟨0, 500, 120⟩
  | 16 => some ⟨0, 100, 15⟩
  | 17 => some ⟨1, 10, 3⟩
  | 18 => some ⟨0, 63, 16⟩
  | 19 => some ⟨1, 255, 8⟩
  | 20 => some ⟨0, 2000, 900⟩
  | 21 => some ⟨0, 2000, 1000⟩
  | 22 => some ⟨0, 500, 0⟩
  | 23 => some ⟨2800, 3600, 3300⟩
  | 24 => some ⟨20, 2000, 180⟩
  | 25 => some ⟨500, 8000, 4000⟩
  | 26 => some ⟨0, 500, 100⟩
  | 27 => some ⟨100, 3000, 700⟩
  | 28 => some ⟨0, 500, 80⟩
  | 29 => some ⟨500, 10000, 1500⟩
  | 30 => some ⟨5, 50, 15⟩
  | 31 => some ⟨1, 10, 3⟩
  | 32 => some ⟨10, 600, 60⟩
  | 33 => some ⟨3000, 4000, 3500⟩
  | 34 => some ⟨1, 60, 10⟩
  | 35 => some ⟨0, 120, 30⟩
  | 36 => some ⟨2, 30, 10⟩
  | 37 => some ⟨0, 6, 3⟩
  | 38 => some ⟨0, 128, 16⟩
  | 39 => some ⟨8, 256, 96⟩
  | 40 => some ⟨1, 1024, 256⟩
  | 41 => some ⟨1, 120, 20⟩
  | _ => none

/-- The value in force of a parameter number, named values as their codes (section 10.4). -/
def Params.get (p : Params) : Nat → Nat
  | 1 => p.ahead
  | 2 => p.behind
  | 3 => p.debounceMs
  | 4 => p.holdMs
  | 5 => p.repeatMs
  | 6 => p.missWaitS
  | 7 => p.defaultPartial.toNat
  | 8 => p.lowBatteryFast.toNat
  | 9 => p.ghostLimit
  | 10 => p.railRiseMs
  | 11 => p.railFallMs
  | 12 => p.railHoldMs
  | 13 => p.rowNJ
  | 14 => p.pixPJ
  | 15 => p.riseMW
  | 16 => p.hotMW
  | 17 => p.powerWaitS
  | 18 => p.deadGap
  | 19 => p.rampMs
  | 20 => p.warmFullMW
  | 21 => p.coolFullMW
  | 22 => p.lightFloorMW
  | 23 => p.vcutMV
  | 24 => p.resrMOhm
  | 25 => p.ceilingMaxMW
  | 26 => p.reserveMW
  | 27 => p.apMW
  | 28 => p.radioIdleMW
  | 29 => p.capacityMAh
  | 30 => p.lowPct
  | 31 => p.critPct
  | 32 => p.critGraceS
  | 33 => p.restartMV
  | 34 => p.dozeIdleMin
  | 35 => p.deepDeferMin
  | 36 => p.apOffTimeoutS
  | 37 => p.wakeThreshold
  | 38 => p.stagingFloor
  | 39 => p.stagingMax
  | 40 => p.triggerKib
  | 41 => p.idleS
  | _ => 0

/-- The parameters with the one of a number set to a value. -/
def Params.set (p : Params) (n v : Nat) : Params :=
  match n with
  | 1 => { p with ahead := v }
  | 2 => { p with behind := v }
  | 3 => { p with debounceMs := v }
  | 4 => { p with holdMs := v }
  | 5 => { p with repeatMs := v }
  | 6 => { p with missWaitS := v }
  | 7 => { p with defaultPartial := v == 1 }
  | 8 => { p with lowBatteryFast := v == 1 }
  | 9 => { p with ghostLimit := v }
  | 10 => { p with railRiseMs := v }
  | 11 => { p with railFallMs := v }
  | 12 => { p with railHoldMs := v }
  | 13 => { p with rowNJ := v }
  | 14 => { p with pixPJ := v }
  | 15 => { p with riseMW := v }
  | 16 => { p with hotMW := v }
  | 17 => { p with powerWaitS := v }
  | 18 => { p with deadGap := v }
  | 19 => { p with rampMs := v }
  | 20 => { p with warmFullMW := v }
  | 21 => { p with coolFullMW := v }
  | 22 => { p with lightFloorMW := v }
  | 23 => { p with vcutMV := v }
  | 24 => { p with resrMOhm := v }
  | 25 => { p with ceilingMaxMW := v }
  | 26 => { p with reserveMW := v }
  | 27 => { p with apMW := v }
  | 28 => { p with radioIdleMW := v }
  | 29 => { p with capacityMAh := v }
  | 30 => { p with lowPct := v }
  | 31 => { p with critPct := v }
  | 32 => { p with critGraceS := v }
  | 33 => { p with restartMV := v }
  | 34 => { p with dozeIdleMin := v }
  | 35 => { p with deepDeferMin := v }
  | 36 => { p with apOffTimeoutS := v }
  | 37 => { p with wakeThreshold := v }
  | 38 => { p with stagingFloor := v }
  | 39 => { p with stagingMax := v }
  | 40 => { p with triggerKib := v }
  | 41 => { p with idleS := v }
  | _ => p

/-- Every parameter at its default (6.5, R179). -/
def Params.defaults : Params :=
  { ahead := 3, behind := 1, debounceMs := 20, holdMs := 700, repeatMs := 400, missWaitS := 10,
    defaultPartial := false, lowBatteryFast := true,
    ghostLimit := 6, railRiseMs := 6, railFallMs := 4, railHoldMs := 300, rowNJ := 1500, pixPJ := 3000,
    riseMW := 120, hotMW := 15, powerWaitS := 3,
    deadGap := 16, rampMs := 8, warmFullMW := 900, coolFullMW := 1000, lightFloorMW := 0,
    vcutMV := 3300, resrMOhm := 180, ceilingMaxMW := 4000, reserveMW := 100, apMW := 700, radioIdleMW := 80,
    capacityMAh := 1500, lowPct := 15, critPct := 3, critGraceS := 60, restartMV := 3500, dozeIdleMin := 10,
    deepDeferMin := 30, apOffTimeoutS := 10, wakeThreshold := 3,
    stagingFloor := 16, stagingMax := 96, triggerKib := 256, idleS := 20 }

end Sys2Proof.Machine
end

