-- ==== Sys2Proof/Machine/State.lean ====
section
/-!
DEFINITION. The state of the AB420, block by block as section 1.2 lists them, as plain data; the reasons a step can stop;
and the state after reset. Times are in milliseconds of the device's timebase, kept in `State.now`. A timer is the time
at which it expires, or none when it is stopped.
-/

namespace Sys2Proof.Machine

/-! ### Pool controller (chapter 1) -/

/-- Owner of an extent (R1). -/
inductive Owner where
  | free
  | slot (n : Nat)
  | staging
  | waveform
  deriving DecidableEq, Repr

/-- The attached memory: (address, byte) pairs, addresses rising, no zero byte listed; an unlisted address reads 0. -/
abbrev Memory := List Host.Cell

/-- The chunk requesters in rotation order (R12). -/
inductive Requester where
  | portA | portR | verify
  deriving DecidableEq, Repr

/-- Whether the arbiter grants (R14, R15): active, asked for self-refresh, in self-refresh, asked to leave it, or off. -/
inductive PoolMode where
  | active | entering | selfRefresh | leaving | off
  deriving DecidableEq, Repr

/-- The requests with memory work (R13). -/
inductive WorkKind where
  | writeSlot (slot len : Nat)
  | blankSlot (slot : Nat)
  | waveformWrite
  | waveformCommit
  | drain
  | putBlock
  deriving DecidableEq, Repr

/-- The memory work of one request of a port (R10): the owner it is made for, the owner's extents, the next byte and the
byte past the last one, the bytes still to write, the bytes read so far, and whether a chunk was discarded (R8). -/
structure Work where
  kind : WorkKind
  owner : Owner
  extents : List Nat
  pos : Nat
  stop : Nat
  data : List Byte
  got : List Byte
  lost : Bool
  deriving DecidableEq, Repr

/-- Reasons an image is rejected (R20). -/
inductive ImageFault where
  | badSpan | rowLength | rowCount | trailingBytes
  deriving DecidableEq, Repr

/-- Where the check of R20 stands in the span it is reading. -/
inductive SpanPhase where
  /-- at a span boundary -/
  | start
  /-- a RUN's first byte is read; its level and the high two bits of count - 1 -/
  | run (level high : Nat)
  /-- a LITERAL's first byte is read -/
  | literalCount
  /-- a LITERAL of `count` levels with `left` level bytes still to read -/
  | literal (count left : Nat)
  /-- a valid END is read -/
  | ended
  /-- a failure is found -/
  | failed (r : ImageFault)
  deriving DecidableEq, Repr

/-- The image check of R20 in progress: current row (which is the number of complete rows), current column, phase. -/
structure ImageCheck where
  row : Nat
  col : Nat
  phase : SpanPhase
  deriving DecidableEq, Repr

/-- A verify scan (R32): its slot, the bytes read, the bytes to read, the check so far, and whether a chunk of it has been
discarded (R8). -/
structure Scan where
  slot : Nat
  pos : Nat
  len : Nat
  check : ImageCheck
  lost : Bool
  deriving DecidableEq, Repr

/-- The panel feed (R11): bytes of the shown image, of the target image and of the waveform store read for the planning
or frame it serves, whether the row buffer has room for a further burst, and whether a burst of it has been discarded
(R8). -/
structure Feed where
  shown : Nat
  target : Nat
  waveform : Nat
  room : Bool
  lost : Bool
  deriving DecidableEq, Repr

/-- The feed as a planning or a frame begins: nothing read, the row buffer empty. -/
def Feed.fresh : Feed := { shown := 0, target := 0, waveform := 0, room := true, lost := false }

/-- The pool controller. -/
structure Pool where
  owners : List Owner
  free : List Nat
  mem : Memory
  pointer : Requester
  mode : PoolMode
  workA : Option Work
  workR : Option Work
  /-- verify scans, the running one first -/
  scans : List Scan
  feed : Feed
  deriving DecidableEq, Repr

/-! ### Slot table (chapter 2) -/

/-- Slot states (section 2.1). -/
inductive SlotState where
  | empty | filling | verifying | ready
  deriving DecidableEq, Repr

/-- One slot record, with every field of section 2.1. -/
structure Slot where
  state : SlotState
  key : Option PageKey
  cls : Option Cls
  extents : List Nat
  declared : Nat
  written : Nat
  reservation : Bool
  fullRefresh : Bool
  edge : Option Edge
  age : Nat
  forget : Bool
  lost : Bool
  deriving DecidableEq, Repr

/-- An EMPTY record with its lost mark (R21). DESIGN CHOICE (log 36): it holds the declared length 0. -/
def Slot.cleared (lost : Bool) : Slot :=
  { state := .empty, key := none, cls := none, extents := [], declared := 0, written := 0, reservation := false,
    fullRefresh := false, edge := none, age := 0, forget := false, lost := lost }

/-- The slot table. -/
structure SlotTable where
  slots : List Slot
  rest : Option Nat
  empty : Option Nat
  use : Nat
  deriving DecidableEq, Repr

/-! ### Turn engine (chapter 3) -/

/-- Where a turn entry came from (section 3.3). -/
inductive Origin where
  | key | repeated | portA | sleep
  deriving DecidableEq, Repr

/-- Why the battery and sleep controller placed an entry (section 3.3). -/
inductive Purpose where
  | rest | empty | resume
  deriving DecidableEq, Repr

/-- An entry of the turn queue (section 3.3). -/
structure Entry where
  origin : Origin
  kind : TurnKind
  mode : TurnMode
  purpose : Option Purpose
  deriving DecidableEq, Repr

/-- The states of the engine (section 3.4). -/
inductive Engine where
  | idle | waitingPage | waitingPower | updating | halted
  deriving DecidableEq, Repr

/-- The miss record (R58) and its wait timer. -/
structure Miss where
  key : PageKey
  mode : TurnMode
  origin : Origin
  purpose : Option Purpose
  start : Nat
  timer : Nat
  deriving DecidableEq, Repr

/-- The turn in the panel drive's hands (R62): its resolved key, the mode it was taken with, the mode chosen. -/
structure Turn where
  key : PageKey
  asked : TurnMode
  mode : UpdMode
  origin : Origin
  purpose : Option Purpose
  deriving DecidableEq, Repr

/-- Hold states of a key (section 3.2). -/
inductive Hold where
  | idle | held | repeating
  deriving DecidableEq, Repr

/-- A key input record (section 3.2) with its timers; `dir` is the step of its route when the press was accepted (R48). -/
structure KeyInput where
  pressed : Bool
  candidate : Option Nat
  debounce : Option Nat
  edgeTime : Nat
  hold : Hold
  holdTimer : Option Nat
  repeatTimer : Option Nat
  dir : StepDir
  deriving DecidableEq, Repr

/-- A computed refill want (R66). -/
structure Want where
  book : Nat
  pages : List Nat
  deriving DecidableEq, Repr

/-- The turn engine. -/
structure TurnEngine where
  keys : List KeyInput
  routes : List Route
  queue : List Entry
  engine : Engine
  miss : Option Miss
  turn : Option Turn
  want : Option Want
  deriving DecidableEq, Repr

/-! ### Panel drive (chapter 4) -/

/-- States of the waveform store (R72). -/
inductive WaveState where
  | absent | loading | valid
  deriving DecidableEq, Repr

/-- What a waveform commit can find (R74): the reason, and for a drive its from-level, to-level and frame. -/
inductive WaveFault where
  | frameCount
  | driveCode (src dst frame : Nat)
  deriving DecidableEq, Repr

/-- The first failure of a waveform commit (R74). -/
structure CommitFail where
  mode : UpdMode
  band : Nat
  reason : WaveFault
  deriving DecidableEq, Repr

/-- Fidelity (section 4.4). -/
inductive Fidelity where
  | exact | twoLevel | unknown
  deriving DecidableEq, Repr

/-- Rail states (section 4.4). -/
inductive Rail where
  | off | rising | hot | driving | falling
  deriving DecidableEq, Repr

/-- Phases of an update (section 4.5). -/
inductive Phase where
  | planning | awaitRails | riseWait | rising | driveWait | driving
  deriving DecidableEq, Repr

/-- What planning writes to the update record (R78, R79, R80, R82): F, first and last changed rows, C, demand, and the
duration in ms. -/
structure Plan where
  frames : Nat
  firstRow : Nat
  lastRow : Nat
  changed : Nat
  demand : Nat
  duration : Nat
  deriving DecidableEq, Repr

/-- The update record (R78). `tempRead` and `stopping` are the model's: the temperature read of this planning has ended
(R76), and the power alarm stops the drive after the frame in progress (R91). `frameTimer` is the end of that frame. -/
structure Update where
  target : Nat
  mode : UpdMode
  phase : Phase
  band : Option Nat
  plan : Option Plan
  frame : Nat
  tempRead : Bool
  stopping : Bool
  frameTimer : Option Nat
  deriving DecidableEq, Repr

/-- The panel drive: waveform store state, temperature record, panel record, rails, update record and timers. -/
structure PanelDrive where
  wave : WaveState
  commitFail : Option CommitFail
  lastGood : Option Int
  lastRead : Option Bool
  band : Option Nat
  shown : Option Nat
  shownKey : Option PageKey
  target : Option Nat
  fidelity : Fidelity
  ghost : Nat
  rail : Rail
  update : Option Update
  riseTimer : Option Nat
  fallTimer : Option Nat
  holdTimer : Option Nat
  waitTimer : Option Nat
  deriving DecidableEq, Repr

/-! ### Light unit (chapter 5) -/

/-- A set of duties (R97, R98). -/
structure Duty where
  warm : Nat
  cool : Nat
  gap : Nat
  deriving DecidableEq, Repr

/-- The light unit: light record (section 5.3), curve table, duty buffer, applied duties, ramp timer, and whether the
period counter runs (R97). -/
structure LightUnit where
  target : Nat
  warmth : Nat
  remembered : Nat
  applied : Nat
  capped : Bool
  alarmHold : Bool
  fading : Bool
  requested : Nat
  demand : Nat
  grant : Nat
  total : Nat
  curve : List Nat
  buffer : Option Duty
  duty : Duty
  running : Bool
  rampTimer : Option Nat
  deriving DecidableEq, Repr

/-! ### Headroom arbiter (chapter 6) -/

/-- A row of the allotment table (R115). -/
structure Allot where
  demand : Nat
  grant : Nat
  deriving DecidableEq, Repr

/-- How a lease was granted (section 6.6). -/
inductive LeaseOrigin where
  | atOnce | fromPark
  deriving DecidableEq, Repr

/-- The active lease (section 6.6). -/
structure Lease where
  mW : Nat
  duration : Nat
  granted : Nat
  expiry : Nat
  origin : LeaseOrigin
  deriving DecidableEq, Repr

/-- The parked lease (section 6.6). -/
structure ParkedLease where
  mW : Nat
  duration : Nat
  deriving DecidableEq, Repr

/-- The unreleased end (section 6.6). -/
inductive LeaseEnd where
  | expired | revoked
  deriving DecidableEq, Repr

/-- Causes of the power alarm (R127). -/
inductive AlarmCause where
  | voltage | ceiling
  deriving DecidableEq, Repr

/-- A waiting AP power-up (R118): still to be judged once the alarm clears, or judged and found not to fit. -/
inductive ApWait where
  | unjudged | judged
  deriving DecidableEq, Repr

/-- The headroom arbiter. `sampled` is the model's: a sample has been taken since the start (R115). -/
structure Headroom where
  v : Nat
  i : Int
  capped : Nat
  ceiling : Nat
  ap : Allot
  panel : Allot
  radio : Allot
  light : Allot
  apWait : Option ApWait
  panelWait : Option Nat
  active : Option Lease
  parked : Option ParkedLease
  unreleased : Option LeaseEnd
  alarm : Option AlarmCause
  clearTimer : Option Nat
  sampled : Bool
  /-- vcut_mV as the latest sample took it: a new value acts at the next sample (R113) -/
  vcut : Nat
  deriving DecidableEq, Repr

/-! ### Battery and sleep controller (chapter 7) -/

/-- Battery states (R136). -/
inductive Battery where
  | normal | low | critical
  deriving DecidableEq, Repr

/-- Charger states (R137). -/
inductive Charger where
  | absent | charging | done
  deriving DecidableEq, Repr

/-- Power states (section 7.4), in the order R180 codes the first five. -/
inductive Power where
  | run | apStopping | doze | enteringDeep | deep | depleted
  deriving DecidableEq, Repr

/-- The AP domain record (R139). -/
inductive ApDomain where
  | off | requested | on
  deriving DecidableEq, Repr

/-- Where ENTERING_DEEP stands (R143): waiting for the rest image (stage 2), for the fade and the radio notice (stages 3
and 4), for the rails (stage 5), for the engine and the alarm (stage 6), or for the pool's report (stage 6). -/
inductive Stage where
  | restImage | fade | rails | ready | selfRefresh
  deriving DecidableEq, Repr

/-- Outcome of the last wake alarm (R147). -/
inductive AlarmOutcome where
  | firedDeep | skippedBattery | firedAwake
  deriving DecidableEq, Repr

/-- The battery and sleep controller. `depleting` says that depletion runs (R148); `restartTimer` is the time of the next
restart sample in DEPLETED (R149). -/
structure Controller where
  lastV : Nat
  lastI : Int
  q : Nat
  r : Int
  percent : Nat
  battery : Battery
  charger : Charger
  power : Power
  sleepTarget : Option SleepTarget
  ap : ApDomain
  radio : Bool
  heldWake : Bool
  stage : Option Stage
  depleting : Bool
  resumeKey : Option PageKey
  apOffTimer : Option Nat
  idleTimer : Option Nat
  deferTimer : Option Nat
  radioTimer : Option Nat
  graceTimer : Option Nat
  depletionTimer : Option Nat
  restartTimer : Option Nat
  time : Nat
  alarm : Option Nat
  outcome : Option AlarmOutcome
  deriving DecidableEq, Repr

/-! ### Staging unit (chapter 8) -/

/-- Stream states (section 8.2). -/
inductive StreamState where
  | open | closed | aborted
  deriving DecidableEq, Repr

/-- Close reasons (section 8.2). -/
inductive CloseReason where
  | complete | failed | sleep | aborted | radioReset
  deriving DecidableEq, Repr

/-- A stream (section 8.2); its id is its place in the table. -/
structure Stream where
  state : StreamState
  tag : Nat
  next : Nat
  exhausted : Bool
  total : Option Nat
  accepted : Nat
  reason : Option CloseReason
  deriving DecidableEq, Repr

/-- A position in the ring: an extent number and an offset. -/
structure RingPos where
  extent : Nat
  offset : Nat
  deriving DecidableEq, Repr

/-- A staged block (section 8.3). -/
structure Block where
  stream : Nat
  sequence : Nat
  first : Bool
  last : Bool
  length : Nat
  pos : RingPos
  deriving DecidableEq, Repr

/-- The staging unit. `stream1` and `stream2` are the two entries of the stream table; `writing` is the block in
writing (R159); `watch` the armed number of the space watch (R165). -/
structure Staging where
  stream1 : Option Stream
  stream2 : Option Stream
  queue : List Block
  ring : List Nat
  write : Option RingPos
  writing : Option Block
  idleTimer : Option Nat
  watch : Option Nat
  deriving DecidableEq, Repr

/-! ### Notice unit (chapter 9) -/

/-- The sources of the AP notice set, in number order (section 9.1). -/
inductive Source where
  | powerKey | turnMiss | refillWanted | stagingTrigger | stagingIdle | streamEnd | batteryLow | batteryCritical
  | powerAlarm | charger | wakeAlarm | touch | key | slotRejected | turnAbandoned | turnOverrun | bookEdge | updateDone
  | noHeadroom | tempRange
  deriving DecidableEq, Repr

/-- Causes of BATTERY_CRITICAL (R136). -/
inductive CriticalCause where
  | percent | headroom
  deriving DecidableEq, Repr

/-- Reasons of TURN_ABANDONED (R59, R60, R62, R65). -/
inductive Abandon where
  | missTimeout | battery | noWaveform | noHeadroom | sleep
  deriving DecidableEq, Repr

/-- The consumers NO_HEADROOM names (R118, R119, R121). -/
inductive Consumer where
  | ap | radio
  deriving DecidableEq, Repr

/-- Details of the AP notices (section 9.1). -/
inductive Detail where
  | powerKey (p : Power)
  | turnMiss (k : PageKey)
  | refillWanted (w : Want)
  | staged (bytes blocks : Nat)
  | streamEnd (id tag : Nat) (reason : CloseReason) (bytes : Nat)
  | batteryLow (percent q : Nat)
  | batteryCritical (percent : Nat) (cause : CriticalCause) (graceS : Nat)
  | powerAlarm (cause : AlarmCause) (v ceiling : Nat)
  | charger (present done : Bool) (state : Charger)
  | wakeAlarm (time : Nat) (radioOn : Option Bool)
  | touch (edges : Nat)
  | key (k : Nat)
  | slotRejected (slot : Nat) (key : PageKey) (reason : ImageFault)
  | turnAbandoned (key : Option PageKey) (reason : Abandon)
  | turnOverrun (origin : Origin) (kind : TurnKind)
  | bookEdge (key : PageKey) (dir : StepDir)
  | updateDone (key : PageKey) (mode : UpdMode)
  | noHeadroom (consumer : Consumer) (mW limit : Nat)
  | tempRange (t : Int)
  deriving DecidableEq, Repr

/-- A source of the AP notice set (R167). -/
structure Notice where
  pending : Bool
  detail : Option Detail
  count : Nat
  level : Nat
  priority : Nat
  deriving DecidableEq, Repr

/-- The sources of the RM notice set, in order (section 9.4). -/
inductive RmSource where
  | space | leaseGranted | leaseRevoked | streamAborted | powerOffSoon
  deriving DecidableEq, Repr

/-- Reasons of a lease revocation (R124). -/
inductive RevokeReason where
  | ap | ceiling | alarm
  deriving DecidableEq, Repr

/-- Which leases a revocation took (R124). -/
inductive Revoked where
  | active | parked | both
  deriving DecidableEq, Repr

/-- Details of the RM notices (section 9.4). -/
inductive RmDetail where
  | space (bytes : Nat)
  | leaseGranted (mW expiry : Nat)
  | leaseRevoked (mW : Nat) (reason : RevokeReason) (what : Revoked)
  | streamAborted (id tag : Nat)
  | powerOffSoon (ms : Nat)
  deriving DecidableEq, Repr

/-- The notice unit. An RM source is pending when its detail is present (R173). `wakeOut` says that a wake request is
outstanding (R171, R172). -/
structure NoticeUnit where
  ap : List Notice
  rm : List (Option RmDetail)
  wakeOut : Bool
  deriving DecidableEq, Repr

/-! ### Answers and ports (chapter 10) -/

/-- Statuses, in code order (section 10.2). -/
inductive Status where
  | ok | accepted | clamped | refusedState | badArgument | badOffset | noSpace | noSlot | inUse | lost | duplicate
  | outOfOrder | full | halted | empty | late | noHeadroom | notPermitted | unknownRequest
  deriving DecidableEq, Repr

/-- Reasons LOAD_CURVE names (R100). -/
inductive CurveFault where
  | range | origin | order
  deriving DecidableEq, Repr

/-- States of the light (R99). -/
inductive LightState where
  | off | ramping | steady
  deriving DecidableEq, Repr

/-- A slot record with the role the panel drive gives it (R39). -/
structure SlotView where
  number : Nat
  slot : Slot
  shown : Bool
  target : Bool
  deriving DecidableEq, Repr

/-- What LIST_SLOTS returns (R39). -/
structure SlotList where
  slots : List SlotView
  rest : Option Nat
  empty : Option Nat
  pinned : Nat
  use : Nat
  deriving DecidableEq, Repr

/-- What TURN_STATUS returns of a key (R68). -/
structure KeyView where
  pressed : Bool
  hold : Hold
  edgeTime : Nat
  deriving DecidableEq, Repr

/-- What TURN_STATUS returns of the miss record (R68). -/
structure MissView where
  key : PageKey
  mode : TurnMode
  origin : Origin
  elapsed : Nat
  deriving DecidableEq, Repr

/-- What TURN_STATUS returns (R68). -/
structure TurnView where
  engine : Engine
  queue : List Entry
  miss : Option MissView
  keys : List KeyView
  routes : List Route
  want : Want
  deriving DecidableEq, Repr

/-- What PANEL_STATUS returns of the update record (R95). -/
structure UpdateView where
  target : Nat
  mode : UpdMode
  phase : Phase
  band : Option Nat
  frames : Option Nat
  firstRow : Option Nat
  lastRow : Option Nat
  changed : Option Nat
  demand : Option Nat
  frame : Nat
  deriving DecidableEq, Repr

/-- What PANEL_STATUS returns (R95). -/
structure PanelView where
  shown : Option Nat
  shownKey : Option PageKey
  target : Option Nat
  fidelity : Fidelity
  ghost : Nat
  rail : Rail
  holdLeft : Option Nat
  wave : WaveState
  commitFail : Option CommitFail
  lastGood : Option Int
  lastRead : Option Bool
  band : Option Nat
  update : Option UpdateView
  deriving DecidableEq, Repr

/-- What LIGHT_STATE returns (R112). -/
structure LightView where
  target : Nat
  warmth : Nat
  remembered : Nat
  applied : Nat
  state : LightState
  capped : Bool
  alarmHold : Bool
  fading : Bool
  requested : Nat
  demand : Nat
  grant : Nat
  total : Nat
  duty : Duty
  buffer : Option Duty
  rampLeft : Option Nat
  curve : List Nat
  deriving DecidableEq, Repr

/-- What HEADROOM_STATUS returns of the active lease (R132). -/
structure LeaseView where
  mW : Nat
  origin : LeaseOrigin
  left : Nat
  deriving DecidableEq, Repr

/-- What HEADROOM_STATUS returns (R132). -/
structure HeadroomView where
  v : Nat
  i : Int
  capped : Nat
  ceiling : Nat
  ap : Allot
  panel : Allot
  radio : Allot
  light : Allot
  apWait : Option Nat
  panelWait : Option Nat
  active : Option LeaseView
  parked : Option ParkedLease
  unreleased : Option LeaseEnd
  alarm : Option AlarmCause
  clearLeft : Option Nat
  deriving DecidableEq, Repr

/-- What BATTERY_STATUS returns (R150). -/
structure BatteryView where
  lastV : Nat
  lastI : Int
  q : Nat
  r : Int
  percent : Nat
  battery : Battery
  charger : Charger
  capped : Nat
  graceLeftS : Option Nat
  deriving DecidableEq, Repr

/-- What SLEEP_STATUS returns (R150). -/
structure SleepView where
  power : Power
  sleepTarget : Option SleepTarget
  ap : ApDomain
  radio : Bool
  heldWake : Bool
  apOffLeft : Option Nat
  idleLeft : Option Nat
  deferLeft : Option Nat
  radioLeft : Option Nat
  depletionLeft : Option Nat
  stage : Option Stage
  resumeKey : Option PageKey
  time : Nat
  alarm : Option Nat
  outcome : Option AlarmOutcome
  deriving DecidableEq, Repr

/-- An entry of the stream table as STAGING_STATUS returns it (R164), with whether a block of it is in writing. -/
structure StreamView where
  id : Nat
  stream : Option Stream
  writing : Bool
  deriving DecidableEq, Repr

/-- What STAGING_STATUS returns (R164). -/
structure StagingView where
  bytes : Nat
  blocks : Nat
  oldest : Option (Nat × Nat)
  ring : List Nat
  write : Option RingPos
  read : Option RingPos
  extents : Nat
  stream1 : StreamView
  stream2 : StreamView
  idleLeft : Option Nat
  watch : Option Nat
  space : Nat
  deriving DecidableEq, Repr

/-- What PEEK_NOTICES returns of one source (R171). -/
structure NoticeView where
  pending : Bool
  count : Nat
  level : Nat
  priority : Nat
  deriving DecidableEq, Repr

/-- The value READ_SHARED returns (R180). -/
inductive Shared where
  | battery (percent : Nat) (state : Battery)
  | time (t : Nat)
  | power (p : Power)
  | light (level : Nat)
  deriving DecidableEq, Repr

/-- The bodies of the answers. -/
inductive AnswerBody where
  | none
  | identify (part revision extents slots : Nat)
  | notice (number : Nat) (detail : Option Detail) (count left : Nat)
  | rmNotice (order : Nat) (detail : RmDetail) (left : Nat)
  | noNotice
  | param (number value : Nat)
  | paramRow (value low high dflt : Nat)
  | shared (v : Shared)
  | opened (slot : Nat) (extents : List Nat)
  | slot (n : Nat)
  | written (length : Nat)
  | forgot (forgotten skipped : Nat)
  | slots (l : SlotList)
  | turns (t : TurnView)
  | commitFail (f : CommitFail)
  | panel (p : PanelView)
  | curveFault (point : Nat) (reason : CurveFault)
  | light (l : LightView)
  | alarmStays (v vcut grants ceiling : Nat)
  | headroom (h : HeadroomView)
  | timeSet (alarmCleared : Bool)
  | battery (b : BatteryView)
  | sleep (v : SleepView)
  | removed (blocks bytes : Nat)
  | drained (b : Block) (tag left : Nat) (payload : List Byte)
  | staging (v : StagingView)
  | notices (l : List NoticeView) (threshold : Nat) (wakeOut : Bool)
  | cleared (n : Nat)
  | stream (id : Nat)
  deriving DecidableEq, Repr

/-- An answer: status and body. -/
structure Answer where
  status : Status
  body : AnswerBody
  deriving DecidableEq, Repr

/-- States of a port (section 10.1). -/
inductive PortState where
  | waitingSync | receiving | busy | answering | ignoring
  deriving DecidableEq, Repr

/-- A frame a port holds (R176); `live` says that its window is still open. -/
structure HeldFrame where
  message : Message
  live : Bool
  deriving DecidableEq, Repr

/-- A port: its state, its receive buffer, the request in progress (its kind of memory work, and whether its window is
still open), the held frame, the answer being sent, and the last answer that was given into an open window (the model's
own, kept for the reader of a run). -/
structure PortUnit where
  state : PortState
  buffer : List Byte
  busy : Option Bool
  held : Option HeldFrame
  answer : Option Answer
  lastAnswer : Option Answer
  deriving DecidableEq, Repr

/-- The share grants Port R holds (R180). -/
structure ShareGrants where
  battery : Bool
  time : Bool
  power : Bool
  light : Bool
  deriving DecidableEq, Repr

/-! ### The whole device -/

/-- Levels of the input pins the model keeps: the four keys (`true` pressed), the charger lines and AWAKE. -/
structure Pins where
  keys : List Bool
  chgPresent : Bool
  chgDone : Bool
  awake : Bool
  deriving DecidableEq, Repr

/-- The state of the AB420. `now` is the timebase in milliseconds and `pending` the queue of waiting commands; both are
the model's. -/
structure State where
  params : Params
  pool : Pool
  slots : SlotTable
  turn : TurnEngine
  panel : PanelDrive
  light : LightUnit
  head : Headroom
  bs : Controller
  staging : Staging
  notices : NoticeUnit
  portA : PortUnit
  portR : PortUnit
  shares : ShareGrants
  pins : Pins
  now : Nat
  pending : List Instr
  deriving DecidableEq, Repr

/-- Faults. No command of this part faults: every row of the table has an effect or leaves the state as it is, and no
rule names a fault. The one constructor is raised by nothing (safe: a model that never faults refuses no run). -/
inductive Fault where
  /-- raised by no command; kept so that the type has an inhabitant -/
  | never
  deriving DecidableEq, Repr

/-- Refusals. -/
inductive Refusal where
  /-- A command that has no meaning yet; raised by no arm of this model (safe). -/
  | notModelled (mnemonic : String)
  deriving DecidableEq, Repr

/-! ### Values after power-on -/

/-- The pool at power-on (R1, R2, R12). -/
def Pool.reset : Pool :=
  { owners := List.replicate 504 .free ++ List.replicate 8 .waveform
    free := List.range 504
    mem := []
    pointer := .portA
    mode := .active
    workA := none
    workR := none
    scans := []
    feed := { shown := 0, target := 0, waveform := 0, room := false, lost := false } }

/-- The slot table at power-on (R21, R22, R25). -/
def SlotTable.reset : SlotTable :=
  { slots := List.replicate 24 (Slot.cleared false), rest := none, empty := none, use := 0 }

/-- A key input record at a start at time `t` with its pin as given (R46). -/
def KeyInput.start (pressed : Bool) (t : Nat) : KeyInput :=
  { pressed := pressed, candidate := none, debounce := none, edgeTime := t, hold := .idle, holdTimer := none,
    repeatTimer := none, dir := .plus }

/-- The turn engine at power-on with the key pins as given (R46, R49, R51, R70). -/
def TurnEngine.start (keys : List Bool) (t : Nat) : TurnEngine :=
  { keys := keys.map (fun p => KeyInput.start p t), routes := [.next, .prev, .light, .power], queue := [],
    engine := .idle, miss := none, turn := none, want := none }

/-- The panel drive at power-on (R72, R76, R77). -/
def PanelDrive.reset : PanelDrive :=
  { wave := .absent, commitFail := none, lastGood := none, lastRead := none, band := none, shown := none,
    shownKey := none, target := none, fidelity := .unknown, ghost := 0, rail := .off, update := none,
    riseTimer := none, fallTimer := none, holdTimer := none, waitTimer := none }

/-- The light unit at power-on (R97, R99, R100). -/
def LightUnit.reset : LightUnit :=
  { target := 0, warmth := 32, remembered := 128, applied := 0, capped := false, alarmHold := false, fading := false,
    requested := 0, demand := 0, grant := 0, total := 0, curve := (List.range 17).map (fun i => 64 * i),
    buffer := none, duty := { warm := 0, cool := 0, gap := 16 }, running := true, rampTimer := none }

/-- The headroom arbiter at power-on, before the first sample (R114, R115). -/
def Headroom.reset : Headroom :=
  { v := 0, i := 0, capped := 0, ceiling := 0, ap := ⟨0, 0⟩, panel := ⟨0, 0⟩, radio := ⟨0, 0⟩, light := ⟨0, 0⟩,
    apWait := none, panelWait := none, active := none, parked := none, unreleased := none, alarm := none,
    clearTimer := none, sampled := false, vcut := 3300 }

/-- The charger state of a start (section 7.2). -/
def chargerAtStart (present done : Bool) : Charger :=
  if present && done then .done else .absent

/-- The battery and sleep controller at power-on (section 7.2, R138, R139, R147). -/
def Controller.start (present done : Bool) : Controller :=
  { lastV := 0, lastI := 0, q := 750, r := 0, percent := 50, battery := .normal,
    charger := chargerAtStart present done, power := .run, sleepTarget := none, ap := .on, radio := false,
    heldWake := false, stage := none, depleting := false, resumeKey := none, apOffTimer := none, idleTimer := none,
    deferTimer := none, radioTimer := none, graceTimer := none, depletionTimer := none, restartTimer := none,
    time := 0, alarm := none, outcome := none }

/-- The staging unit at power-on (R166). -/
def Staging.reset : Staging :=
  { stream1 := none, stream2 := none, queue := [], ring := [], write := none, writing := none, idleTimer := none,
    watch := none }

/-- The default levels of the AP sources, in number order (section 9.1). -/
def defaultLevels : List Nat := [6, 5, 3, 4, 3, 4, 2, 7, 7, 2, 4, 5, 3, 2, 2, 1, 1, 0, 3, 1]

/-- The AP notice set at power-on: nothing pending, source n at its default level and at priority (20 - n) mod 8
(section 9.1, R168, R174). -/
def defaultNotices : List Notice :=
  defaultLevels.mapIdx (fun k l => { pending := false, detail := none, count := 0, level := l, priority := (19 - k) % 8 })

/-- The notice unit at power-on (R174). -/
def NoticeUnit.reset : NoticeUnit :=
  { ap := defaultNotices, rm := List.replicate 5 none, wakeOut := false }

/-- A port at power-on (R175). -/
def PortUnit.reset : PortUnit :=
  { state := .waitingSync, buffer := [], busy := none, held := none, answer := none, lastAnswer := none }

/-- No item granted (R180). -/
def ShareGrants.reset : ShareGrants := ⟨false, false, false, false⟩

/-- Every block at its power-on value, with the pins as given and no sample taken yet. -/
def State.start (pins : Pins) : State :=
  { params := Params.defaults
    pool := Pool.reset
    slots := SlotTable.reset
    turn := TurnEngine.start pins.keys 0
    panel := PanelDrive.reset
    light := LightUnit.reset
    head := Headroom.reset
    bs := Controller.start pins.chgPresent pins.chgDone
    staging := Staging.reset
    notices := NoticeUnit.reset
    portA := PortUnit.reset
    portR := PortUnit.reset
    shares := ShareGrants.reset
    pins := pins
    now := 0
    pending := [] }

/-- Right after power-on, before the first sample: no key pressed, no charger, AWAKE high. -/
def State.reset : State :=
  State.start { keys := [false, false, false, false], chgPresent := false, chgDone := false, awake := true }

end Sys2Proof.Machine
end

