-- ==== Sys2Proof/Machine/Formats.lean ====
section
/-!
DEFINITION. Answers as bytes (R182): the status codes, the encoding of every answer body, and the response the port sends.
Where R182 leaves a layout open (the field order and widths of a status answer), the log entries on R182 say what is taken.
-/

namespace Sys2Proof.Machine

/-- Statuses in code order (section 10.2). -/
def statusList : List Status :=
  [.ok, .accepted, .clamped, .refusedState, .badArgument, .badOffset, .noSpace, .noSlot, .inUse, .lost, .duplicate,
   .outOfOrder, .full, .halted, .empty, .late, .noHeadroom, .notPermitted, .unknownRequest]

/-- The code of a status (section 10.2). -/
def statusCode (c : Status) : Nat := statusList.idxOf c

/-- A named value in one byte: its place in the owning chapter's list (R182). -/
def named {α : Type} [DecidableEq α] (l : List α) (x : α) : List Byte := [byteOf (l.idxOf x)]

/-- An optional field (R182). -/
def optField {α : Type} (f : α → List Byte) : Option α → List Byte
  | none => [byteOf 0]
  | some x => byteOf 1 :: f x

/-- A list of at most 255 entries (R182). -/
def listField {α : Type} (f : α → List Byte) (l : List α) : List Byte := byteOf l.length :: (l.map f).flatten

/-- A byte payload (R182). -/
def payloadField (p : List Byte) : List Byte := leBytes 2 p.length ++ p

/-- A signed number whose range, like that of the remainder r, does not fit 2 bytes. DEDUCED (log 25): the smallest width
that holds it, 3 bytes, in two's complement. -/
def signed3 (i : Int) : List Byte := leBytes 3 (i % 16777216).toNat

/-! ### Named values, each list in the owning chapter's order -/

def clsCodes : List Cls := [.streamed, .retained, .pinned]
def edgeCodes : List Edge := [.first, .last]
def designationCodes : List Designation := [.rest, .empty]
def turnModeCodes : List TurnMode := [.auto, .full, .grey, .fast]
def routeCodes : List Route := [.next, .prev, .light, .power, .noticeOnly, .none]
def sleepTargetCodes : List SleepTarget := [.doze, .deep]
def shareItemCodes : List ShareItem := [.battery, .time, .powerState, .light]
def closedByCodes : List ClosedBy := [.complete, .failed]
def slotStateCodes : List SlotState := [.empty, .filling, .verifying, .ready]
def originCodes : List Origin := [.key, .repeated, .portA, .sleep]
def purposeCodes : List Purpose := [.rest, .empty, .resume]
def engineCodes : List Engine := [.idle, .waitingPage, .waitingPower, .updating, .halted]
def holdCodes : List Hold := [.idle, .held, .repeating]
def updModeCodes : List UpdMode := [.full, .grey, .fast]
def waveCodes : List WaveState := [.absent, .loading, .valid]
def fidelityCodes : List Fidelity := [.exact, .twoLevel, .unknown]
def railCodes : List Rail := [.off, .rising, .hot, .driving, .falling]
def phaseCodes : List Phase := [.planning, .awaitRails, .riseWait, .rising, .driveWait, .driving]
def imageFaultCodes : List ImageFault := [.badSpan, .rowLength, .rowCount, .trailingBytes]
def curveFaultCodes : List CurveFault := [.range, .origin, .order]
def lightStateCodes : List LightState := [.off, .ramping, .steady]
def leaseOriginCodes : List LeaseOrigin := [.atOnce, .fromPark]
def leaseEndCodes : List LeaseEnd := [.expired, .revoked]
def alarmCauseCodes : List AlarmCause := [.voltage, .ceiling]
def batteryCodes : List Battery := [.normal, .low, .critical]
def chargerCodes : List Charger := [.absent, .charging, .done]
def powerCodes : List Power := [.run, .apStopping, .doze, .enteringDeep, .deep, .depleted]
def apDomainCodes : List ApDomain := [.off, .requested, .on]
def outcomeCodes : List AlarmOutcome := [.firedDeep, .skippedBattery, .firedAwake]
def streamStateCodes : List StreamState := [.open, .closed, .aborted]
def closeReasonCodes : List CloseReason := [.complete, .failed, .sleep, .aborted, .radioReset]
def criticalCodes : List CriticalCause := [.percent, .headroom]
/-- PRESUMED (log 25): the reasons of TURN_ABANDONED in the order in which R59 to R65 first name them. -/
def abandonCodes : List Abandon := [.missTimeout, .battery, .noWaveform, .noHeadroom, .sleep]
/-- PRESUMED (log 25): the sign of BOOK_EDGE's offset is one byte, 0 for plus and 1 for minus. -/
def stepDirCodes : List StepDir := [.plus, .minus]
def revokeCodes : List RevokeReason := [.ap, .ceiling, .alarm]
def revokedCodes : List Revoked := [.active, .parked, .both]

/-- A consumer's code: its place among AP, PANEL, RADIO and LIGHT (section 6.3). -/
def consumerCode : Consumer → Nat
  | .ap => 0
  | .radio => 2

/-- The number of an ENTERING_DEEP stage in R143. PRESUMED (log 25): it is sent as a number. Stages 1 and 4 run within one
action and are never seen; the wait for what stage 6 asks is stage 6. -/
def stageNumber : Stage → Nat
  | .restImage => 2
  | .fade => 3
  | .rails => 5
  | .ready => 6
  | .selfRefresh => 6

/-! ### Fields -/

/-- A page key: a book of two bytes and a page of three (R182). -/
def keyField (k : PageKey) : List Byte := leBytes 2 k.book ++ leBytes 3 k.page

/-- A turn kind: STEP(+1) 0, STEP(-1) 1, GOTO 2 with its key (section 3.3). -/
def turnKindField : TurnKind → List Byte
  | .step .plus => [byteOf 0]
  | .step .minus => [byteOf 1]
  | .goto k => byteOf 2 :: keyField k

/-- A turn entry: origin, kind, mode, purpose (R68). -/
def entryField (e : Entry) : List Byte :=
  named originCodes e.origin ++ turnKindField e.kind ++ named turnModeCodes e.mode
    ++ optField (named purposeCodes) e.purpose

/-- A ring position: extent number and offset. -/
def ringPosField (p : RingPos) : List Byte := leBytes 2 p.extent ++ leBytes 2 p.offset

/-- A refill want: book and page list (R66). -/
def wantField (w : Want) : List Byte := leBytes 2 w.book ++ listField (leBytes 3) w.pages

/-- The detail of an AP notice (section 9.1). -/
def detailField : Detail → List Byte
  | .powerKey p => named powerCodes p
  | .turnMiss k => keyField k
  | .refillWanted w => wantField w
  | .staged bytes blocks => leBytes 3 bytes ++ leBytes 3 blocks
  | .streamEnd id tag r bytes => leBytes 1 id ++ leBytes 4 tag ++ named closeReasonCodes r ++ leBytes 4 bytes
  | .batteryLow p q => leBytes 1 p ++ leBytes 2 q
  | .batteryCritical p c g => leBytes 1 p ++ named criticalCodes c ++ leBytes 2 g
  | .powerAlarm c v l => named alarmCauseCodes c ++ leBytes 2 v ++ leBytes 2 l
  | .charger a b c => flagByte a :: flagByte b :: named chargerCodes c
  | .wakeAlarm t r => leBytes 4 t ++ optField (fun on => [byteOf (if on then 0 else 1)]) r
  | .touch n => leBytes 1 n
  | .key k => leBytes 1 k
  | .slotRejected n k r => leBytes 1 n ++ keyField k ++ named imageFaultCodes r
  | .turnAbandoned k r => optField keyField k ++ named abandonCodes r
  | .turnOverrun o k => named originCodes o ++ turnKindField k
  | .bookEdge k d => keyField k ++ named stepDirCodes d
  | .updateDone k m => keyField k ++ named updModeCodes m
  | .noHeadroom c mW l => leBytes 1 (consumerCode c) ++ leBytes 2 mW ++ leBytes 2 l
  | .tempRange t => signedBytes t

/-- The detail of an RM notice (section 9.4). PRESUMED (log 25): a time is the low 4 bytes of the millisecond count. -/
def rmDetailField : RmDetail → List Byte
  | .space n => leBytes 3 n
  | .leaseGranted mW e => leBytes 2 mW ++ leBytes 4 e
  | .leaseRevoked mW r w => leBytes 2 mW ++ named revokeCodes r ++ named revokedCodes w
  | .streamAborted id tag => leBytes 1 id ++ leBytes 4 tag
  | .powerOffSoon ms => leBytes 2 ms

/-- A slot record with its roles (R39). DESIGN CHOICE (log 36): an EMPTY slot's declared length is sent as 0, with no presence
byte. PRESUMED (log 25): the roles SHOWN and TARGET are two flags after the lost mark. -/
def slotField (v : SlotView) : List Byte :=
  leBytes 1 v.number ++ named slotStateCodes v.slot.state ++ optField keyField v.slot.key
    ++ optField (named clsCodes) v.slot.cls ++ listField (leBytes 2) v.slot.extents ++ leBytes 3 v.slot.declared
    ++ leBytes 3 v.slot.written ++ [flagByte v.slot.reservation, flagByte v.slot.fullRefresh]
    ++ optField (named edgeCodes) v.slot.edge ++ leBytes 4 v.slot.age
    ++ [flagByte v.slot.forget, flagByte v.slot.lost, flagByte v.shown, flagByte v.target]

/-- TURN_STATUS (R68). PRESUMED (log 25): the four keys and four routes carry no count. -/
def turnViewField (v : TurnView) : List Byte :=
  named engineCodes v.engine ++ listField entryField v.queue
    ++ optField (fun m => keyField m.key ++ named turnModeCodes m.mode ++ named originCodes m.origin
        ++ leBytes 2 m.elapsed) v.miss
    ++ (v.keys.map (fun k => flagByte k.pressed :: named holdCodes k.hold ++ leBytes 4 k.edgeTime)).flatten
    ++ (v.routes.map (named routeCodes)).flatten ++ wantField v.want

/-- The detail of a failed commit: mode, band and reason, and for DRIVE_CODE the drive's place (R74). PRESUMED (log 25): for
FRAME_COUNT the place is left out, and no presence byte stands for it. -/
def commitFailField (f : CommitFail) : List Byte :=
  named updModeCodes f.mode ++ leBytes 1 f.band ++
    match f.reason with
    | .frameCount => [byteOf 0]
    | .driveCode a b k => byteOf 1 :: leBytes 1 a ++ leBytes 1 b ++ leBytes 1 k

/-- An update record (R95): each field not yet planned is absent under a presence byte of its own. -/
def updateField (u : UpdateView) : List Byte :=
  leBytes 1 u.target ++ named updModeCodes u.mode ++ named phaseCodes u.phase ++ optField (leBytes 1) u.band
    ++ optField (leBytes 1) u.frames ++ optField (leBytes 2) u.firstRow ++ optField (leBytes 2) u.lastRow
    ++ optField (leBytes 3) u.changed ++ optField (leBytes 2) u.demand ++ leBytes 1 u.frame

/-- PANEL_STATUS (R95). -/
def panelViewField (v : PanelView) : List Byte :=
  optField (leBytes 1) v.shown ++ optField keyField v.shownKey ++ optField (leBytes 1) v.target
    ++ named fidelityCodes v.fidelity ++ leBytes 1 v.ghost ++ named railCodes v.rail ++ optField (leBytes 2) v.holdLeft
    ++ named waveCodes v.wave ++ optField commitFailField v.commitFail ++ optField signedBytes v.lastGood
    ++ optField (fun good => [byteOf (if good then 0 else 1)]) v.lastRead ++ optField (leBytes 1) v.band
    ++ optField updateField v.update

/-- A set of duties (R112). -/
def dutyField (d : Duty) : List Byte := leBytes 2 d.warm ++ leBytes 2 d.cool ++ leBytes 1 d.gap

/-- LIGHT_STATE (R112). -/
def lightViewField (v : LightView) : List Byte :=
  leBytes 1 v.target ++ leBytes 1 v.warmth ++ leBytes 1 v.remembered ++ leBytes 1 v.applied
    ++ named lightStateCodes v.state ++ [flagByte v.capped, flagByte v.alarmHold, flagByte v.fading]
    ++ leBytes 2 v.requested ++ leBytes 2 v.demand ++ leBytes 2 v.grant ++ leBytes 2 v.total ++ dutyField v.duty
    ++ optField dutyField v.buffer ++ optField (leBytes 1) v.rampLeft ++ listField (leBytes 2) v.curve

/-- A row of the allotment table (R132). -/
def allotField (a : Allot) : List Byte := leBytes 2 a.demand ++ leBytes 2 a.grant

/-- HEADROOM_STATUS (R132). PRESUMED (log 25): the waiting AP request is sent as the mW it asks for, in 2 bytes after its
presence byte, and the alarm state is a flag, 1 while the alarm is set, before its cause. -/
def headroomViewField (v : HeadroomView) : List Byte :=
  leBytes 2 v.v ++ signedBytes v.i ++ leBytes 2 v.capped ++ leBytes 2 v.ceiling ++ allotField v.ap ++ allotField v.panel
    ++ allotField v.radio ++ allotField v.light ++ optField (leBytes 2) v.apWait ++ optField (leBytes 2) v.panelWait
    ++ optField (fun l => leBytes 2 l.mW ++ named leaseOriginCodes l.origin ++ leBytes 2 l.left) v.active
    ++ optField (fun l => leBytes 2 l.mW ++ leBytes 2 l.duration) v.parked ++ optField (named leaseEndCodes) v.unreleased
    ++ [flagByte v.alarm.isSome] ++ optField (named alarmCauseCodes) v.alarm ++ optField (leBytes 2) v.clearLeft

/-- BATTERY_STATUS (R150), with r in 3 bytes (log 25). -/
def batteryViewField (v : BatteryView) : List Byte :=
  leBytes 2 v.lastV ++ signedBytes v.lastI ++ leBytes 2 v.q ++ signed3 v.r ++ leBytes 1 v.percent
    ++ named batteryCodes v.battery ++ named chargerCodes v.charger ++ leBytes 2 v.capped
    ++ optField (leBytes 2) v.graceLeftS

/-- SLEEP_STATUS (R150). PRESUMED (log 25): the time left of each timer is in milliseconds, in 2 bytes, or in 3 where the
timer's parameter reaches beyond 65 seconds. -/
def sleepViewField (v : SleepView) : List Byte :=
  named powerCodes v.power ++ optField (named sleepTargetCodes) v.sleepTarget ++ named apDomainCodes v.ap
    ++ [flagByte v.radio, flagByte v.heldWake] ++ optField (leBytes 2) v.apOffLeft ++ optField (leBytes 3) v.idleLeft
    ++ optField (leBytes 3) v.deferLeft ++ optField (leBytes 2) v.radioLeft ++ optField (leBytes 2) v.depletionLeft
    ++ optField (fun g => leBytes 1 (stageNumber g)) v.stage ++ optField keyField v.resumeKey ++ leBytes 4 v.time
    ++ optField (leBytes 4) v.alarm ++ optField (named outcomeCodes) v.outcome

/-- A stream with every field of section 8.2, its id first. -/
def streamField (id : Nat) (x : Stream) : List Byte :=
  leBytes 1 id ++ named streamStateCodes x.state ++ leBytes 4 x.tag ++ leBytes 4 x.next ++ [flagByte x.exhausted]
    ++ optField (leBytes 4) x.total ++ leBytes 4 x.accepted ++ optField (named closeReasonCodes) x.reason

/-- An entry of the stream table (R164). PRESUMED (log 25): a free entry carries the in-writing flag too. -/
def streamViewField (v : StreamView) : List Byte := optField (streamField v.id) v.stream ++ [flagByte v.writing]

/-- STAGING_STATUS (R164). A ring of up to 256 extents has a count of two bytes. PRESUMED (log 25): the oldest block's stream
id and sequence stand behind one presence byte for both. -/
def stagingViewField (v : StagingView) : List Byte :=
  leBytes 3 v.bytes ++ leBytes 3 v.blocks ++ optField (fun o => leBytes 1 o.1 ++ leBytes 4 o.2) v.oldest
    ++ leBytes 2 v.ring.length ++ (v.ring.map (leBytes 2)).flatten ++ optField ringPosField v.write
    ++ optField ringPosField v.read ++ leBytes 2 v.extents ++ streamViewField v.stream1 ++ streamViewField v.stream2
    ++ optField (leBytes 3) v.idleLeft ++ optField (leBytes 3) v.watch ++ leBytes 3 v.space

/-- The value of a shared item (R180). -/
def sharedField : Shared → List Byte
  | .battery p b => leBytes 1 p ++ named batteryCodes b
  | .time t => leBytes 4 t
  | .power p => named powerCodes p
  | .light l => leBytes 1 l

/-- The drain block record, 20 bytes (R182). -/
def drainRecord (b : Block) (tag left : Nat) : List Byte :=
  leBytes 1 b.stream ++ leBytes 4 b.sequence ++ [flagByte b.first, flagByte b.last] ++ leBytes 2 b.length
    ++ leBytes 2 b.pos.extent ++ leBytes 2 b.pos.offset ++ leBytes 4 tag ++ leBytes 3 left

/-- The bytes of an answer body (R182). PRESUMED (log 25): the OK answer of SET_TIME always carries one flag byte, set where
a wake alarm was cleared (R147), and TAKE_NOTICE's answer starts with a presence byte. -/
def bodyBytes : AnswerBody → List Byte
  | .none => []
  | .identify a b c d => leBytes 2 a ++ leBytes 1 b ++ leBytes 2 c ++ leBytes 1 d
  | .notice n d c l => byteOf 1 :: leBytes 1 n ++ (d.map detailField).getD [] ++ leBytes 1 c ++ leBytes 1 l
  | .rmNotice o d l => byteOf 1 :: leBytes 1 o ++ rmDetailField d ++ leBytes 1 l
  | .noNotice => [byteOf 0]
  | .param n v => leBytes 1 n ++ leBytes 4 v
  | .paramRow v lo hi d => leBytes 4 v ++ leBytes 4 lo ++ leBytes 4 hi ++ leBytes 4 d
  | .shared v => sharedField v
  | .opened n es => leBytes 1 n ++ listField (leBytes 2) es
  | .slot n => leBytes 1 n
  | .written n => leBytes 3 n
  | .forgot a b => leBytes 1 a ++ leBytes 1 b
  | .slots l =>
    listField slotField l.slots ++ optField (leBytes 1) l.rest ++ optField (leBytes 1) l.empty ++ leBytes 1 l.pinned
      ++ leBytes 4 l.use
  | .turns t => turnViewField t
  | .commitFail f => commitFailField f
  | .panel p => panelViewField p
  | .curveFault i r => leBytes 1 i ++ named curveFaultCodes r
  | .light l => lightViewField l
  | .alarmStays v c g l => leBytes 2 v ++ leBytes 2 c ++ leBytes 2 g ++ leBytes 2 l
  | .headroom h => headroomViewField h
  | .timeSet c => [flagByte c]
  | .battery b => batteryViewField b
  | .sleep v => sleepViewField v
  | .removed n b => leBytes 3 n ++ leBytes 3 b
  | .drained b t l p => drainRecord b t l ++ p
  | .staging v => stagingViewField v
  | .notices l t o =>
    (l.map (fun n => flagByte n.pending :: leBytes 1 n.count ++ leBytes 1 n.level ++ leBytes 1 n.priority)).flatten
      ++ leBytes 1 t ++ [flagByte o]
  | .cleared n => leBytes 1 n
  | .stream id => leBytes 1 id

/-- The response a port sends for an answer: ready marker, status, body length and body (R177, R182). -/
def responseBytes (a : Answer) : List Byte :=
  Config.readyMarker :: byteOf (statusCode a.status) :: leBytes 2 (bodyBytes a.body).length ++ bodyBytes a.body

/-- The byte a port sends as its `k`-th since its state was entered (R175, R177, R182): the answer's bytes while it is
ANSWERING and filler after them; filler in every other state. -/
def PortUnit.sends (u : PortUnit) (k : Nat) : Byte :=
  match u.state, u.answer with
  | .answering, some a => (responseBytes a).getD k Config.filler
  | _, _ => Config.filler

end Sys2Proof.Machine
end

