-- ==== Sys2Proof/Machine/Flags.lean ====
section
/-!
DEFINITION. What is derived from the state and stored nowhere: the output lines (ATTN_A, ATTN_R, EN_AP, EN_RADIO, the
rail enables, WARM and COOL), the conditions the blocks test (the wake condition, roles, OPEN streams), and the sums
(staged bytes, PINNED slots). Each follows its condition in the same action as every change to it, as the rules ask.
-/

namespace Sys2Proof.Machine

/-- Place of an AP source in the set: its number less 1 (section 9.1). -/
def Source.idx : Source → Nat
  | .powerKey => 0
  | .turnMiss => 1
  | .refillWanted => 2
  | .stagingTrigger => 3
  | .stagingIdle => 4
  | .streamEnd => 5
  | .batteryLow => 6
  | .batteryCritical => 7
  | .powerAlarm => 8
  | .charger => 9
  | .wakeAlarm => 10
  | .touch => 11
  | .key => 12
  | .slotRejected => 13
  | .turnAbandoned => 14
  | .turnOverrun => 15
  | .bookEdge => 16
  | .updateDone => 17
  | .noHeadroom => 18
  | .tempRange => 19

/-- Place of an RM source in the set: its order less 1 (section 9.4). -/
def RmSource.idx : RmSource → Nat
  | .space => 0
  | .leaseGranted => 1
  | .leaseRevoked => 2
  | .streamAborted => 3
  | .powerOffSoon => 4

/-- A source with nothing pending, level 0 (what a place outside the set reads as). -/
def Notice.blank : Notice := { pending := false, detail := none, count := 0, level := 0, priority := 0 }

/-- The AP source at a place of the set. -/
def State.noticeAt (s : State) (k : Nat) : Notice := s.notices.ap.getD k Notice.blank

/-- ATTN_A is driven low (R169): the AP domain is ON and a source of level 1 or above is pending. -/
def State.attnALow (s : State) : Bool :=
  decide (s.bs.ap = .on) && s.notices.ap.any (fun n => n.pending && decide (1 ≤ n.level))

/-- ATTN_R is driven low (R173): the radio domain is ON and an RM source is pending. -/
def State.attnRLow (s : State) : Bool := s.bs.radio && s.notices.rm.any Option.isSome

/-- EN_AP (R139). -/
def State.enAp (s : State) : Bool := decide (s.bs.ap = .on)

/-- EN_RADIO (R139). -/
def State.enRadio (s : State) : Bool := s.bs.radio

/-- RAIL_EN_POS, RAIL_EN_NEG and RAIL_EN_VCOM: on in every rail state but RAIL_OFF (R83). -/
def State.railsOn (s : State) : Bool := decide (s.panel.rail ≠ .off)

/-- WARM at a count of the PWM period (R97). -/
def State.warmOut (s : State) (count : Nat) : Bool := s.light.running && decide (count < s.light.duty.warm)

/-- COOL at a count of the PWM period (R97). -/
def State.coolOut (s : State) (count : Nat) : Bool :=
  s.light.running && decide (s.light.duty.warm + s.light.duty.gap ≤ count)
    && decide (count < s.light.duty.warm + s.light.duty.gap + s.light.duty.cool)

/-- The light state, derived from target and applied level (R99). -/
def LightUnit.state (l : LightUnit) : LightState :=
  if l.applied ≠ l.target then .ramping else if l.applied = 0 then .off else .steady

/-- The wake condition (R172). -/
def State.wakeCond (s : State) : Bool :=
  decide (s.bs.ap ≠ .on) && s.notices.ap.any (fun n => n.pending && decide (s.params.wakeThreshold < n.level))

/-- A record of the slot table; a number outside the table reads as an EMPTY one. -/
def State.slot (s : State) (n : Nat) : Slot := s.slots.slots.getD n (Slot.cleared false)

/-- Does the panel drive hold the slot as SHOWN? (R77) -/
def State.isShown (s : State) (n : Nat) : Bool := decide (s.panel.shown = some n)

/-- Does the panel drive hold the slot as TARGET? (R77) -/
def State.isTarget (s : State) (n : Nat) : Bool := decide (s.panel.target = some n)

/-- Does a role protect the slot? (R43, R77) -/
def State.hasRole (s : State) (n : Nat) : Bool := s.isShown n || s.isTarget n

/-- The slot numbers in order. -/
def State.slotNumbers (s : State) : List Nat := List.range s.slots.slots.length

/-- The non-EMPTY slot holding a page key (R21: at most one does). -/
def State.slotOfKey (s : State) (k : PageKey) : Option Nat :=
  s.slotNumbers.find? (fun n => decide ((s.slot n).state ≠ .empty) && decide ((s.slot n).key = some k))

/-- The count of PINNED slots (R24). -/
def State.pinned (s : State) : Nat :=
  s.slots.slots.countP (fun x => decide (x.state ≠ .empty) && decide (x.cls = some .pinned))

/-- The staged byte count S (R154). -/
def Staging.bytes (g : Staging) : Nat := (g.queue.map Block.length).sum

/-- A stream of the table by its id (section 8.2). -/
def Staging.stream (g : Staging) (id : Nat) : Option Stream :=
  if id = 1 then g.stream1 else if id = 2 then g.stream2 else none

/-- Is the stream in the table and OPEN? -/
def Staging.isOpen (g : Staging) (id : Nat) : Bool := (g.stream id).any (fun x => decide (x.state = .open))

/-- Is any stream OPEN? (R142) -/
def Staging.anyOpen (g : Staging) : Bool := g.isOpen 1 || g.isOpen 2

/-- Is the stream's block in writing? (R159) -/
def Staging.isWriting (g : Staging) (id : Nat) : Bool := g.writing.any (fun b => decide (b.stream = id))

/-- Has the stream a block queued or in writing? (R152) -/
def Staging.hasBlock (g : Staging) (id : Nat) : Bool := g.queue.any (fun b => decide (b.stream = id)) || g.isWriting id

/-- The read position (R155). -/
def Staging.read (g : Staging) : Option RingPos :=
  match g.queue with
  | b :: _ => some b.pos
  | [] => g.write

/-- "On charge" (R136). -/
def State.onCharge (s : State) : Bool := decide (s.bs.charger ≠ .absent)

/-- Is a port's master powered? Port A is when the AP domain is ON, Port R when the radio domain is ON. -/
def State.portPowered (s : State) : Port → Bool
  | .a => decide (s.bs.ap = .on)
  | .r => s.bs.radio

/-- Do the keys and the touch line act (R47, R50)? In every power state but DEEP and DEPLETED. -/
def State.keysAwake (s : State) : Bool := decide (s.bs.power ≠ .deep) && decide (s.bs.power ≠ .depleted)

/-- Milliseconds left on a timer, none when it is stopped. -/
def State.left (s : State) (t : Option Nat) : Option Nat := t.map (fun d => d - s.now)

/-- The power alarm is set. -/
def State.alarmed (s : State) : Bool := s.head.alarm.isSome

/-- Charge and grants: AP, PANEL and RADIO together (R115, R129). -/
def Headroom.loads (h : Headroom) : Nat := h.ap.grant + h.panel.grant + h.radio.grant

end Sys2Proof.Machine
end

