-- ==== Sys2Proof/Machine/Image.lean ====
section
/-!
DEFINITION. Page images (section 1.7, R16 to R20, R183): the check of R20 byte by byte, the decoding into rows of grey
levels, quantizing (R80) and the image BLANK_SLOT builds (R35).
-/

namespace Sys2Proof.Machine

/-- The image check at its first byte (R20). -/
def ImageCheck.init : ImageCheck := { row := 0, col := 0, phase := .start }

/-- The check stops with a reason (R20). -/
def ImageCheck.fail (c : ImageCheck) (r : ImageFault) : ImageCheck := { c with phase := .failed r }

/-- A RUN or LITERAL of `n` pixels is complete (R16, R20). -/
def ImageCheck.pixels (c : ImageCheck) (n : Nat) : ImageCheck :=
  if Config.rows ≤ c.row then c.fail .rowCount
  else if Config.columns < c.col + n then c.fail .rowLength
  else if c.col + n = Config.columns then { row := c.row + 1, col := 0, phase := .start }
  else { c with col := c.col + n, phase := .start }

/-- A ROW_REPEAT of `n` rows (R18, R20). -/
def ImageCheck.repeated (c : ImageCheck) (n : Nat) : ImageCheck :=
  if c.col ≠ 0 ∨ c.row = 0 then c.fail .badSpan
  else if Config.rows < c.row + n then c.fail .rowCount
  else { c with row := c.row + n, phase := .start }

/-- An END (R19, R20). -/
def ImageCheck.atEnd (c : ImageCheck) : ImageCheck :=
  if c.col ≠ 0 then c.fail .rowLength
  else if c.row < Config.rows then c.fail .rowCount
  else { c with phase := .ended }

/-- The first byte of a span (R183): the top two bits give its kind. -/
def ImageCheck.startSpan (c : ImageCheck) (b : Byte) : ImageCheck :=
  match b.toNat / 64 with
  | 0 => { c with phase := .run (b.toNat / 4) (b.toNat % 4) }
  | 1 => c.repeated (b.toNat % 64 + 1)
  | 2 => if b.toNat = 0x80 then { c with phase := .literalCount } else c.fail .badSpan
  | _ => if b.toNat = 0xC0 then c.atEnd else c.fail .badSpan

/-- One byte of the stream (R20, R183). A span's own malformation (BAD_SPAN) is found before what it does to the row and
column, as the table of R20 lists the reasons. -/
def ImageCheck.step (c : ImageCheck) (b : Byte) : ImageCheck :=
  match c.phase with
  | .start => c.startSpan b
  | .run _ high => c.pixels (256 * high + b.toNat + 1)
  | .literalCount =>
    if inRange 1 64 b.toNat then { c with phase := .literal b.toNat ((b.toNat + 1) / 2) } else c.fail .badSpan
  | .literal count left => if left ≤ 1 then c.pixels count else { c with phase := .literal count (left - 1) }
  | .ended => c.fail .trailingBytes
  | .failed _ => c

/-- The check over a run of bytes. -/
def ImageCheck.feed (c : ImageCheck) (bs : List Byte) : ImageCheck := bs.foldl ImageCheck.step c

/-- Has the check found a failure? -/
def ImageCheck.stopped (c : ImageCheck) : Bool :=
  match c.phase with
  | .failed _ => true
  | _ => false

/-- The result when the image's bytes are over: none for a valid image, or the reason of the first failure (R20). -/
def ImageCheck.result (c : ImageCheck) : Option ImageFault :=
  match c.phase with
  | .ended => none
  | .failed r => some r
  | .start => some .rowCount
  | _ => some .badSpan

/-- The check of a whole image (R20). -/
def checkImage (bs : List Byte) : Option ImageFault := (ImageCheck.init.feed bs).result

/-- Where the decoding stands in a span. -/
inductive DecodePhase where
  | start
  | run (level high : Nat)
  | literalCount
  | literal (left : Nat)
  deriving DecidableEq, Repr

/-- A decoding in progress (R16): the complete rows, the latest first, the current row so far, and the span. -/
structure ImageDecode where
  rows : List (List Nat)
  current : List Nat
  phase : DecodePhase
  deriving DecidableEq, Repr

/-- Pixels of the current row; at column 1,200 the row is complete (R16). -/
def ImageDecode.pixels (d : ImageDecode) (px : List Nat) (next : DecodePhase) : ImageDecode :=
  let row := d.current ++ px
  if Config.columns ≤ row.length then { rows := row :: d.rows, current := [], phase := next }
  else { d with current := row, phase := next }

/-- The levels of one byte of a LITERAL, the high half first, of which `left` are still to come (R17). -/
def literalLevels (b : Byte) (left : Nat) : List Nat := [b.toNat / 16, b.toNat % 16].take left

/-- One byte of the decoding (R16 to R18, R183). -/
def ImageDecode.step (d : ImageDecode) (b : Byte) : ImageDecode :=
  match d.phase with
  | .start =>
    match b.toNat / 64 with
    | 0 => { d with phase := .run (b.toNat / 4) (b.toNat % 4) }
    | 1 => { d with rows := List.replicate (b.toNat % 64 + 1) (d.rows.headD []) ++ d.rows }
    | 2 => { d with phase := .literalCount }
    | _ => d
  | .run level high => d.pixels (List.replicate (256 * high + b.toNat + 1) level) .start
  | .literalCount => { d with phase := .literal b.toNat }
  | .literal left => d.pixels (literalLevels b left) (if left ≤ 2 then .start else .literal (left - 2))

/-- The rows of an image, from row 0 (R16); for a valid image 1,600 rows of 1,200 levels. -/
def imageRows (bs : List Byte) : List (List Nat) :=
  (bs.foldl ImageDecode.step { rows := [], current := [], phase := .start }).rows.reverse

/-- A walk over an image's bytes that looks for the bytes of its rows `first` to `last`: the check so far, the place of
the byte, the first byte of the spans that give the row now decoded, and what has been found. -/
structure RowWalk where
  check : ImageCheck
  pos : Nat
  source : Nat
  start : Nat
  stop : Nat
  deriving DecidableEq, Repr

/-- One byte of the walk. A ROW_REPEAT's rows are given by the spans of the row it repeats (R18). -/
def RowWalk.step (first last : Nat) (w : RowWalk) (b : Byte) : RowWalk :=
  let begins := decide (w.check.phase = .start) && decide (w.check.col = 0) && decide (b.toNat / 64 ≠ 1)
  let src := if begins then w.pos else w.source
  let c := w.check.step b
  { check := c
    pos := w.pos + 1
    source := src
    start := if w.check.row ≤ first ∧ first < c.row then src else w.start
    stop := if w.check.row ≤ last ∧ last < c.row then w.pos + 1 else w.stop }

/-- The bytes of an image that give its rows `first` to `last`: from the first byte of the spans of row `first` up to the
byte that completes row `last` (R16, R18, R88). -/
def rowBytes (first last : Nat) (bs : List Byte) : Nat × Nat :=
  let w := bs.foldl (RowWalk.step first last) { check := ImageCheck.init, pos := 0, source := 0, start := 0, stop := 0 }
  (w.start, w.stop)

/-- Quantizing: levels 0 to 7 become 0, levels 8 to 15 become 15 (R80). -/
def quantize (level : Nat) : Nat := if level ≤ 7 then 0 else 15

/-- The 30 bytes of a page of one level (R35, R183). -/
def blankImage (level : Nat) : List Byte :=
  [byteOf (4 * level + 3), byteOf 0xFF, byteOf (4 * level), byteOf 0xAF] ++ List.replicate 24 (byteOf 0x7F)
    ++ [byteOf 0x7E, byteOf 0xC0]

/-- What comparing two images finds (R80): the changed pixels, and the first and last row holding one. -/
structure Comparison where
  changed : Nat
  firstRow : Nat
  lastRow : Nat
  deriving DecidableEq, Repr

/-- Pixels of a row pair that differ. -/
def rowChanges (old new : List Nat) : Nat := (old.zip new).countP (fun p => p.1 != p.2)

/-- The comparison of two images row by row, from row `row` onward (R80); none changed gives 0, 0, 0. -/
def compareRows (row : Nat) : List (List Nat) → List (List Nat) → Comparison
  | o :: os, n :: ns =>
    let rest := compareRows (row + 1) os ns
    let here := rowChanges o n
    if here = 0 then rest
    else if rest.changed = 0 then { changed := here, firstRow := row, lastRow := row }
    else { changed := here + rest.changed, firstRow := row, lastRow := rest.lastRow }
  | _, _ => { changed := 0, firstRow := 0, lastRow := 0 }

end Sys2Proof.Machine
end

