-- ==== Sys2Proof/Machine/Ops.lean ====
section
/-!
DEFINITION. The operations every block shares: timers, the attached memory, the pool's allocation and release, raising a
notice, and the records of the slot table.
-/

namespace Sys2Proof.Machine

/-! ### Timers -/

/-- A timer started now for `ms` milliseconds. -/
def State.timerFor (s : State) (ms : Nat) : Option Nat := some (s.now + ms)

/-- The timebase at the expiry of a timer: no earlier than the time it was set for. -/
def State.atTime (s : State) (t : Nat) : State := { s with now := max s.now t }

/-! ### Attached memory -/

/-- One byte of memory; an unlisted address reads 0 (R6 for the waveform store). -/
def Memory.read : Memory → Nat → Byte
  | [], _ => 0#8
  | (k, v) :: m, a => if k = a then v else Memory.read m a

/-- Writing one byte; the list keeps its form (addresses rising, no zero byte listed). -/
def Memory.write : Memory → Nat → Byte → Memory
  | [], a, b => if b = 0#8 then [] else [(a, b)]
  | (k, v) :: m, a, b =>
    if k < a then (k, v) :: Memory.write m a b
    else if k = a then (if b = 0#8 then m else (a, b) :: m)
    else if b = 0#8 then (k, v) :: m else (a, b) :: (k, v) :: m

/-- The addresses of a memory rise strictly from above a bound and no entry is zero. -/
def Memory.wfFrom : Nat → Memory → Bool
  | _, [] => true
  | lo, (k, v) :: m => decide (lo ≤ k) && decide (v ≠ 0#8) && Memory.wfFrom (k + 1) m

/-- The canonical form of a memory: addresses strictly rising, no zero byte listed. -/
def Memory.wf (m : Memory) : Bool := Memory.wfFrom 0 m

/-- Writing bytes from an address onward. -/
def Memory.writeBytes : Memory → Nat → List Byte → Memory
  | m, _, [] => m
  | m, a, b :: bs => Memory.writeBytes (Memory.write m a b) (a + 1) bs

/-- Reading `n` bytes from an address onward. -/
def Memory.readBytes (m : Memory) (a : Nat) : Nat → List Byte
  | 0 => []
  | n + 1 => Memory.read m a :: Memory.readBytes m (a + 1) n

/-- The pool address of byte `i` of data laid over an extent list (R7); a byte past the list lies outside the pool. -/
def extentAddr (extents : List Nat) (i : Nat) : Nat :=
  extents.getD (i / Config.extentBytes) Config.poolExtents * Config.extentBytes + i % Config.extentBytes

/-- The bytes of data laid over an extent list (R7). -/
def Memory.laid (m : Memory) (extents : List Nat) (len : Nat) : List Byte :=
  (List.range len).map (fun i => Memory.read m (extentAddr extents i))

/-- The image of a slot (R7). -/
def State.imageOf (s : State) (n : Nat) : List Byte := s.pool.mem.laid (s.slot n).extents (s.slot n).declared

/-- The extents of the waveform store, ascending (R6, R7). -/
def waveExtents : List Nat := (List.range 8).map (fun i => Config.waveFirst + i)

/-! ### Ownership (R1 to R6) -/

/-- The owner table with the owner of each listed extent set. -/
def setOwners (t : List Owner) (extents : List Nat) (o : Owner) : List Owner :=
  extents.foldl (fun t e => t.set e o) t

/-- An allocation of `n` extents from the head of the free list, or none for a shortage (R3). -/
def Pool.allocate (p : Pool) (n : Nat) (o : Owner) : Option (List Nat × Pool) :=
  if n ≤ p.free.length then
    some (p.free.take n, { p with free := p.free.drop n, owners := setOwners p.owners (p.free.take n) o })
  else none

/-- A release: the extents join the tail of the free list in the order given (R4). No release accepts a waveform extent
(R6). -/
def Pool.release (p : Pool) (extents : List Nat) : Pool :=
  let es := extents.filter (fun e => decide (e < Config.waveFirst))
  { p with free := p.free ++ es, owners := setOwners p.owners es .free }

/-- Releasing extents to the pool (R4). -/
def State.release (s : State) (extents : List Nat) : State := { s with pool := s.pool.release extents }

/-! ### Notices -/

/-- The AP set with one source changed. -/
def State.mapNotice (s : State) (k : Nat) (f : Notice → Notice) : State :=
  { s with notices := { s.notices with ap := s.notices.ap.modify k f } }

/-- A raise (R167): the flag is set, the detail replaced, the raise count 1 or one more, saturating at 255. -/
def Notice.raised (n : Notice) (d : Detail) : Notice :=
  { n with pending := true, detail := some d, count := if n.pending then min 255 (n.count + 1) else 1 }

/-- A raise in the AP set without its wake test. -/
def State.mark (s : State) (src : Source) (d : Detail) : State := s.mapNotice src.idx (fun n => n.raised d)

/-- A raise in the AP set while the AP is already REQUESTED or the wake is not served: the request the notice unit
presents finds nothing to do and only stays outstanding (R141, R172). -/
def State.markOut (s : State) (src : Source) (d : Detail) : State :=
  let t := s.mark src d
  { t with notices := { t.notices with wakeOut := t.notices.wakeOut || (!s.wakeCond && t.wakeCond) } }

/-- A taking or clearing of a source: flag and detail go, the raise count becomes 0 (R170, R171). -/
def Notice.taken (n : Notice) : Notice := { n with pending := false, detail := none, count := 0 }

/-- A raise in the RM set: dropped while the radio domain is OFF (R173). -/
def State.raiseRm (s : State) (src : RmSource) (d : RmDetail) : State :=
  if s.bs.radio then { s with notices := { s.notices with rm := s.notices.rm.set src.idx (some d) } } else s

/-- Every RM flag cleared and every detail discarded (R173). -/
def State.clearRm (s : State) : State := { s with notices := { s.notices with rm := List.replicate 5 none } }

/-! ### Slot records -/

/-- The slot table with one record set. -/
def State.setSlot (s : State) (n : Nat) (x : Slot) : State :=
  { s with slots := { s.slots with slots := s.slots.slots.set n x } }

/-- A designation cleared if it names the slot (R25). -/
def SlotTable.undesignate (t : SlotTable) (n : Nat) : SlotTable :=
  { t with rest := if t.rest = some n then none else t.rest, empty := if t.empty = some n then none else t.empty }

/-- A slot becomes EMPTY (R21): its extents are released in list order, its fields cleared, its lost mark as given, and
any designation naming it cleared. -/
def State.emptySlot (s : State) (n : Nat) (lost : Bool) : State :=
  let t := (s.release (s.slot n).extents).setSlot n (Slot.cleared lost)
  { t with slots := t.slots.undesignate n }

/-- A slot is stamped: the counter's value becomes its age stamp, and the counter rises by 1 and stays at its top (R22). -/
def State.stamp (s : State) (n : Nat) : State :=
  let t := s.setSlot n { s.slot n with age := s.slots.use }
  { t with slots := { t.slots with use := min Config.useMax (s.slots.use + 1) } }

/-- Is slot `m` older than slot `n`? A lower age stamp is older, then a lower number (R22). -/
def State.older (s : State) (m n : Nat) : Bool :=
  decide ((s.slot m).age < (s.slot n).age) || (decide ((s.slot m).age = (s.slot n).age) && decide (m < n))

/-- A slot number put in its place, oldest first. -/
def State.insertByAge (s : State) (n : Nat) : List Nat → List Nat
  | [] => [n]
  | m :: ms => if s.older n m then n :: m :: ms else m :: s.insertByAge n ms

/-- Slot numbers oldest first (R22). -/
def State.oldestFirst (s : State) (ns : List Nat) : List Nat := ns.foldr s.insertByAge []

/-- The slots of a state and a class that no role protects. -/
def State.unprotected (s : State) (st : SlotState) (c : Cls) : List Nat :=
  s.slotNumbers.filter
    (fun n => decide ((s.slot n).state = st) && decide ((s.slot n).cls = some c) && !s.hasRole n)

/-- The slots a staging reclaim could take: READY STREAMED, oldest first, then FILLING STREAMED, oldest first (R42). -/
def State.reclaimable (s : State) : List Nat :=
  s.oldestFirst (s.unprotected .ready .streamed) ++ s.oldestFirst (s.unprotected .filling .streamed)

/-! ### Space watch (R165) -/

/-- The space figure (R165). -/
def State.space (s : State) : Nat :=
  let u := match s.staging.write with
    | some w => if s.staging.ring.isEmpty then 0 else Config.extentBytes - w.offset
    | none => 0
  let ring := s.staging.ring.length
  let a := min (s.params.stagingMax - ring) s.pool.free.length
  let page := (s.reclaimable.map (fun n => (s.slot n).extents.length)).sum
  let e := if a = s.pool.free.length ∧ ring + a < s.params.stagingFloor then min (s.params.stagingFloor - ring - a) page
    else 0
  u + Config.extentBytes * (a + e)

/-- Evaluating the space watch: an armed watch that is met raises SPACE and disarms (R165). -/
def State.evalWatch (s : State) : State :=
  match s.staging.watch with
  | some n =>
    if n ≤ s.space then
      { s with staging := { s.staging with watch := none } }.raiseRm .space (.space s.space)
    else s
  | none => s

end Sys2Proof.Machine
end

