-- ==== Sys2Proof/Machine/LightCalc.lean ====
section
/-!
DEFINITION. The arithmetic of the front light (R101 to R104): from the applied level to on-counts, their split by warmth
and their power, and the cap against a grant.
-/

namespace Sys2Proof.Machine

/-- On-counts of an applied level, after the gap limit (R101). -/
def lightTotal (curve : List Nat) (gap level : Nat) : Nat :=
  let i := level / 16
  let lo := curve.getD i 0
  let hi := curve.getD (i + 1) 0
  min (lo + (hi - lo) * (level - 16 * i) / 16) (Config.period - 2 * gap)

/-- The WARM share of a total (R102). -/
def warmShare (warmth t : Nat) : Nat := t * warmth / 64

/-- The power of a total in mW (R102). -/
def lightPower (warmth warmFull coolFull t : Nat) : Nat :=
  (warmShare warmth t * warmFull + (t - warmShare warmth t) * coolFull + 1023) / 1024

/-- The largest total up to a bound whose power is at or below a grant (R103, step 5). -/
def fitTotal (warmth warmFull coolFull grant : Nat) : Nat → Nat
  | 0 => 0
  | t + 1 => if lightPower warmth warmFull coolFull (t + 1) ≤ grant then t + 1
    else fitTotal warmth warmFull coolFull grant t

/-- The duties of a total (R102, R103 step 6). -/
def splitTotal (warmth gap t : Nat) : Duty :=
  { warm := warmShare warmth t, cool := t - warmShare warmth t, gap := gap }

/-- Power of a total under the state's warmth and parameters (R102). -/
def State.powerOf (s : State) (t : Nat) : Nat :=
  lightPower s.light.warmth s.params.warmFullMW s.params.coolFullMW t

/-- The applied total under a grant (R103, steps 4 and 5): a grant of 0 below the demand gives 0, also where more counts
would draw nothing. DEDUCED (log 33). -/
def State.cappedTotal (s : State) (g : Nat) : Nat :=
  if s.light.demand ≤ g then s.light.requested
  else if g = 0 then 0
  else fitTotal s.light.warmth s.params.warmFullMW s.params.coolFullMW g s.light.requested

/-- Does the light unit make duty computations? Not while the alarm holds, nor in DEEP and DEPLETED, where the period
counter is stopped (R96, R100, R108). -/
def State.lightComputes (s : State) : Bool := !s.light.alarmHold && s.light.running

/-- A duty computation from step 4 of R103, with the grant as given (R104). -/
def State.followGrant (s : State) (g : Nat) : State :=
  if s.lightComputes then
    { s with
      light := { s.light with
        grant := g
        total := s.cappedTotal g
        capped := decide (g < s.light.demand)
        buffer := some (splitTotal s.light.warmth s.params.deadGap (s.cappedTotal g)) } }
  else s

end Sys2Proof.Machine
end

