-- ==== Sys2Proof/Machine/Power.lean ====
section
/-!
DEFINITION. The headroom arbiter's shared operations (chapter 6): the test whether a demand fits, grants, leases, the
rebalance of R117, an AP power-up (R118) with the wake it serves (R141, R144), and raising a notice with its wake test
(R167, R172).
-/

namespace Sys2Proof.Machine

/-! ### Grants -/

/-- The LIGHT grant set; a change starts a duty computation in the light unit (R104, R117 step 4). -/
def State.setLight (s : State) (g : Nat) : State :=
  let t := { s with head := { s.head with light := { s.head.light with grant := g } } }
  if s.head.light.grant = g then t else t.followGrant g

/-- The floor a PANEL demand or a radio lease sheds the light to (R116). -/
def State.lightFloor (s : State) : Nat := min s.head.light.demand s.params.lightFloorMW

/-- Does an amount fit beside the other grants with the light shed to a floor? (R116) -/
def State.fits (s : State) (others d floor : Nat) : Bool := decide (others + d + floor ≤ s.head.ceiling)

/-- The LIGHT grant beside loads that have just been granted (R116, R117 step 4). -/
def State.lightBeside (s : State) (loads : Nat) : State :=
  s.setLight (min s.head.light.demand (s.head.ceiling - loads))

/-- The limit test: an amount above ceiling_max - reserve can never fit (R116). -/
def State.withinLimit (s : State) (d : Nat) : Bool := decide (d ≤ s.params.ceilingMaxMW - s.params.reserveMW)

/-! ### Leases -/

/-- An active lease ends: its milliwatts leave the RADIO entry (R115, R123). -/
def State.endLease (s : State) (l : Lease) (e : Option LeaseEnd) : State :=
  { s with
    head := { s.head with
      active := none
      unreleased := e
      radio := { demand := s.head.radio.demand - l.mW, grant := s.head.radio.grant - l.mW } } }

/-- An active lease is revoked (R124): LEASE_REVOKED says how much, why and that it was the active one. -/
def State.revokeActive (s : State) (why : RevokeReason) : State :=
  match s.head.active with
  | some l => (s.endLease l (some .revoked)).raiseRm .leaseRevoked (.leaseRevoked l.mW why .active)
  | none => s

/-- A lease is granted (R121, step 4): RADIO rises by it, the light is lowered as needed, its expiry timer starts. -/
def State.grantLease (s : State) (mW duration : Nat) (o : LeaseOrigin) : State :=
  let t := { s with
    head := { s.head with
      radio := { demand := s.head.radio.demand + mW, grant := s.head.radio.grant + mW }
      active := some { mW := mW, duration := duration, granted := s.now, expiry := s.now + duration, origin := o }
      unreleased := none } }
  t.lightBeside t.head.loads

/-- Can a lease be granted now? No lease active, no AP power-up or PANEL demand waiting, and it fits with the light shed
to its floor (R121, step 4). -/
def State.leaseFits (s : State) (mW : Nat) : Bool :=
  s.head.active.isNone && s.head.apWait.isNone && s.head.panelWait.isNone && s.fits s.head.loads mW s.lightFloor

/-! ### Grants that wait -/

/-- The AP domain comes on (R141): EN_AP goes high, the power state becomes RUN, the DOZE idle timer and the alarm's
clear timer stop, and the outstanding wake request ends (R129, R172). -/
def State.apOn (s : State) : State :=
  { s with
    bs := { s.bs with ap := .on, power := .run, idleTimer := none }
    head := { s.head with clearTimer := none }
    notices := { s.notices with wakeOut := false } }

/-- Does the AP demand fit with the light shed to 0? (R118) -/
def State.apFits (s : State) : Bool := s.fits (s.head.panel.grant + s.head.radio.grant) s.head.ap.demand 0

/-- The AP power-up is granted (R116, R118). -/
def State.grantAp (s : State) : State :=
  let t := { s with
    head := { s.head with ap := { s.head.ap with grant := s.head.ap.demand }, apWait := none } }
  (t.lightBeside t.head.loads).apOn

/-- The judgement of an AP power-up from step 2 of R118: fit, revoke, wait. -/
def State.judgeAp (s : State) : State :=
  if s.apFits then s.grantAp
  else
    let t := s.revokeActive .ap
    if t.apFits then t.grantAp
    else
      { t with head := { t.head with apWait := some .judged } }.markOut .noHeadroom
        (.noHeadroom .ap t.head.ap.demand t.head.ceiling)

/-- The panel drive's side of a PANEL grant (R84, R85): the rails rise, or frame 0 begins; the power wait timer stops and
the engine returns to UPDATING (R62). -/
def State.panelGranted (s : State) : State :=
  match s.panel.update with
  | some u =>
    let te := { s.turn with engine := .updating }
    match u.phase with
    | .driveWait =>
      { s with
        turn := te
        panel := { s.panel with
          rail := .driving, waitTimer := none
          update := some { u with phase := .driving, frame := 0, frameTimer := s.timerFor Config.frameMs } }
        pool := { s.pool with feed := Feed.fresh } }
    | .riseWait =>
      { s with
        turn := te
        panel := { s.panel with
          rail := .rising, waitTimer := none, riseTimer := s.timerFor s.params.railRiseMs
          update := some { u with phase := .rising } } }
    | _ => s
  | none => s

/-- Loads beside a PANEL request, which replaces the PANEL grant held (R116, R120). -/
def Headroom.besidePanel (h : Headroom) : Nat := h.ap.grant + h.radio.grant

/-- A PANEL rise or update demand that fits is granted (R116, R120). -/
def State.grantPanel (s : State) (d : Nat) : State :=
  let t := { s with head := { s.head with panel := ⟨d, d⟩, panelWait := none } }
  (t.lightBeside t.head.loads).panelGranted

/-- Does a PANEL rise or update demand fit? (R116, R120) -/
def State.panelFits (s : State) (d : Nat) : Bool := s.fits s.head.besidePanel d s.lightFloor

/-! ### The rebalance (R117) -/

/-- Step 1: a waiting AP power-up. One that waited through the alarm is judged from step 2 of R118 (R130). -/
def State.rebalanceAp (s : State) : State :=
  match s.head.apWait with
  | some .judged => if s.apFits then s.grantAp else s
  | some .unjudged => s.judgeAp
  | none => s

/-- Step 2: a waiting PANEL demand. A grant below the one it replaces makes room, which step 1 is offered again before
steps 3 and 4. -/
def State.rebalancePanel (s : State) : State :=
  match s.head.panelWait with
  | some d =>
    if s.panelFits d then
      let t := s.grantPanel d
      if d < s.head.panel.grant then t.rebalanceAp else t
    else s
  | none => s

/-- Step 3: a parked lease, granted FROM_PARK with LEASE_GRANTED raised (R121). -/
def State.rebalanceLease (s : State) : State :=
  match s.head.parked with
  | some p =>
    if s.leaseFits p.mW then
      let t := { s with head := { s.head with parked := none } }.grantLease p.mW p.duration .fromPark
      t.raiseRm .leaseGranted (.leaseGranted p.mW (s.now + p.duration))
    else s
  | none => s

/-- Step 4: the light takes what is left. -/
def State.rebalanceLight (s : State) : State := s.lightBeside s.head.loads

/-- The rebalance of R117; while the power alarm is set it grants nothing and the LIGHT grant is 0. -/
def State.rebalance (s : State) : State :=
  if s.alarmed then s.setLight 0 else s.rebalanceAp.rebalancePanel.rebalanceLease.rebalanceLight

/-! ### Wakes -/

/-- The battery and sleep controller asks for AP power (R118, R141): the AP domain becomes REQUESTED, a deferral is
cancelled, and the request is judged at once, or waits unjudged while the alarm is set. -/
def State.requestAp (s : State) : State :=
  let t := { s with
    bs := { s.bs with ap := .requested, deferTimer := none }
    head := { s.head with ap := { s.head.ap with demand := s.params.apMW } } }
  if s.alarmed then { t with head := { t.head with apWait := some .unjudged } }
  else
    let u := t.judgeAp
    if u.head.apWait.isSome || (t.head.active.isSome && u.head.active.isNone) then u.rebalance else u

/-- An entry placed at the head of the turn queue (R52); a full queue loses its tail entry first, with TURN_OVERRUN raised
through `note`. -/
def State.placeHead (note : State → Source → Detail → State) (s : State) (e : Entry) : State :=
  if Config.queueMax ≤ s.turn.queue.length then
    match s.turn.queue.getLast? with
    | some x => note { s with turn := { s.turn with queue := e :: s.turn.queue.dropLast } } .turnOverrun
        (.turnOverrun x.origin x.kind)
    | none => { s with turn := { s.turn with queue := [e] } }
  else { s with turn := { s.turn with queue := e :: s.turn.queue } }

/-- The period counter starts at count 0 with zero duties and the gap at dead_gap (R97, R110). -/
def State.startPeriods (s : State) : State :=
  { s with
    light := { s.light with running := true, duty := { warm := 0, cool := 0, gap := s.params.deadGap }, buffer := none } }

/-- The attached memory is asked to leave self-refresh; the arbiter grants again once that is reported (R14). -/
def Pool.leaveRefresh (p : Pool) : Pool :=
  match p.mode with
  | .selfRefresh => { p with mode := .leaving }
  | .entering => { p with mode := .active }
  | _ => p

/-- DEEP is left at a wake or at the wake alarm (R144): memory, samples and light, the RESUME entry at the head of the
queue, the power state DOZE with its idle timer. DEDUCED (log 38): a domain is powered once the exit from self-refresh is
asked for, in the same action, without waiting for its report. -/
def State.leaveDeep (s : State) : State :=
  let t := { s with pool := s.pool.leaveRefresh }.startPeriods
  let u := match s.bs.resumeKey with
    | some k =>
      let v := t.placeHead State.markOut { origin := .sleep, kind := .goto k, mode := .auto, purpose := some .resume }
      { v with bs := { v.bs with resumeKey := none } }
    | none => t
  { u with bs := { u.bs with power := .doze, idleTimer := u.timerFor (u.params.dozeIdleMin * 60000) } }

/-- A wake as the controller serves it by its state (R141). Once depletion has begun it is not served (R148). -/
def State.serveWake (s : State) : State :=
  if s.bs.depleting then s
  else
    match s.bs.power with
    | .run => s
    | .depleted => s
    | .apStopping => { s with bs := { s.bs with heldWake := true } }
    | .enteringDeep => { s with bs := { s.bs with heldWake := true } }
    | .doze => if s.bs.ap = .off then s.requestAp else s
    | .deep => s.leaveDeep.requestAp

/-- The notice unit presents a wake request if the wake condition holds where it did not hold before (R172). -/
def State.presentWake (before : Bool) (s : State) : State :=
  if !before && s.wakeCond then { s with notices := { s.notices with wakeOut := true } }.serveWake else s

/-- A block raises a source of the AP notice set (R167), and the wake test follows in the same action (R172). -/
def State.raise (s : State) (src : Source) (d : Detail) : State := (s.mark src d).presentWake s.wakeCond

end Sys2Proof.Machine
end

