-- ==== Sys2Proof/Machine/Light.lean ====
section
/-!
DEFINITION. The light unit's operations (chapter 5): the duty computation with its demand, the ramp, the light key, the
fade and the power alarm.
-/

namespace Sys2Proof.Machine

/-- A duty computation (R103): requested total and demand, the arbiter's answer (R117 step 4, or a rebalance where the
demand fell), and the rest under the grant. -/
def State.computeLight (s : State) : State :=
  if s.lightComputes then
    let total := lightTotal s.light.curve s.params.deadGap s.light.applied
    let d := s.powerOf total
    let t := { s with
      light := { s.light with requested := total, demand := d }
      head := { s.head with light := { s.head.light with demand := d } } }
    let u := if d < s.head.light.demand then t.rebalance else t.rebalanceLight
    u.followGrant u.head.light.grant
  else s

/-- A new target, and the ramp's start, run-on or stop (R107). -/
def State.retarget (s : State) (n : Nat) : State :=
  let timer :=
    if s.light.alarmHold then s.light.rampTimer
    else if n = s.light.applied then none
    else match s.light.rampTimer with
      | some d => some d
      | none => s.timerFor s.params.rampMs
  { s with light := { s.light with target := n, rampTimer := timer } }

/-- A press of a key routed LIGHT (R106); ignored while fading. -/
def State.lightKey (s : State) : State :=
  if s.light.fading then s
  else if 0 < s.light.target then
    { s with light := { s.light with remembered := s.light.target } }.retarget 0
  else s.retarget s.light.remembered

/-- A fade asked for on the way to DEEP (R110). -/
def State.fade (s : State) : State := { s with light := { s.light with fading := true } }.retarget 0

/-- The fade is complete: applied level 0 and its zero duties loaded, nothing pending in the buffer (R110). -/
def State.fadeComplete (s : State) : Bool :=
  decide (s.light.applied = 0) && decide (s.light.duty.warm = 0) && decide (s.light.duty.cool = 0)
    && s.light.buffer.isNone

/-- One step of the ramp, with its duty computation (R107). -/
def State.rampStep (s : State) : State :=
  let l := s.light
  let a := if l.applied < l.target then l.applied + 1 else l.applied - 1
  let timer := if a = l.target then none else s.timerFor s.params.rampMs
  { s with light := { l with applied := a, rampTimer := timer } }.computeLight

/-- The power alarm at the light unit (R108); the LIGHT demand and grant are 0 while it holds. -/
def State.lightAlarm (s : State) : State :=
  { s with
    light := { s.light with
      duty := { s.light.duty with warm := 0, cool := 0 }
      buffer := none, applied := 0, rampTimer := none, total := 0, alarmHold := true, capped := false }
    head := { s.head with light := ⟨0, 0⟩ } }

/-- The clearing of the power alarm at the light unit (R109): the ramp starts from 0; in DEEP the light stays off. -/
def State.lightAlarmCleared (s : State) : State :=
  let t := { s with light := { s.light with alarmHold := false } }
  if s.light.running then t.retarget s.light.target else t

end Sys2Proof.Machine
end

