-- ==== Sys2Proof/Machine/Depleted.lean ====
section
/-!
DEFINITION. Entry to DEPLETED (R149 and the rules it names), the fade and radio warning of ENTERING_DEEP (R143, stage 3)
and what the controller does at the end report of a REST or EMPTY entry (R62, R65, R143, R148).
-/

namespace Sys2Proof.Machine

/-- A key record in DEPLETED: its timers stopped (R70). -/
def KeyInput.stopTimers (k : KeyInput) : KeyInput :=
  { k with candidate := none, debounce := none, holdTimer := none, repeatTimer := none }

/-- The light unit on entry to DEPLETED (R111). -/
def LightUnit.dark (l : LightUnit) : LightUnit :=
  { l with
    target := 0, applied := 0, capped := false, alarmHold := false, fading := false, requested := 0, demand := 0,
    grant := 0, total := 0, buffer := none, duty := { l.duty with warm := 0, cool := 0 }, running := false,
    rampTimer := none }

/-- The controller on entry to DEPLETED at time `t` (R149): domains off, timers stopped, wake alarm cleared; a restart
sample is due in 4,000 ms when CHG_PRESENT is high. -/
def Controller.deplete (c : Controller) (present : Bool) (t : Nat) : Controller :=
  { c with
    power := .depleted, sleepTarget := none, ap := .off, radio := false, heldWake := false, stage := none,
    depleting := false, apOffTimer := none, idleTimer := none, deferTimer := none, radioTimer := none,
    graceTimer := none, depletionTimer := none, alarm := none,
    restartTimer := if present then some (t + 4000) else none }

/-- A port whose domain is off and whose requests in progress went with the memory (R15, R177). -/
def PortUnit.dead (p : PortUnit) : PortUnit :=
  { p with state := .waitingSync, buffer := [], busy := none, held := none, answer := none }

/-- Entry to DEPLETED: R149, with R15, R44, R70, R94, R111, R131, R166 and R174. -/
def State.enterDepleted (s : State) : State :=
  { s with
    pool := { Pool.reset with mode := .off }
    slots := SlotTable.reset
    turn := { s.turn with
      queue := [], miss := none, engine := .idle, turn := none, keys := s.turn.keys.map KeyInput.stopTimers }
    panel := { PanelDrive.reset with commitFail := s.panel.commitFail }
    light := s.light.dark
    head := Headroom.reset
    bs := s.bs.deplete s.pins.chgPresent s.now
    staging := Staging.reset
    notices := { ap := s.notices.ap.map Notice.taken, rm := List.replicate 5 none, wakeOut := false }
    portA := s.portA.dead
    portR := s.portR.dead }

/-- Stage 3 of ENTERING_DEEP (R143): the fade, and with the radio domain ON the warning and its 1,000 ms timer. -/
def State.startFade (s : State) : State :=
  let t := { s with bs := { s.bs with stage := some .fade } }.fade
  if t.bs.radio then
    { t with bs := { t.bs with radioTimer := t.timerFor 1000 } }.raiseRm .powerOffSoon (.powerOffSoon 1000)
  else t

/-- The end report of an entry the controller placed: the REST entry ends stage 2 of ENTERING_DEEP (R143), the EMPTY
entry ends depletion (R148), whether shown or not. -/
def State.sleepEntryEnd (s : State) : Purpose → State
  | .rest => if s.bs.power = .enteringDeep ∧ s.bs.stage = some .restImage then s.startFade else s
  | .empty => if s.bs.depleting then s.enterDepleted else s
  | .resume => s

end Sys2Proof.Machine
end

