-- ==== Sys2Proof/Machine/Turns.lean ====
section
/-!
DEFINITION. The turn engine (chapter 3): the queue, refill wants, taking the head, the mode choice, the hand-over to the
panel drive (R78), the end reports (R62) and the power alarm (R64).
-/

namespace Sys2Proof.Machine

/-! ### The queue (R51, R52) -/

/-- Is there a REPEAT entry in the queue? -/
def TurnEngine.hasRepeat (t : TurnEngine) : Bool := t.queue.any (fun e => decide (e.origin = .repeated))

/-- An arrival at the tail (R51), and whether it joined. -/
def State.arrive (s : State) (e : Entry) : State × Bool :=
  if Config.queueMax ≤ s.turn.queue.length then (s.raise .turnOverrun (.turnOverrun e.origin e.kind), false)
  else if e.origin = .repeated ∧ s.turn.hasRepeat = true then (s, false)
  else ({ s with turn := { s.turn with queue := s.turn.queue ++ [e] } }, true)

/-! ### Refill wants (R66, R67) -/

/-- Pages of a book held by non-EMPTY slots with an edge. -/
def State.edgePages (s : State) (book : Nat) (e : Edge) : List Nat :=
  s.slots.slots.filterMap (fun x =>
    match x.key with
    | some k => if x.state ≠ .empty ∧ k.book = book ∧ x.edge = some e then some k.page else none
    | none => none)

/-- The pages wanted around a shown key (R66), ascending. -/
def State.wantedPages (s : State) (k : PageKey) : List Nat :=
  let lo := k.page - s.params.behind
  let window := (List.range (k.page + s.params.ahead + 1 - lo)).map (fun i => lo + i)
  window.filter (fun p =>
    decide (p ≠ k.page) && decide (p ≤ Config.pageMax)
      && (s.edgePages k.book .last).all (fun e => decide (p ≤ e))
      && (s.edgePages k.book .first).all (fun e => decide (e ≤ p))
      && (s.slotOfKey { book := k.book, page := p }).isNone)

/-- The refill want is computed and REFILL_WANTED raised if it is not empty (R66); with no shown key nothing is computed
(R67). -/
def State.refill (s : State) : State :=
  match s.panel.shownKey with
  | some k =>
    let w : Want := { book := k.book, pages := s.wantedPages k }
    let t := { s with turn := { s.turn with want := some w } }
    if w.pages.isEmpty then t else t.raise .refillWanted (.refillWanted w)
  | none => s

/-- The book of the SHOWN slot (R28). -/
def State.shownBook (s : State) : Option Nat := s.panel.shownKey.map PageKey.book

/-! ### Ends of a turn -/

/-- A REST or EMPTY entry (R60, R62, R65). -/
def imagePurpose (p : Option Purpose) : Bool := decide (p = some .rest) || decide (p = some .empty)

/-- The engine where a turn ends: HALTED while the power alarm is set, IDLE otherwise (R62). -/
def State.restEngine (s : State) : Engine := if s.alarmed then .halted else .idle

/-- A turn abandoned (R59 to R65). -/
def State.abandon (s : State) (key : Option PageKey) (why : Abandon) : State :=
  s.raise .turnAbandoned (.turnAbandoned key why)

/-- The end report of an image entry that ends outside the panel drive (R65). -/
def State.endImage (s : State) (p : Option Purpose) : State :=
  match p with
  | some x => s.sleepEntryEnd x
  | none => s

/-- The panel drive's end reports (R62). -/
inductive EndReport where
  | completed | aborted | abandoned | held
  deriving DecidableEq, Repr

/-- A turn goes back to the head of the queue as a GOTO of its resolved key, with the mode it was taken with (R64). -/
def State.putBack (s : State) (key : PageKey) (mode : TurnMode) (o : Origin) (p : Option Purpose) : State :=
  s.placeHead State.raise { origin := o, kind := .goto key, mode := mode, purpose := p }

/-- The engine's action on an end report (R62, R64, R66). -/
def State.turnEnded (s : State) (e : EndReport) : State :=
  match s.turn.turn with
  | some x =>
    let t := { s with turn := { s.turn with turn := none, engine := s.restEngine } }
    match e with
    | .held =>
      { t with turn := { t.turn with engine := .halted } }.putBack x.key x.asked x.origin x.purpose
    | .abandoned => if imagePurpose x.purpose then t.endImage x.purpose else t.abandon (some x.key) .noHeadroom
    | .completed => if imagePurpose x.purpose then t.endImage x.purpose else t.refill
    | .aborted => if imagePurpose x.purpose then t.endImage x.purpose else t.refill
  | none => s

/-! ### Mode choice and hand-over (R61, R62, R78) -/

/-- AUTO becomes default_partial (R61, step 1). -/
def Params.modeOf (p : Params) : TurnMode → UpdMode
  | .auto => if p.defaultPartial then .fast else .grey
  | .full => .full
  | .grey => .grey
  | .fast => .fast

/-- Must the update be FULL? (R61, step 3) -/
def State.forcedFull (s : State) (n : Nat) : Bool :=
  decide (s.params.ghostLimit ≤ s.panel.ghost) || decide (s.panel.fidelity = .unknown) || (s.slot n).fullRefresh

/-- The update mode of a turn to slot `n` (R61, steps 1, 3 and 4). -/
def State.chooseMode (s : State) (asked : TurnMode) (n : Nat) : UpdMode :=
  if s.forcedFull n then .full
  else if s.params.modeOf asked = .grey ∧ s.bs.battery = .low ∧ s.params.lowBatteryFast = true then .fast
  else s.params.modeOf asked

/-- A fresh update record (R78). -/
def Update.fresh (n : Nat) (m : UpdMode) : Update :=
  { target := n, mode := m, phase := .planning, band := none, plan := none, frame := 0, tempRead := false,
    stopping := false, frameTimer := none }

/-- The hand-over (R62, R78): TARGET to the slot, a fresh update record in PLANNING, a running hold timer stopped, and the
engine UPDATING. -/
def State.handOver (s : State) (x : Turn) (n : Nat) : State :=
  { s with
    turn := { s.turn with turn := some x, engine := .updating }
    panel := { s.panel with
      target := some n, holdTimer := none
      update := some (Update.fresh n x.mode) }
    pool := { s.pool with feed := Feed.fresh } }

/-- A turn to a READY slot (R61, R62): critical discard, mode choice, waveform check, hand-over. -/
def State.beginTurn (s : State) (key : PageKey) (mode : TurnMode) (o : Origin) (p : Option Purpose) (n : Nat) : State :=
  let t := { s with turn := { s.turn with engine := .idle } }
  if s.bs.battery = .critical ∧ imagePurpose p = false then t.abandon (some key) .battery
  else if s.panel.wave ≠ .valid then
    if imagePurpose p then t.endImage p else t.abandon (some key) .noWaveform
  else s.handOver { key := key, asked := mode, mode := s.chooseMode mode n, origin := o, purpose := p } n

/-- A miss (R58): WAITING_PAGE with a miss record and its wait timer. -/
def State.beginMiss (s : State) (key : PageKey) (mode : TurnMode) (o : Origin) (p : Option Purpose) : State :=
  let m : Miss :=
    { key := key, mode := mode, origin := o, purpose := p, start := s.now,
      timer := s.now + s.params.missWaitS * 1000 }
  { s with turn := { s.turn with engine := .waitingPage, miss := some m } }

/-- The look-up of a resolved target (R58, R65). -/
def State.lookUp (s : State) (key : PageKey) (mode : TurnMode) (o : Origin) (p : Option Purpose) : State :=
  match s.slotOfKey key with
  | some n =>
    if (s.slot n).state = .ready then s.beginTurn key mode o p n
    else if imagePurpose p then s.endImage p
    else s.beginMiss key mode o p
  | none =>
    if imagePurpose p then s.endImage p
    else (s.beginMiss key mode o p).raise .turnMiss (.turnMiss key)

/-! ### Taking the head (R54 to R57) -/

/-- Is the entry a STEP? -/
def Entry.isStep (e : Entry) : Bool :=
  match e.kind with
  | .step _ => true
  | .goto _ => false

/-- The offset of an entry: +1, -1, and 0 for a GOTO. -/
def Entry.offset (e : Entry) : Int :=
  match e.kind with
  | .step .plus => 1
  | .step .minus => -1
  | .goto _ => 0

/-- The mode of a collapsed run (R55): FULL if any entry asks for it, otherwise the last entry's. -/
def runMode (run : List Entry) : TurnMode :=
  if run.any (fun e => decide (e.mode = .full)) then .full
  else (run.getLast?.map Entry.mode).getD .auto

/-- A page offset and clamped (R56, step 3). -/
def offsetPage (page : Nat) (d : Int) : Nat := min Config.pageMax (page + d).toNat

/-- Does the edge of the shown slot stop the offset? (R56, step 2) -/
def edgeStops (e : Option Edge) (d : Int) : Bool :=
  (decide (e = some .last) && decide (0 < d)) || (decide (e = some .first) && decide (d < 0))

/-- The edge of the SHOWN slot. -/
def State.shownEdge (s : State) : Option Edge := s.panel.shown.bind (fun n => (s.slot n).edge)

/-- A collapsed run resolved against the shown key (R55, R56, R60). -/
def State.takeRun (s : State) (run : List Entry) : State :=
  let d := (run.map Entry.offset).sum
  if s.bs.battery = .critical then s.abandon none .battery
  else if d = 0 then s
  else match s.panel.shownKey with
    | none => s
    | some k =>
      if edgeStops s.shownEdge d then s.raise .bookEdge (.bookEdge k (if 0 < d then .plus else .minus))
      else if offsetPage k.page d = k.page then s
      else s.lookUp { book := k.book, page := offsetPage k.page d } (runMode run)
        ((run.head?.map Entry.origin).getD .key) none

/-- A GOTO entry (R57, R60, R65). -/
def State.takeGoto (s : State) (e : Entry) (k : PageKey) : State :=
  if s.bs.battery = .critical ∧ imagePurpose e.purpose = false then s.abandon none .battery
  else if s.panel.shownKey = some k then
    if imagePurpose e.purpose then s.endImage e.purpose else s
  else s.lookUp k e.mode e.origin e.purpose

/-- Taking the head of the queue (R54): one GOTO, or the whole leading run of STEPs (R55). -/
def State.takeHead (s : State) : State :=
  match s.turn.queue with
  | [] => s
  | e :: es =>
    match e.kind with
    | .goto k => { s with turn := { s.turn with queue := es } }.takeGoto e k
    | .step _ =>
      { s with turn := { s.turn with queue := s.turn.queue.dropWhile Entry.isStep } }.takeRun
        (s.turn.queue.takeWhile Entry.isStep)

/-- May the engine take the head now? (R54): IDLE with entries queued; in ENTERING_DEEP only an entry of origin SLEEP; not
in DEEP or DEPLETED. -/
def State.canTake (s : State) : Bool :=
  decide (s.turn.engine = .idle) && !s.turn.queue.isEmpty &&
    match s.bs.power with
    | .run | .doze | .apStopping => true
    | .enteringDeep => (s.turn.queue.head?.map (fun e => decide (e.origin = .sleep))).getD false
    | .deep | .depleted => false

/-! ### Other events at the engine -/

/-- A slot became READY (R32, R35): a miss wait on its key ends and the turn goes on (R59). -/
def State.slotReady (s : State) (n : Nat) (key : PageKey) : State :=
  match s.turn.miss with
  | some m =>
    if m.key = key ∧ s.turn.engine = .waitingPage then
      { s with turn := { s.turn with miss := none } }.beginTurn m.key m.mode m.origin m.purpose n
    else s
  | none => s

/-- The power alarm at the engine (R64). -/
def State.turnAlarm (s : State) : State :=
  match s.turn.engine with
  | .idle => { s with turn := { s.turn with engine := .halted } }
  | .waitingPage =>
    let t := { s with turn := { s.turn with engine := .halted, miss := none } }
    match s.turn.miss with
    | some m => t.putBack m.key m.mode m.origin m.purpose
    | none => t
  | _ => s

/-- The clearing of the power alarm at the engine (R64). -/
def State.turnAlarmCleared (s : State) : State :=
  if s.turn.engine = .halted then { s with turn := { s.turn with engine := .idle } } else s

/-- The controller places a REST or EMPTY entry (R52, R65): a miss wait in progress ends, and the entry goes in front. -/
def State.placeImage (s : State) (p : Purpose) (key : PageKey) (why : Abandon) : State :=
  let t : State :=
    match s.turn.miss with
    | some m =>
      if s.turn.engine = .waitingPage then
        { s with turn := { s.turn with engine := .idle, miss := none } }.abandon (some m.key) why
      else s
    | none => s
  t.placeHead State.raise { origin := .sleep, kind := .goto key, mode := .full, purpose := some p }

end Sys2Proof.Machine
end

