-- ==== Sys2Proof/Machine/Waveform.lean ====
section
/-!
DEFINITION. The waveform store's contents (R74, R75, R184): frame counts, drives, the commit check, and which drive a
pixel receives in a frame (R79, R88).
-/

namespace Sys2Proof.Machine

/-- Number of an update mode (R184): FULL 0, GREY 1, FAST 2. -/
def modeNumber : UpdMode → Nat
  | .full => 0
  | .grey => 1
  | .fast => 2

/-- Number of a waveform: mode × 8 + band (R184). -/
def waveNumber (m : UpdMode) (band : Nat) : Nat := modeNumber m * 8 + band

/-- A byte of the waveform store, laid over extents 504 to 511 in ascending order (R7). -/
def Memory.waveByte (m : Memory) (i : Nat) : Byte := Memory.read m (Config.waveFirst * Config.extentBytes + i)

/-- The frame count of a waveform: store byte w (R184). -/
def Memory.frameCount (m : Memory) (w : Nat) : Nat := (m.waveByte w).toNat

/-- The drive code of a waveform for from-level f, to-level t and frame k (R184). -/
def Memory.driveCode (m : Memory) (w f t k : Nat) : Nat :=
  let i := (f * 16 + t) * 64 + k
  (m.waveByte (1024 + 4096 * w + i / 4)).toNat / 4 ^ (i % 4) % 4

/-- What a pixel receives in a frame (section 4.2). -/
inductive Drive where
  | none | toBlack | toWhite
  deriving DecidableEq, Repr

/-- The meaning of a drive code; code 3 is no drive and never stands in a VALID store (R74, R184). -/
def driveOf : Nat → Drive
  | 1 => .toBlack
  | 2 => .toWhite
  | _ => .none

/-- The first bad drive of a waveform of F frames, in order of from-level, to-level and frame (R74). -/
def Memory.firstBadDrive (m : Memory) (w frames : Nat) : Option WaveFault :=
  (List.range 16).findSome? fun f =>
    (List.range 16).findSome? fun t =>
      (List.range frames).findSome? fun k => if m.driveCode w f t k = 3 then some (.driveCode f t k) else none

/-- The first failure of one waveform: its frame count, then its drives (R74). -/
def Memory.waveFault (m : Memory) (w : Nat) : Option WaveFault :=
  if inRange 1 63 (m.frameCount w) then m.firstBadDrive w (m.frameCount w) else some .frameCount

/-- The commit check (R74): FULL, then GREY, then FAST, bands 0 to 7 within each, stopping at the first failure. -/
def Memory.checkWaves (m : Memory) : Option CommitFail :=
  [UpdMode.full, .grey, .fast].findSome? fun mode =>
    (List.range 8).findSome? fun band =>
      (m.waveFault (waveNumber mode band)).map fun r => { mode := mode, band := band, reason := r }

/-- The grey level of an image's pixel (R16). -/
def pixelLevel (rows : List (List Nat)) (row col : Nat) : Nat := (rows.getD row []).getD col 0

/-- The from-level of a pixel of an update (R79, R88): the to-level where the panel's contents are not known. -/
def fromLevel (fid : Fidelity) (mode : UpdMode) (old : Option Nat) (new : Nat) : Nat :=
  match fid, old with
  | .exact, some l => l
  | .twoLevel, some l => quantize l
  | _, _ => if mode = .fast then quantize new else new

/-- The to-level of a pixel: quantized in a FAST update (R79, R80). -/
def toLevel (mode : UpdMode) (new : Nat) : Nat := if mode = .fast then quantize new else new

/-- The drive a pixel receives in the frame being driven (R75, R79, R88): none outside DRIVING and outside the rows
scanned; in a FULL update every pixel is driven, in a GREY or FAST one the changed pixels. -/
def State.pixelDrive (s : State) (row col : Nat) : Drive :=
  match s.panel.update with
  | some u =>
    match u.phase, u.plan, u.band with
    | .driving, some p, some band =>
      let new := pixelLevel (imageRows (s.imageOf u.target)) row col
      let old := s.panel.shown.map (fun n => pixelLevel (imageRows (s.imageOf n)) row col)
      let src := fromLevel s.panel.fidelity u.mode old new
      let dst := toLevel u.mode new
      if row < p.firstRow ∨ p.lastRow < row then .none
      else if u.mode ≠ .full ∧ src = dst then .none
      else driveOf (s.pool.mem.driveCode (waveNumber u.mode band) src dst u.frame)
    | _, _, _ => .none
  | none => .none

end Sys2Proof.Machine
end

