-- ==== Sys2Proof/Machine/Panel.lean ====
section
/-!
DEFINITION. The panel drive's operations (chapter 4): the rails and the PANEL demand, planning, the ends of an update,
the re-plan and the power alarm.
-/

namespace Sys2Proof.Machine

/-! ### Rails and the PANEL entry (R83, R87, R120) -/

/-- The hot demand: hot_mW, 1 where that is 0, capped at the PANEL grant held (R83). -/
def State.hotDemand (s : State) : Nat := min (max 1 s.params.hotMW) s.head.panel.grant

/-- The PANEL entry takes the hot demand, and a rebalance follows (R120). -/
def State.presentHot (s : State) : State :=
  { s with head := { s.head with panel := ⟨s.hotDemand, s.hotDemand⟩ } }.rebalance

/-- The rails enter HOT (R83, R84). -/
def State.railsHot (s : State) : State :=
  { s with panel := { s.panel with rail := .hot, riseTimer := none, holdTimer := none } }.presentHot

/-- The rails enter FALLING for rail_fall_ms (R87). -/
def State.railsFall (s : State) : State :=
  { s with
    panel := { s.panel with
      rail := .falling, riseTimer := none, holdTimer := none, fallTimer := s.timerFor s.params.railFallMs } }.presentHot

/-- The hold timer starts; with rail_hold_ms 0 it expires at once and the rails fall (R87). -/
def State.startHold (s : State) : State :=
  if s.params.railHoldMs = 0 then s.railsFall
  else { s with panel := { s.panel with holdTimer := s.timerFor s.params.railHoldMs } }

/-- The rails are HOT with nothing to draw: the hold timer starts (R82, R87). -/
def State.holdIfHot (s : State) : State := if s.panel.rail = .hot then s.startHold else s

/-- The update record with its phase set. -/
def State.setPhase (s : State) (ph : Phase) : State :=
  { s with panel := { s.panel with update := s.panel.update.map (fun u => { u with phase := ph }) } }

/-- A rise or update demand is presented (R84, R85, R120): granted at once, or the update waits under its own power wait
timer and the engine is told. A grant below the one it replaces is followed by the rebalance of R117. -/
def State.presentPanel (s : State) (ph : Phase) (d : Nat) : State :=
  let t := { s with head := { s.head with panel := { s.head.panel with demand := d } } }.setPhase ph
  if t.panelFits d then
    let u := t.grantPanel d
    if d < s.head.panel.grant then u.rebalance else u
  else
    { t with
      head := { t.head with panelWait := some d }
      panel := { t.panel with waitTimer := t.timerFor (t.params.powerWaitS * 1000) }
      turn := { t.turn with engine := .waitingPower } }.rebalance

/-- The rise demand (R83, R84). -/
def State.presentRise (s : State) : State := s.presentPanel .riseWait (max 1 s.params.riseMW)

/-- The update demand of the planned update (R85). -/
def State.presentUpdate (s : State) : State :=
  match s.panel.update.bind Update.plan with
  | some p => s.presentPanel .driveWait p.demand
  | none => s

/-- A presented demand is withdrawn and the power wait timer stops; the PANEL grant stays (R120). -/
def State.withdrawPanel (s : State) : State :=
  { s with
    head := { s.head with panelWait := none, panel := { s.head.panel with demand := s.head.panel.grant } }
    panel := { s.panel with waitTimer := none } }

/-! ### Ends of an update -/

/-- The target takes the SHOWN role with a fidelity and a ghost count, and is stamped; the record is discarded (R81, R89,
R91). -/
def State.showTarget (s : State) (n : Nat) (f : Fidelity) (ghost : Nat) : State :=
  { s with
    panel := { s.panel with
      shown := some n, shownKey := (s.slot n).key, target := none, fidelity := f, ghost := ghost, update := none } }.stamp
    n

/-- The update ends without the target being shown (R82, R84, R92). -/
def State.dropUpdate (s : State) : State :=
  { s with panel := { s.panel with target := none, update := none } }

/-- UPDATE_DONE (R81, R89). -/
def State.updateDone (s : State) (m : UpdMode) : State :=
  match s.panel.shownKey with
  | some k => s.raise .updateDone (.updateDone k m)
  | none => s

/-- Fidelity after a completed update (R81, R89). -/
def fidelityAfter (m : UpdMode) : Fidelity := if m = .fast then .twoLevel else .exact

/-- Ghost count after a completed update (R77, R89). -/
def ghostAfter (m : UpdMode) (ghost : Nat) : Nat := if m = .full then 0 else min 255 (ghost + 1)

/-- Completion after frame F - 1 (R89). -/
def State.completeUpdate (s : State) (u : Update) : State :=
  (((s.showTarget u.target (fidelityAfter u.mode) (ghostAfter u.mode s.panel.ghost)).updateDone u.mode).railsHot
    |>.startHold).turnEnded .completed

/-- A silent swap (R81). DESIGN CHOICE (log 29): of an update handed over while the rails were RISING, a rise still under way
goes on and its end starts the hold timer, and rails that became HOT during the planning are held from the swap on. -/
def State.silentSwap (s : State) (u : Update) : State :=
  (((s.showTarget u.target (fidelityAfter u.mode) s.panel.ghost).updateDone u.mode).holdIfHot).turnEnded .completed

/-- The drive stops under the alarm after the frame in progress (R91). -/
def State.abortUpdate (s : State) (u : Update) : State :=
  ((s.showTarget u.target .unknown s.panel.ghost).railsFall).turnEnded .aborted

/-- The update is abandoned (R82, R84, R85): the rails stay as they were, HOT ones holding. -/
def State.abandonUpdate (s : State) : State := (s.dropUpdate.holdIfHot).turnEnded .abandoned

/-! ### Planning (R79 to R82) -/

/-- The band of a temperature (R76). -/
def bandOf (t : Int) : Nat := ((min 69 (max (-10) t) + 10) / 10).toNat

/-- The update demand in mW (R82). -/
def updateDemand (rowNJ pixPJ rows pixels : Nat) : Nat :=
  let framePJ := rows * rowNJ * 1000 + pixels * pixPJ
  let frameUJ := (framePJ + 999999) / 1000000
  max 1 ((frameUJ + 11) / 12)

/-- An image's rows as planning compares them (R80). -/
def planRows (quantized : Bool) (rows : List (List Nat)) : List (List Nat) :=
  if quantized then rows.map (fun r => r.map quantize) else rows

/-- The comparison of the shown and target images for a GREY or FAST update (R80). -/
def State.compareImages (s : State) (u : Update) : Comparison :=
  let old := match s.panel.shown with
    | some n => imageRows (s.imageOf n)
    | none => []
  compareRows 0 (planRows (decide (s.panel.fidelity = .twoLevel)) old)
    (planRows (decide (u.mode = .fast)) (imageRows (s.imageOf u.target)))

/-- The plan of an update (R79, R80, R82), its demand and duration included, made as planning ends in the band its
temperature read chose. DESIGN CHOICE (log 8): F is taken from the store's bytes with no burst of its own. DESIGN CHOICE
(log 28): row_nJ and pix_pJ are read here, so a value set during the planning counts. -/
def State.planOf (s : State) (u : Update) : Plan :=
  let frames := s.pool.mem.frameCount (waveNumber u.mode (s.panel.band.getD 2))
  let c : Comparison := if u.mode = .full then { changed := Config.pixels, firstRow := 0, lastRow := Config.rows - 1 }
    else s.compareImages u
  { frames := frames, firstRow := c.firstRow, lastRow := c.lastRow, changed := c.changed
    demand := updateDemand s.params.rowNJ s.params.pixPJ (c.lastRow - c.firstRow + 1) c.changed
    duration := frames * Config.frameMs }

/-- Does the update read images now: a frame does, and the walk of a GREY or FAST planning after its temperature read
(R79, R80, R88). -/
def Update.readsImages (u : Update) : Bool :=
  decide (u.phase = .driving) || (decide (u.phase = .planning) && u.tempRead && decide (u.mode ≠ .full))

/-- Does the panel feed read a source for the planning or the frame it serves? (R11, R79, R80, R88) A FULL update is
planned without reading images; a frame reads the target, the waveform entries, and the shown image where from-levels come
from it. -/
def State.feedReads (s : State) (u : Update) : FeedSource → Bool
  | .target => u.readsImages
  | .shown => u.readsImages && s.panel.shown.isSome && decide (s.panel.fidelity ≠ .unknown)
  | .waveform => decide (u.phase = .driving)

/-- The bytes of a slot's image that the feed reads, first and one past the last: in a frame those of the rows scanned
(R88), in a planning all of them (R80). -/
def State.feedRows (s : State) (u : Update) (n : Nat) : Nat × Nat :=
  match u.phase, u.plan with
  | .driving, some p => rowBytes p.firstRow p.lastRow (s.imageOf n)
  | _, _ => (0, (s.slot n).declared)

/-- How many bytes of a source the planning or frame reads: image bytes, or the 256 bytes of the waveform store that hold
the entries of the frame's number, one for each from-level and to-level (R88, R184). -/
def State.feedLength (s : State) (u : Update) : FeedSource → Nat
  | .target => (s.feedRows u u.target).2 - (s.feedRows u u.target).1
  | .shown => (s.panel.shown.map (fun n => (s.feedRows u n).2 - (s.feedRows u n).1)).getD 0
  | .waveform => 256

/-- Bytes of a source read so far. -/
def Feed.done (f : Feed) : FeedSource → Nat
  | .target => f.target
  | .shown => f.shown
  | .waveform => f.waveform

/-- Bytes of a source the panel feed has left to read for what it serves. -/
def State.feedRemaining (s : State) (src : FeedSource) : Nat :=
  match s.panel.update with
  | some u => if s.feedReads u src then s.feedLength u src - s.pool.feed.done src else 0
  | none => 0

/-- Has the panel feed bytes left to read for the planning or the frame it serves? (R11) -/
def State.feedLeft (s : State) : Bool :=
  decide (0 < s.feedRemaining .shown) || decide (0 < s.feedRemaining .target)
    || decide (0 < s.feedRemaining .waveform)

/-- The panel feed waits for the memory (R11). -/
def State.feedWaits (s : State) : Bool := s.pool.feed.room && s.feedLeft

/-- The planned update goes on to the rails (R82, R84, R85, R86, R90). DESIGN CHOICE (log 29): RISING rails that a hand-over
found without an update are met as R90 has it for a re-plan, in phase RISING. -/
def State.toRails (s : State) : State :=
  match s.panel.rail with
  | .off => s.presentRise
  | .hot => s.presentUpdate
  | .falling => s.setPhase .awaitRails
  | .rising => s.setPhase .rising
  | .driving => s

/-- The end of planning (R81, R82): the silent swap, the limit test, or on to the rails. -/
def State.endPlanning (s : State) (u : Update) : State :=
  let p := s.planOf u
  if u.mode ≠ .full ∧ p.changed = 0 then s.silentSwap u
  else
    let t := { s with panel := { s.panel with update := some { u with band := s.panel.band, plan := some p } } }
    if s.withinLimit p.demand then t.toRails else t.abandonUpdate

/-! ### Re-plan and alarm (R63, R90, R91, R92) -/

/-- ghost_limit is set (R63, R90): a GREY or FAST turn not yet driving is planned again in FULL when the ghost count is at
or above the limit. DESIGN CHOICE (log 42): the record's planned fields are absent until the new planning ends. -/
def State.ghostLimitSet (s : State) : State :=
  match s.panel.update, s.turn.turn with
  | some u, some x =>
    if u.phase ≠ .driving ∧ u.mode ≠ .full ∧ s.params.ghostLimit ≤ s.panel.ghost then
      let t := s.withdrawPanel
      { t with
        turn := { t.turn with turn := some { x with mode := .full }, engine := .updating }
        panel := { t.panel with update := some (Update.fresh u.target .full) }
        pool := { t.pool with feed := Feed.fresh } }
    else s
  | _, _ => s

/-- The rails under the alarm with no drive to finish (R92). -/
def State.dropRails (s : State) : State :=
  match s.panel.rail with
  | .rising => s.railsFall
  | .hot => s.railsFall
  | _ => s

/-- The power alarm at the panel drive (R91, R92): a drive stops after its frame, any other update is held, and rails that
are up fall. -/
def State.panelAlarm (s : State) : State :=
  match s.panel.update with
  | some u =>
    if u.phase = .driving then
      { s with panel := { s.panel with update := some { u with stopping := true } } }
    else (s.withdrawPanel.dropUpdate.dropRails).turnEnded .held
  | none => s.dropRails

end Sys2Proof.Machine
end

