-- ==== Sys2Proof/Machine/Staging.lean ====
section
/-!
DEFINITION. The staging unit's operations (chapter 8): where a block lies, obtaining an extent (R156) with the reclaim of
R42, placing a block (R155), joining and giving up (R159, R160), closing streams (R161), and giving back the ring (R157).
-/

namespace Sys2Proof.Machine

/-- The staging unit changed. -/
def State.withStaging (s : State) (g : Staging) : State := { s with staging := g }

/-- The stream table with one entry set (section 8.2). -/
def Staging.setStream (g : Staging) (id : Nat) (x : Option Stream) : Staging :=
  if id = 1 then { g with stream1 := x } else if id = 2 then { g with stream2 := x } else g

/-- The ring extent after a given one. -/
def Staging.nextExtent (g : Staging) (e : Nat) : Option Nat := ((g.ring.dropWhile (fun x => decide (x ≠ e))).drop 1).head?

/-- The ring extents a block has a byte in: one, or two (R155). -/
def Staging.extentsOf (g : Staging) (b : Block) : List Nat :=
  if b.pos.offset + b.length ≤ Config.extentBytes then [b.pos.extent]
  else b.pos.extent :: (g.nextExtent b.pos.extent).toList

/-! ### Giving back the ring (R152, R157, R160) -/

/-- An entry of the stream table with a CLOSED or ABORTED stream freed when no block of it is left (R152). -/
def Staging.pruned (g : Staging) (id : Nat) : Staging :=
  if (g.stream id).any (fun x => decide (x.state ≠ .open)) && !g.hasBlock id then g.setStream id none else g

/-- Is a ring extent in use: a block has a byte in it, or it holds the write position? (R157) -/
def Staging.inUse (g : Staging) (e : Nat) : Bool :=
  g.queue.any (fun b => (g.extentsOf b).contains e) || g.writing.any (fun b => (g.extentsOf b).contains e)
    || g.write.any (fun w => decide (w.extent = e))

/-- The ring extents kept, and the write position, after a removal from the queue or a block in writing that did not join
(R157). -/
def Staging.kept (g : Staging) : List Nat × Option RingPos :=
  if g.queue.isEmpty ∧ g.writing.isNone then
    if g.stream1.isNone ∧ g.stream2.isNone then ([], none)
    else (g.ring.filter (fun e => g.write.any (fun w => decide (w.extent = e))),
      g.write.map (fun w => { w with offset := 0 }))
  else (g.ring.filter g.inUse, g.write)

/-- The ring extents kept, and the write position, after a close (R157): a close removes no block, so only the last stream to
leave the table, with the queue already empty, cuts the ring back. -/
def Staging.keptAtClose (g : Staging) : List Nat × Option RingPos :=
  if g.queue.isEmpty ∧ g.writing.isNone ∧ g.stream1.isNone ∧ g.stream2.isNone then ([], none) else (g.ring, g.write)

/-- Streams without blocks leave the table (R152); the ring keeps what `keep` says and releases the rest in ring order
(R157). -/
def State.giveBack (s : State) (keep : Staging → List Nat × Option RingPos) : State :=
  let g := (s.staging.pruned 1).pruned 2
  let k := keep g
  { s with
    pool := s.pool.release (g.ring.filter (fun e => !k.1.contains e))
    staging := { g with ring := k.1, write := k.2 } }

/-- After a removal from the queue, or a block in writing that did not join (R152, R157); the idle timer stops when the queue
is empty (R160). -/
def State.tidyStaging (s : State) : State :=
  let t := s.giveBack Staging.kept
  t.withStaging { t.staging with idleTimer := if t.staging.queue.isEmpty then none else t.staging.idleTimer }

/-- After streams are closed (R152, R157, R161): the ring and the idle timer are as they were, but for the cut-back when the
table and the queue are empty (R166). -/
def State.afterClose (s : State) : State := s.giveBack Staging.keptAtClose

/-! ### Obtaining an extent and placing a block (R155, R156) -/

/-- The bytes from the write position to the end of the tail extent (R156, R165). -/
def Staging.room (g : Staging) : Nat :=
  match g.write with
  | some w => if g.ring.isEmpty then 0 else Config.extentBytes - w.offset
  | none => 0

/-- A victim's refill want when its book is the SHOWN slot's (R28, R42, R67). -/
def State.refillFor (s : State) (book : Option Nat) : State :=
  if book.isSome ∧ book = s.shownBook then s.refill else s

/-- The reclaim of R42: the first slot of the order becomes EMPTY, a FILLING one with its lost mark; none if no slot
qualifies. -/
def State.reclaim (s : State) : Option State :=
  match s.reclaimable with
  | [] => none
  | n :: _ => some (s.emptySlot n (decide ((s.slot n).state = .filling)))

/-- One extent of the free list joins the tail of the ring (R3, R156). -/
def State.growRing (s : State) : Option State :=
  match s.pool.allocate 1 .staging with
  | some (es, p) => some { s with pool := p, staging := { s.staging with ring := s.staging.ring ++ es } }
  | none => none

/-- One extent added at the tail of the ring (R156): from the free list, or by a reclaim; none is FULL. -/
def State.obtainExtent (s : State) : Option State :=
  if s.staging.ring.length < s.params.stagingMax ∧ s.pool.free ≠ [] then s.growRing
  else if s.pool.free = [] ∧ s.staging.ring.length < s.params.stagingFloor then
    match s.reclaim with
    | some t =>
      (t.growRing).map (fun u => u.refillFor ((s.reclaimable.head?.bind (fun n => (s.slot n).key)).map PageKey.book))
    | none => none
  else none

/-- The ring with room for a block of a length, or none where R156 obtains no extent. -/
def State.makeRoom (s : State) (len : Nat) : Option State := if len ≤ s.staging.room then some s else s.obtainExtent

/-- Where a block's first byte goes (R155): the write position, or offset 0 of the tail extent where the write position is
at the end of its extent or there is none. -/
def Staging.placeAt (g : Staging) : RingPos :=
  let tail : RingPos := { extent := g.ring.getLast?.getD Config.poolExtents, offset := 0 }
  match g.write with
  | some w => if w.offset < Config.extentBytes then w else tail
  | none => tail

/-- The write position just past a block placed at a position (R155). -/
def Staging.past (g : Staging) (p : RingPos) (len : Nat) : RingPos :=
  if p.offset + len ≤ Config.extentBytes then { p with offset := p.offset + len }
  else { extent := g.ring.getLast?.getD Config.poolExtents, offset := p.offset + len - Config.extentBytes }

/-- A block is placed and is in writing, as Port R memory work (R155, R159). -/
def State.placeBlock (s : State) (b : Block) (payload : List Byte) : State :=
  let at_ := s.staging.placeAt
  let blk := { b with pos := at_ }
  let w : Work :=
    { kind := .putBlock, owner := .staging, extents := s.staging.extentsOf blk, pos := at_.offset
      stop := at_.offset + b.length, data := payload, got := [], lost := false }
  { s with
    staging := { s.staging with write := some (s.staging.past at_ b.length), writing := some blk }
    pool := { s.pool with workR := some w } }

/-! ### Closing and aborting (R161, R162) -/

/-- A stream CLOSED with a reason; its blocks stay queued (R161). -/
def Stream.closed (x : Stream) (r : CloseReason) : Stream := { x with state := .closed, reason := some r }

/-- An OPEN stream closed without STREAM_END, for SLEEP or RADIO_RESET (R161). -/
def Staging.closeOpen (g : Staging) (r : CloseReason) (id : Nat) : Staging :=
  if g.isOpen id then g.setStream id ((g.stream id).map (fun x => x.closed r)) else g

/-- Every OPEN stream is closed for SLEEP or RADIO_RESET (R161, R166). -/
def State.closeAllOpen (s : State) (r : CloseReason) : State :=
  (s.withStaging ((s.staging.closeOpen r 1).closeOpen r 2)).afterClose

/-- A stream is closed with COMPLETE or FAILED: STREAM_END is raised with its id, tag, reason and bytes (R161). DESIGN CHOICE
(log 15): a wake by that notice is served before the end of a deferral is looked for (R142, R172). -/
def State.closeStream (s : State) (id : Nat) (x : Stream) (r : CloseReason) : State :=
  let t := s.withStaging (s.staging.setStream id (some (x.closed r)))
  (t.raise .streamEnd (.streamEnd id x.tag r x.accepted)).afterClose

/-- A stream is aborted: its queued blocks are removed, it becomes ABORTED and STREAM_ABORTED is raised (R162). -/
def State.abortStream (s : State) (id : Nat) (x : Stream) : State :=
  let g := s.staging.setStream id (some { x with state := .aborted, reason := some .aborted })
  let t := s.withStaging { g with queue := g.queue.filter (fun b => decide (b.stream ≠ id)) }
  (t.raiseRm .streamAborted (.streamAborted id x.tag)).tidyStaging

/-! ### The end of a block in writing (R159, R160) -/

/-- The trigger threshold T in bytes (R160). -/
def State.triggerBytes (s : State) : Nat := s.params.triggerKib * 1024

/-- The trigger test at a joining, from the staged bytes before it (R160). -/
def State.triggerTest (s : State) (before : Nat) : State :=
  if before < s.triggerBytes ∧ s.triggerBytes ≤ s.staging.bytes then
    s.raise .stagingTrigger (.staged s.staging.bytes s.staging.queue.length)
  else s

/-- The stream after one of its blocks has joined (R159). -/
def Stream.joined (x : Stream) (b : Block) : Stream :=
  { x with
    accepted := min Config.wordMax (x.accepted + b.length)
    next := if b.sequence = Config.wordMax then Config.wordMax else b.sequence + 1
    exhausted := x.exhausted || decide (b.sequence = Config.wordMax) }

/-- A written block joins the tail of the queue; LAST closes an OPEN stream; then the trigger and idle tests (R159, R160). -/
def State.joinBlock (s : State) (b : Block) (x : Stream) : State :=
  let g := s.staging.setStream b.stream (some (x.joined b))
  let t := s.withStaging { g with writing := none, queue := g.queue ++ [b] }
  let u := if b.last = true ∧ x.state = .open then t.closeStream b.stream (x.joined b) .complete else t
  let v := u.triggerTest s.staging.bytes
  v.withStaging { v.staging with idleTimer := v.timerFor (v.params.idleS * 1000) }

/-- A written block of an ABORTED stream is given up: the write position returns to its first byte (R159). -/
def State.giveUpBlock (s : State) (b : Block) : State :=
  (s.withStaging { s.staging with writing := none, write := some b.pos }).tidyStaging

end Sys2Proof.Machine
end

