-- ==== Sys2Proof/Machine/Sleep.lean ====
section
/-!
DEFINITION. The battery and sleep controller (chapter 7) with the arbiter's power alarm (R127 to R130): the domains, the
entry to DOZE and DEEP, key activity, the POWER key, depletion, battery samples and the cold start.
-/

namespace Sys2Proof.Machine

/-! ### Domains (R41, R118, R119, R126, R139, R146, R177) -/

/-- A port whose domain is switched off (R177): a frame in receipt or held and an answer not yet sent are dropped; a
request taken goes on without its window. -/
def PortUnit.domainOff (p : PortUnit) : PortUnit :=
  { p with state := .waitingSync, buffer := [], held := none, answer := none, busy := p.busy.map (fun _ => false) }

/-- Every FILLING slot's reservation is broken, with the lost mark set (R40, R41), at an AP power-down (R139) and a Port A
reset (R181). DESIGN CHOICE (log 30): lowest slot number first, which shows in the order of the free list (R4). -/
def State.breakReservations (s : State) : State :=
  s.slotNumbers.foldl (fun t n => if (t.slot n).state = .filling then t.emptySlot n true else t) s

/-- The AP power-down (R139): reservations, EN_AP, the AP grant with its rebalance, ATTN_A and the wake test (R172). -/
def State.apPowerDown (s : State) : State :=
  let t := s.breakReservations
  let u := { t with
    bs := { t.bs with ap := .off }
    portA := t.portA.domainOff
    head := { t.head with ap := ⟨0, 0⟩ } }
  u.rebalance.presentWake false

/-- The leases at a Port R reset and at radio power-off: the active one ends and the parked one is dropped, both without a
notice, and the unreleased end becomes absent (R126). -/
def State.dropLeases (s : State) : State :=
  let t := match s.head.active with
    | some l => s.endLease l none
    | none => s
  { t with head := { t.head with parked := none, unreleased := none } }

/-- What a Port R reset does in the blocks (R126, R166, R173). -/
def State.resetRadioSide (s : State) : State :=
  let t := s.dropLeases.closeAllOpen .radioReset
  (t.withStaging { t.staging with watch := none }).clearRm

/-- The radio domain is switched off (R146); a domain already OFF is left as it is. -/
def State.radioOff (s : State) : State :=
  if s.bs.radio then
    let t := s.resetRadioSide
    { t with
      bs := { t.bs with radio := false }
      portR := t.portR.domainOff
      head := { t.head with radio := ⟨0, 0⟩ } }.rebalance
  else s

/-- Does a radio power-on fit with the light shed to 0? (R116, R119) -/
def State.radioFits (s : State) : Bool := s.fits (s.head.ap.grant + s.head.panel.grant) s.params.radioIdleMW 0

/-- A radio power-on (R119, R146), and whether the domain is on after it. -/
def State.radioOn (s : State) : State × Bool :=
  if s.bs.radio then (s, true)
  else if s.alarmed then (s, false)
  else if s.radioFits then
    let t := { s with
      head := { s.head with radio := ⟨s.params.radioIdleMW, s.params.radioIdleMW⟩ }
      bs := { s.bs with radio := true } }
    (t.lightBeside t.head.loads, true)
  else (s.raise .noHeadroom (.noHeadroom .radio s.params.radioIdleMW s.head.ceiling), false)

/-! ### Entries to DOZE and DEEP (R140 to R143) -/

/-- The DOZE idle timer starts (R142). -/
def State.startIdle (s : State) : State :=
  { s with bs := { s.bs with idleTimer := s.timerFor (s.params.dozeIdleMin * 60000) } }

/-- ENTERING_DEEP begins (R143): stage 1, and stage 2 where REST names a slot, else stage 3. -/
def State.enterEnteringDeep (s : State) : State :=
  let t := { s with
    bs := { s.bs with
      power := .enteringDeep, idleTimer := none, deferTimer := none
      resumeKey := s.panel.shownKey
      stage := some .restImage } }
  match s.slots.rest.bind (fun n => (s.slot n).key) with
  | some k => t.placeImage .rest k .sleep
  | none => t.startFade

/-- The DEEP entry begins, or is deferred while a stream is OPEN (R142); a deferral already running goes on. -/
def State.beginDeepEntry (s : State) : State :=
  if 0 < s.params.deepDeferMin ∧ s.staging.anyOpen = true then
    if s.bs.deferTimer.isSome then s
    else { s with bs := { s.bs with deferTimer := s.timerFor (s.params.deepDeferMin * 60000) } }
  else s.enterEnteringDeep

/-- The AP domain goes off at the end of AP_STOPPING (R140): the power-down, DOZE with its idle timer, then a held wake, or
the DEEP entry for target DEEP. -/
def State.stopAp (s : State) : State :=
  let t := { s with bs := { s.bs with apOffTimer := none } }.apPowerDown
  let u := { t with bs := { t.bs with power := .doze, sleepTarget := none, heldWake := false } }.startIdle
  if t.bs.heldWake then u.serveWake
  else if s.bs.sleepTarget = some .deep then u.beginDeepEntry
  else u

/-- Key activity: in DOZE the idle timer starts again and a deferral is cancelled (R47, R142). -/
def State.keyActivity (s : State) : State :=
  if s.bs.power = .doze then { s with bs := { s.bs with deferTimer := none } }.startIdle else s

/-- A press of a key routed POWER (R145). -/
def State.powerPress (s : State) : State := (s.raise .powerKey (.powerKey s.bs.power)).serveWake

/-! ### Depletion (R148) -/

/-- The controller's own records as depletion begins: a REQUESTED AP is withdrawn, a sleep entry and a deferral are given
up (R148). -/
def Controller.giveUp (c : Controller) : Controller :=
  { c with
    depleting := true, stage := none, deferTimer := none, radioTimer := none, apOffTimer := none, sleepTarget := none
    ap := if c.ap = .requested then .off else c.ap }

/-- A waiting AP request is withdrawn and its demand returns to 0 (R118, R148). -/
def State.withdrawAp (s : State) : State :=
  if s.bs.ap = .requested then
    { s with head := { s.head with apWait := none, ap := { s.head.ap with demand := 0 } } }
  else s

/-- The memory and the light as depletion begins: an entry to DEEP, or DEEP itself, is left (R110, R148). -/
def State.leaveSleep (s : State) : State :=
  let t := { s with
    pool := s.pool.leaveRefresh
    light := { s.light with fading := false } }
  if s.bs.power = .deep then t.startPeriods else t

/-- Depletion begins (R148). -/
def State.beginDepletion (s : State) : State :=
  let t := s.withdrawAp.leaveSleep
  let u := { t with bs := t.bs.giveUp }
  let v := (if s.bs.ap = .on then u.apPowerDown else u).radioOff
  let w := { v with bs := { v.bs with power := .doze, idleTimer := none } }
  match w.slots.empty.bind (fun n => (w.slot n).key) with
  | some k =>
    let x := { w with bs := { w.bs with depletionTimer := w.timerFor 10000 } }
    x.placeImage .empty k .battery
  | none => w.enterDepleted

/-! ### The power alarm (R127 to R130) -/

/-- The leases at the power alarm: the active one revoked, the parked one cleared, one LEASE_REVOKED for both (R124). -/
def State.alarmLeases (s : State) : State :=
  let t := { s with head := { s.head with parked := none } }
  match s.head.active, s.head.parked with
  | some l, none => (t.endLease l (some .revoked)).raiseRm .leaseRevoked (.leaseRevoked l.mW .alarm .active)
  | some l, some _ => (t.endLease l (some .revoked)).raiseRm .leaseRevoked (.leaseRevoked l.mW .alarm .both)
  | none, some p => t.raiseRm .leaseRevoked (.leaseRevoked p.mW .alarm .parked)
  | none, none => t

/-- The power alarm is raised (R127). -/
def State.alarmRaise (s : State) (c : AlarmCause) : State :=
  let t := { s with head := { s.head with alarm := some c, clearTimer := none } }.lightAlarm.alarmLeases.turnAlarm.panelAlarm
  t.raise .powerAlarm (.powerAlarm c s.head.v s.head.ceiling)

/-- The power alarm clears (R130). -/
def State.alarmClear (s : State) : State :=
  let t := { s with head := { s.head with alarm := none, clearTimer := none } }
  t.turnAlarmCleared.lightAlarmCleared.rebalance

/-- The alarm condition is gone (R129): vcut is the one the latest sample took (R113). DEDUCED
(log 35). -/
def State.alarmGone (s : State) : Bool :=
  decide (s.head.vcut ≤ s.head.v) && decide (s.head.loads ≤ s.head.ceiling)

/-! ### A battery sample (R114, R115, R122, R134 to R138) -/

/-- Steps 1 to 4 of R114: the power the battery can give, uncapped. -/
def rawPower (v : Nat) (i : Int) (resr vcut : Nat) : Nat :=
  let voc := v + (-i).toNat * resr / 1000
  let imax := if voc ≤ vcut then 0 else (voc - vcut) * 1000 / resr
  imax * vcut / 1000

/-- The arbiter's record of a sample (R114), with the vcut it took (R113). -/
def State.storeCeiling (s : State) (x : Sample) : State :=
  let capped := min (rawPower x.v x.i s.params.resrMOhm s.params.vcutMV) s.params.ceilingMaxMW
  { s with
    head := { s.head with
      v := x.v, i := x.i, capped := capped, ceiling := capped - s.params.reserveMW, vcut := s.params.vcutMV } }

/-- The first sample after a start gives the AP its grant (R115). -/
def State.firstGrant (s : State) : State :=
  if s.head.sampled then s
  else { s with head := { s.head with ap := ⟨s.params.apMW, s.params.apMW⟩, sampled := true } }

/-- The clear timer at a sample while the alarm is set (R129). -/
def State.clearTimerStep (s : State) : State :=
  if s.bs.ap = .on then s
  else if s.alarmGone then
    { s with head := { s.head with clearTimer := s.head.clearTimer.or (s.timerFor 2000) } }
  else { s with head := { s.head with clearTimer := none } }

/-- The lease revoked at a ceiling drop (R122, step 2). -/
def State.shedLease (s : State) : State :=
  if s.head.ceiling < s.head.loads then s.revokeActive .ceiling else s

/-- The arbiter's action on a sample (R114, R122, R127, R129). DESIGN CHOICE (log 41): an active lease revoked at the ceiling
drop and a parked one cleared by the alarm of the same sample are two removals, so the notice says PARKED and ALARM. -/
def State.arbiterSample (s : State) (x : Sample) : State :=
  let t := (s.storeCeiling x).firstGrant
  if t.alarmed then t.clearTimerStep.rebalance
  else
    let u := t.shedLease
    if x.v < u.params.vcutMV then u.alarmRaise .voltage
    else if u.head.ceiling < u.head.loads then u.alarmRaise .ceiling
    else u.rebalance

/-- Charge counting (R135): the whole mAh leave r toward Q, and Q is held at its bounds with r 0. -/
def countCharge (q : Nat) (r : Int) (capacity : Nat) : Nat × Int :=
  let k := Int.tdiv r Config.mAh
  let q' := (q : Int) + k
  if (capacity : Int) < q' then (capacity, 0)
  else if q' < 0 then (0, 0)
  else (q'.toNat, r - k * Config.mAh)

/-- Charge as a percent of capacity (R135). -/
def percentOf (q capacity : Nat) : Nat := q * 100 / capacity

/-- The charger state (R137). -/
def chargerState (present done : Bool) (i : Int) : Charger :=
  if present && done then .done else if 20 < i then .charging else .absent

/-- The controller's storing, counting and charger state at a sample (R134, R135, R137). -/
def State.controllerSample (s : State) (x : Sample) (dt : Int) : State :=
  let c := countCharge s.bs.q (s.bs.r + x.i * dt) s.params.capacityMAh
  { s with
    bs := { s.bs with
      lastV := x.v, lastI := x.i, q := c.1, r := c.2
      percent := percentOf c.1 s.params.capacityMAh
      charger := chargerState s.pins.chgPresent s.pins.chgDone x.i } }

/-- The next battery state (R136). -/
def State.judged (s : State) : Battery :=
  let p := s.bs.percent
  let bad := decide (p < s.params.critPct) || decide (s.head.capped = 0)
  match s.bs.battery with
  | .normal => if bad then .critical else if p < s.params.lowPct then .low else .normal
  | .low => if bad then .critical else if s.params.lowPct + 2 ≤ p then .normal else .low
  | .critical =>
    if s.onCharge = true ∧ s.params.critPct + 2 ≤ p ∧ 0 < s.head.capped then
      (if s.params.lowPct + 2 ≤ p then .normal else .low)
    else .critical

/-- The cause BATTERY_CRITICAL carries (R136). -/
def State.criticalCause (s : State) : CriticalCause := if s.head.capped = 0 then .headroom else .percent

/-- Judging the battery state (R136, R138). -/
def State.judge (s : State) : State :=
  let b := s.judged
  if b = s.bs.battery then s
  else
    let t := { s with
      bs := { s.bs with
        battery := b
        graceTimer := if b = .critical then s.timerFor (s.params.critGraceS * 1000) else none } }
    match b with
    | .low => t.raise .batteryLow (.batteryLow t.bs.percent t.bs.q)
    | .critical =>
      t.raise .batteryCritical (.batteryCritical t.bs.percent t.criticalCause t.params.critGraceS)
    | .normal => t

/-- The interval a sample carries (R134): 4,000 ms in DEEP, 250 ms otherwise. -/
def State.sampleInterval (s : State) : Int := if s.bs.power = .deep then 4000 else 250

/-- A battery sample (R134). -/
def State.sample (s : State) (x : Sample) : State := ((s.arbiterSample x).controllerSample x s.sampleInterval).judge

/-! ### The start (R139, R149) -/

/-- The levels a start reads from the pins (R46, R139). -/
def pinsOf (p : StartPins) : Pins :=
  { keys := [p.k0, p.k1, p.k2, p.k3], chgPresent := p.chgPresent, chgDone := p.chgDone, awake := p.awake }

/-- A cold start with the pins as given: every block at its power-on value, then the first sample (R134). The queue of
waiting commands is outside the device and stays. -/
def State.coldStart (s : State) (pins : Pins) (first : Sample) : State :=
  { State.start pins with pending := s.pending }.sample first

end Sys2Proof.Machine
end

