-- ==== Sys2Proof/Machine/Settle.lean ====
section
/-!
DEFINITION. What follows by itself inside the step of the event that makes it possible: the engine takes the queue's head
(R54), a deferral ends with the last OPEN stream (R142), ENTERING_DEEP goes on through its stages (R143), and a met space
watch raises SPACE (R165).
-/

namespace Sys2Proof.Machine

/-- The deferral of a DEEP entry ends because no stream is OPEN (R142). -/
def State.deferralOver (s : State) : Bool :=
  s.bs.deferTimer.isSome && decide (s.bs.power = .doze) && !s.staging.anyOpen

/-- Stage 4 of ENTERING_DEEP may begin: the fade is complete and the radio notice timer has expired or never ran (R143). -/
def State.fadeStageOver (s : State) : Bool :=
  decide (s.bs.stage = some .fade) && s.fadeComplete && s.bs.radioTimer.isNone

/-- Stage 4 (R143): OPEN streams are closed for SLEEP, the radio domain goes off, and the rails are asked to drop. -/
def State.radioStage (s : State) : State :=
  let t := (s.closeAllOpen .sleep).radioOff
  { t with bs := { t.bs with stage := some .rails } }

/-- Is ENTERING_DEEP in stage 5 or waiting for stage 6? -/
def State.railStage (s : State) : Bool := decide (s.bs.stage = some .rails) || decide (s.bs.stage = some .ready)

/-- The rails asked to drop are HOT and holding: they fall (R93). DESIGN CHOICE (log 40): RISING rails with no update in
hand rise to their end and then fall at once, with the drop asked. -/
def State.railsAsked (s : State) : Bool :=
  s.railStage && decide (s.panel.rail = .hot) && s.panel.update.isNone

/-- Stage 6 may begin: RAIL_OFF, the engine IDLE, the alarm clear (R143). -/
def State.refreshAsked (s : State) : Bool :=
  s.railStage && decide (s.panel.rail = .off) && decide (s.turn.engine = .idle) && !s.alarmed

/-- Stage 6 (R14, R143): the pool controller is asked for self-refresh. DESIGN CHOICE (log 38): a request that comes before
an earlier exit has been reported takes its place, and the report of that exit no longer comes. -/
def State.askRefresh (s : State) : State :=
  { s with
    pool := { s.pool with mode := .entering }
    bs := { s.bs with stage := some .selfRefresh } }

/-- The rails are at RAIL_OFF in stage 5 (R93, R143). DESIGN CHOICE (log 37): a drop request that finds an update in hand
before its rise (PLANNING or RISE_WAIT, so RAIL_OFF) is answered at once. -/
def State.railsReported (s : State) : Bool := decide (s.bs.stage = some .rails) && decide (s.panel.rail = .off)

/-- Is an armed space watch met? (R165) -/
def State.watchMet (s : State) : Bool := s.staging.watch.any (fun n => decide (n ≤ s.space))

/-- The next thing that comes about by itself, or none. -/
def State.nextAction (s : State) : Option State :=
  if s.canTake then some s.takeHead
  else if s.deferralOver then some s.enterEnteringDeep
  else if s.fadeStageOver then some s.radioStage
  else if s.railsAsked then some s.railsFall
  else if s.refreshAsked then some s.askRefresh
  else if s.railsReported then some { s with bs := { s.bs with stage := some .ready } }
  else if s.watchMet then some s.evalWatch
  else none

/-- Up to `n` of them in turn. -/
def State.settleN : Nat → State → State
  | 0, s => s
  | n + 1, s =>
    match s.nextAction with
    | some t => State.settleN n t
    | none => s

/-- All of them: the queue holds at most nine entries, ENTERING_DEEP six stages and the watch one, so 64 suffice. -/
def State.settle (s : State) : State := State.settleN 64 s

end Sys2Proof.Machine
end

