-- ==== Sys2Proof/Machine/Ports.lean ====
section
/-!
DEFINITION. The two SPI target ports (chapter 10): windows, the request in progress and its answer (R175 to R177). The
checks of R176 and the handing of a request to its block are in Machine/Requests.lean.
-/

namespace Sys2Proof.Machine

/-- A port of the state. -/
def State.port (s : State) : Port → PortUnit
  | .a => s.portA
  | .r => s.portR

/-- The state with a port set. -/
def State.setPort (s : State) (p : Port) (u : PortUnit) : State :=
  match p with
  | .a => { s with portA := u }
  | .r => { s with portR := u }

/-- An answer with a status and no body. -/
def Answer.plain (c : Status) : Answer := { status := c, body := .none }

/-- A port whose window is released (R175, R177): a frame in receipt and the unsent part of an answer are dropped; a
request in progress and a held frame stay taken, their answers not to be delivered. -/
def PortUnit.released (u : PortUnit) : PortUnit :=
  { u with
    state := .waitingSync, buffer := [], answer := none, busy := u.busy.map (fun _ => false)
    held := u.held.map (fun h => { h with live := false }) }

/-- A port that takes a request in a window that is open (`live`) or has been released (R176). A window opened since the
released one keeps its port state and what it has received (R175). -/
def PortUnit.taking (u : PortUnit) (live : Bool) : PortUnit :=
  { u with state := if live then .busy else u.state, buffer := if live then [] else u.buffer, busy := some live }

/-- The port's request in progress ends with an answer (R177), sent if its window is still open. -/
def PortUnit.answered (u : PortUnit) (a : Answer) : PortUnit :=
  if u.busy = some true then
    { u with state := .answering, busy := none, answer := some a, lastAnswer := some a }
  else { u with busy := none }

/-- The owning block gives the answer of the request in progress on a port (R177). -/
def State.give (s : State) (p : Port) (a : Answer) : State := s.setPort p ((s.port p).answered a)

/-- An answer with a status and no body. -/
def State.say (s : State) (p : Port) (c : Status) : State := s.give p (Answer.plain c)

/-- An OK answer with a body. -/
def State.tell (s : State) (p : Port) (b : AnswerBody) : State := s.give p { status := .ok, body := b }

/-- RESET_PORT is taken at once (R181): an earlier request goes on without its answer, a held frame is discarded. -/
def PortUnit.resetTaken (u : PortUnit) : PortUnit :=
  { u with buffer := [], held := none, busy := u.busy.map (fun _ => false) }

/-- The answer OK to RESET_PORT, sent beside an earlier request that goes on (R181). -/
def PortUnit.resetAnswered (u : PortUnit) : PortUnit :=
  { u with state := .answering, answer := some (Answer.plain .ok), lastAnswer := some (Answer.plain .ok) }

/-- Are the bytes that come in the window still open ignored? After the frame is taken, while the answer is sent and in
IGNORING (R175). -/
def PortUnit.deaf (u : PortUnit) : Bool :=
  match u.state with
  | .busy | .answering | .ignoring => true
  | .waitingSync | .receiving => false

end Sys2Proof.Machine
end

