-- ==== Sys2Proof/Machine/Slots.lean ====
section
/-!
DEFINITION. The slot table's requests (chapter 2): opening with its plan (R26 to R28), writing, committing, cancelling,
blank pages, classes, designations, forgetting and listing; and the ends of a write, a blank write and a scan.
-/

namespace Sys2Proof.Machine

/-! ### Range checks (R26, R29, R35, R38) -/

/-- A page key in range: book 1 to 65,535, page 0 to 16,777,215. -/
def keyInRange (k : PageKey) : Bool := inRange 1 Config.bookMax k.book && decide (k.page ≤ Config.pageMax)

/-- A slot number in range. -/
def slotInRange (n : Nat) : Bool := decide (n < Config.slotCount)

/-- A payload in range: 1 to 4,096 bytes (R29, R73, R158). -/
def payloadInRange (p : List Byte) : Bool := inRange 1 Config.payloadMax p.length

/-- The arguments of OPEN_SLOT in range (R26). -/
def openInRange (x : OpenSlotArgs) : Bool := keyInRange x.key && inRange 1 Config.imageMax x.length

/-- The arguments of BLANK_SLOT in range (R35). -/
def blankInRange (x : BlankSlotArgs) : Bool := keyInRange x.key && decide (x.level ≤ 15)

/-- The arguments of FORGET in range (R38). -/
def forgetInRange (x : ForgetArgs) : Bool :=
  inRange 1 Config.bookMax x.book &&
    match x.range with
    | some (a, b) => decide (a ≤ Config.pageMax) && decide (b ≤ Config.pageMax) && decide (a ≤ b)
    | none => true

/-! ### Opening (R26 to R28) -/

/-- What an accepted opening does: the duplicate that goes, the victims in order, the record the page gets. -/
structure OpenPlan where
  dup : Option Nat
  victims : List Nat
  record : Nat
  deriving DecidableEq, Repr

/-- The pin limit would be passed (R24); a PINNED duplicate is left out of the count. -/
def State.pinExcess (s : State) (c : Cls) (dup : Option Nat) : Bool :=
  let d := match dup with
    | some n => if (s.slot n).cls = some .pinned then 1 else 0
    | none => 0
  decide (c = .pinned) && decide (Config.pinLimit ≤ s.pinned - d)

/-- The EMPTY records. -/
def State.emptyRecords (s : State) : List Nat := s.slotNumbers.filter (fun n => decide ((s.slot n).state = .empty))

/-- The eligible victims in the order of R27. -/
def State.evictable (s : State) (dup : Option Nat) : List Nat :=
  (s.oldestFirst (s.unprotected .ready .streamed) ++ s.oldestFirst (s.unprotected .ready .retained)).filter
    (fun n => decide (dup ≠ some n))

/-- Victims are taken one at a time until there is a record and `n` extents (R27): the victims, or none for a shortfall. -/
def State.takeVictims (s : State) (n : Nat) : List Nat → Nat → Nat → Option (List Nat)
  | vs, records, extents =>
    if 1 ≤ records ∧ n ≤ extents then some []
    else match vs with
      | [] => none
      | v :: rest =>
        (State.takeVictims s n rest (records + 1) (extents + (s.slot v).extents.length)).map (fun l => v :: l)

/-- The record of the new page (R28): the duplicate's, else the lowest EMPTY one with the lost mark clear, else the lowest
EMPTY one, else the first victim's. -/
def State.recordFor (s : State) (dup : Option Nat) (victims : List Nat) : Option Nat :=
  dup.or ((s.emptyRecords.find? (fun n => !(s.slot n).lost)).or (s.emptyRecords.head?.or victims.head?))

/-- Is the duplicate held by a role or a scan? (R26) -/
def State.dupInUse (s : State) (dup : Option Nat) : Bool :=
  dup.any (fun n => s.hasRole n || decide ((s.slot n).state = .verifying))

/-- The checks of R26 and R27 after the arguments: a plan, or the refusal. -/
def State.planOpen (s : State) (key : PageKey) (c : Cls) (n : Nat) : Except Status OpenPlan :=
  let dup := s.slotOfKey key
  let dupExtents := (dup.map (fun d => (s.slot d).extents.length)).getD 0
  let records := s.emptyRecords.length + (if dup.isSome then 1 else 0)
  let vs := s.evictable dup
  if s.dupInUse dup then .error .inUse
  else if s.pinExcess c dup then .error .refusedState
  else match s.takeVictims n vs records (s.pool.free.length + dupExtents) with
    | some victims =>
      match s.recordFor dup victims with
      | some r => .ok { dup := dup, victims := victims, record := r }
      | none => .error .noSlot
    | none => if records + vs.length = 0 then .error .noSlot else .error .noSpace

/-- The duplicate and the victims become EMPTY (R28, steps 1 and 2). -/
def State.clearFor (s : State) (p : OpenPlan) : State :=
  p.victims.foldl (fun t v => t.emptySlot v false)
    (match p.dup with
      | some d => s.emptySlot d false
      | none => s)

/-- The new page enters with its extents and is stamped; each victim of the shown book is reported (R28, R67). -/
def State.carryOut (s : State) (p : OpenPlan) (n : Nat) (x : Slot) : State :=
  let t := s.clearFor p
  let u := match t.pool.allocate n (.slot p.record) with
    | some (es, pool) => ({ t with pool := pool }.setSlot p.record { x with extents := es }).stamp p.record
    | none => t
  p.victims.foldl (fun w v => w.refillFor ((s.slot v).key.map PageKey.book)) u

/-- The record OPEN_SLOT makes (R28). -/
def openedSlot (x : OpenSlotArgs) : Slot :=
  { state := .filling, key := some x.key, cls := some x.cls, extents := [], declared := x.length, written := 0
    reservation := true, fullRefresh := x.fullRefresh, edge := x.edge, age := 0, forget := false, lost := false }

/-- Extents of an image of a length (R27). -/
def extentsNeeded (length : Nat) : Nat := (length + (Config.extentBytes - 1)) / Config.extentBytes

/-- OPEN_SLOT (R26 to R28). -/
def State.serveOpenSlot (s : State) (p : Port) (x : OpenSlotArgs) : State :=
  if openInRange x then
    match s.planOpen x.key x.cls (extentsNeeded x.length) with
    | .ok plan =>
      let t := s.carryOut plan (extentsNeeded x.length) (openedSlot x)
      (t.tell p (.opened plan.record (t.slot plan.record).extents)).evalWatch
    | .error c => s.say p c
  else s.say p .badArgument

/-! ### Writing and committing (R29 to R31, R34) -/

/-- Memory work of a port begins: it waits for its chunks (R10). -/
def State.setWork (s : State) (p : Port) (w : Option Work) : State :=
  match p with
  | .a => { s with pool := { s.pool with workA := w } }
  | .r => { s with pool := { s.pool with workR := w } }

/-- The memory work of a port. -/
def State.work (s : State) : Port → Option Work
  | .a => s.pool.workA
  | .r => s.pool.workR

/-- The memory work of a WRITE_SLOT (R30). -/
def writeWork (n : Nat) (x : Slot) (offset : Nat) (payload : List Byte) : Work :=
  { kind := .writeSlot n payload.length, owner := .slot n, extents := x.extents, pos := offset
    stop := offset + payload.length, data := payload, got := [], lost := false }

/-- What a slot that takes no write, commit or cancel answers: LOST with its mark, REFUSED_STATE without (R29, R31, R34). -/
def Slot.notFilling (x : Slot) : Status := if x.state = .empty ∧ x.lost = true then .lost else .refusedState

/-- Is the slot FILLING with its reservation present? -/
def Slot.takesWrites (x : Slot) : Bool := decide (x.state = .filling) && x.reservation

/-- WRITE_SLOT (R29, R30). -/
def State.serveWriteSlot (s : State) (p : Port) (x : WriteSlotArgs) : State :=
  let r := s.slot x.slot
  if !slotInRange x.slot || !payloadInRange x.payload then s.say p .badArgument
  else if !r.takesWrites then s.say p r.notFilling
  else if x.offset ≠ r.written then s.say p .badOffset
  else if r.declared < x.offset + x.payload.length then s.say p .badArgument
  else s.setWork p (some (writeWork x.slot r x.offset x.payload))

/-- The end of a WRITE_SLOT's work (R30, R40): LOST where chunks were discarded; otherwise every chunk was written up to
image byte `stop`, and the answer is OK, also where the reservation was broken after the last of them. -/
def State.writeSlotEnds (s : State) (p : Port) (n len stop : Nat) (lost : Bool) : State :=
  let r := s.slot n
  if lost then s.say p .lost
  else if r.takesWrites then (s.setSlot n { r with written := r.written + len }).tell p (.written (r.written + len))
  else s.tell p (.written stop)

/-- A verify scan of a slot joins the scans (R12, R31). -/
def State.queueScan (s : State) (n : Nat) (len : Nat) : State :=
  { s with
    pool := { s.pool with scans := s.pool.scans ++ [{ slot := n, pos := 0, len := len, check := ImageCheck.init, lost := false }] } }

/-- COMMIT_SLOT (R31). -/
def State.serveCommitSlot (s : State) (p : Port) (x : SlotArgs) : State :=
  let r := s.slot x.slot
  if !slotInRange x.slot then s.say p .badArgument
  else if !r.takesWrites then s.say p r.notFilling
  else if r.written < r.declared then s.say p .badArgument
  else
    let t := (s.setSlot x.slot { r with state := .verifying, reservation := false }).queueScan x.slot r.written
    (t.say p .accepted).evalWatch

/-- CANCEL_SLOT (R34). -/
def State.serveCancelSlot (s : State) (p : Port) (x : SlotArgs) : State :=
  let r := s.slot x.slot
  if !slotInRange x.slot then s.say p .badArgument
  else match r.state with
    | .filling => ((s.emptySlot x.slot false).say p .ok).evalWatch
    | .empty => if r.lost then (s.setSlot x.slot { r with lost := false }).say p .lost else s.say p .refusedState
    | .verifying | .ready => s.say p .refusedState

/-! ### Blank pages (R35) -/

/-- The record BLANK_SLOT makes (R35). -/
def blankSlotRecord (x : BlankSlotArgs) : Slot :=
  { state := .verifying, key := some x.key, cls := some x.cls, extents := [], declared := 30, written := 30
    reservation := false, fullRefresh := false, edge := none, age := 0, forget := false, lost := false }

/-- The memory work of a BLANK_SLOT: its 30 bytes in one chunk (R35). -/
def blankWork (n : Nat) (extents : List Nat) (level : Nat) : Work :=
  { kind := .blankSlot n, owner := .slot n, extents := extents, pos := 0, stop := 30, data := blankImage level, got := []
    lost := false }

/-- BLANK_SLOT (R35). -/
def State.serveBlankSlot (s : State) (p : Port) (x : BlankSlotArgs) : State :=
  if blankInRange x then
    match s.planOpen x.key x.cls 1 with
    | .ok plan =>
      let t := s.carryOut plan 1 (blankSlotRecord x)
      (t.setWork p (some (blankWork plan.record (t.slot plan.record).extents x.level))).evalWatch
    | .error c => s.say p c
  else s.say p .badArgument

/-- A slot becomes READY: it is stamped and reported to the turn engine (R32, R35). -/
def State.becomeReady (s : State) (n : Nat) : State :=
  let t := (s.setSlot n { s.slot n with state := .ready }).stamp n
  match (s.slot n).key with
  | some k => t.slotReady n k
  | none => t

/-- The end of a BLANK_SLOT's write (R33, R35). -/
def State.blankEnds (s : State) (p : Port) (n : Nat) : State :=
  let t := if (s.slot n).forget then s.emptySlot n false else s.becomeReady n
  t.tell p (.slot n)

/-! ### The end of a verify scan (R32, R33) -/

/-- The outcome of a scan at its slot. -/
def State.scanEnds (s : State) (n : Nat) (result : Option ImageFault) : State :=
  let r := s.slot n
  if r.forget then s.emptySlot n false
  else match result with
    | none => s.becomeReady n
    | some why =>
      let t := s.emptySlot n false
      match r.key with
      | some k => t.raise .slotRejected (.slotRejected n k why)
      | none => t

/-! ### Classes, designations, forgetting, listing (R36 to R39) -/

/-- SET_CLASS (R36). -/
def State.serveSetClass (s : State) (p : Port) (x : SetClassArgs) : State :=
  let r := s.slot x.slot
  if !slotInRange x.slot then s.say p .badArgument
  else if r.state = .empty then s.say p .refusedState
  else if x.cls = .pinned ∧ r.cls ≠ some .pinned ∧ Config.pinLimit ≤ s.pinned then s.say p .refusedState
  else
    let t := s.setSlot x.slot { r with cls := some x.cls }
    let u := if x.cls = .pinned then t else { t with slots := t.slots.undesignate x.slot }
    (u.say p .ok).evalWatch

/-- A designation record set (R25, R37). -/
def SlotTable.designate (t : SlotTable) (d : Designation) (n : Option Nat) : SlotTable :=
  match d with
  | .rest => { t with rest := n }
  | .empty => { t with empty := n }

/-- DESIGNATE (R37). -/
def State.serveDesignate (s : State) (p : Port) (x : DesignateArgs) : State :=
  match x.slot with
  | none => { s with slots := s.slots.designate x.which none }.say p .ok
  | some n =>
    if !slotInRange n then s.say p .badArgument
    else if (s.slot n).cls = some .pinned ∧ (s.slot n).state = .ready then
      { s with slots := s.slots.designate x.which (some n) }.say p .ok
    else s.say p .refusedState

/-- Does a slot match a FORGET? (R38) -/
def Slot.matchesForget (r : Slot) (x : ForgetArgs) : Bool :=
  decide (r.state ≠ .empty) &&
    match r.key with
    | some k => decide (k.book = x.book) &&
        (match x.range with
          | some (a, b) => inRange a b k.page
          | none => true)
    | none => false

/-- What FORGET does to one matching slot (R38). -/
def State.forgetSlot (s : State) (n : Nat) : State :=
  if s.hasRole n then s
  else match (s.slot n).state with
    | .ready => s.emptySlot n false
    | .filling => s.emptySlot n true
    | .verifying => s.setSlot n { s.slot n with forget := true }
    | .empty => s

/-- FORGET (R38). DESIGN CHOICE (log 30): the matching slots are emptied lowest number first. -/
def State.serveForget (s : State) (p : Port) (x : ForgetArgs) : State :=
  if forgetInRange x then
    let hit := s.slotNumbers.filter (fun n => (s.slot n).matchesForget x)
    let skipped := hit.countP s.hasRole
    ((hit.foldl State.forgetSlot s).tell p (.forgot (hit.length - skipped) skipped)).evalWatch
  else s.say p .badArgument

/-- What LIST_SLOTS returns (R39). -/
def State.slotList (s : State) : SlotList :=
  { slots := s.slotNumbers.map (fun n =>
      { number := n, slot := s.slot n, shown := s.isShown n, target := s.isTarget n })
    rest := s.slots.rest
    empty := s.slots.empty
    pinned := s.pinned
    use := s.slots.use }

/-- LIST_SLOTS (R39). -/
def State.serveListSlots (s : State) (p : Port) : State := s.tell p (.slots s.slotList)

end Sys2Proof.Machine
end

