-- ==== Sys2Proof/Machine/Arbiter.lean ====
section
/-!
DEFINITION. The memory arbiter (R7 to R13): which requester a chunk grant serves, the chunk carried out, and the bursts of
the panel feed.
-/

namespace Sys2Proof.Machine

/-! ### Who waits (R9, R10, R12) -/

/-- Has the work chunks left? -/
def Work.unfinished (w : Work) : Bool := decide (w.pos < w.stop)

/-- Has the scan chunks left? It stops at the first failure (R32). -/
def Scan.unfinished (c : Scan) : Bool := decide (c.pos < c.len) && !c.check.stopped

/-- Does a chunk requester wait? -/
def Pool.waits (p : Pool) : Requester → Bool
  | .portA => p.workA.any Work.unfinished
  | .portR => p.workR.any Work.unfinished
  | .verify => p.scans.head?.any Scan.unfinished

/-- The requester after one in the rotation (R12). -/
def Requester.next : Requester → Requester
  | .portA => .portR
  | .portR => .verify
  | .verify => .portA

/-- The requester a chunk grant serves: the first that waits, from the pointer on (R12). -/
def Pool.granted (p : Pool) : Option Requester :=
  [p.pointer, p.pointer.next, p.pointer.next.next].find? p.waits

/-! ### One chunk (R7, R8, R10) -/

/-- Bytes of the next access of at most `most` bytes at byte `pos` of `left` that remain: within one extent (R10, R11). -/
def accessLen (most pos left : Nat) : Nat := min most (min left (Config.extentBytes - pos % Config.extentBytes))

/-- Bytes of the next chunk of a work (R10). -/
def Work.chunkLen (w : Work) : Nat := accessLen Config.chunkMax w.pos (w.stop - w.pos)

/-- Does the extent at a byte of an owner's data belong to that owner? (R8) -/
def Pool.owns (p : Pool) (o : Owner) (extents : List Nat) (pos : Nat) : Bool :=
  match extents[pos / Config.extentBytes]? with
  | some e => decide (p.owners[e]? = some o)
  | none => false

/-- Does a work write memory? -/
def WorkKind.writes : WorkKind → Bool
  | .writeSlot _ _ | .blankSlot _ | .waveformWrite | .putBlock => true
  | .waveformCommit | .drain => false

/-- The memory after the next chunk of a work that is carried out. -/
def Work.stored (w : Work) (m : Memory) : Memory :=
  if w.kind.writes then m.writeBytes (extentAddr w.extents w.pos) (w.data.take w.chunkLen) else m

/-- The bytes a drain's chunk adds to its answer (R163). -/
def Work.fetched (w : Work) (m : Memory) : List Byte :=
  if w.kind = .drain then m.readBytes (extentAddr w.extents w.pos) w.chunkLen else []

/-- A work after its next chunk, carried out or discarded (R8). -/
def Work.advance (w : Work) (kept : Bool) (m : Memory) : Work :=
  { w with
    pos := w.pos + w.chunkLen
    data := w.data.drop w.chunkLen
    got := if kept then w.got ++ w.fetched m else w.got
    lost := w.lost || !kept }

/-- Is the next chunk of a work carried out? Its extent still has its owner, and no earlier chunk was discarded (R8). -/
def Pool.carries (p : Pool) (w : Work) : Bool := p.owns w.owner w.extents w.pos && !w.lost

/-- A chunk of a port's work. -/
def Pool.workChunk (p : Pool) (w : Work) : Work × Memory :=
  (w.advance (p.carries w) p.mem, if p.carries w then w.stored p.mem else p.mem)

/-- Bytes of the next chunk of a scan. -/
def Scan.chunkLen (c : Scan) : Nat := accessLen Config.chunkMax c.pos (c.len - c.pos)

/-- A scan after its next chunk (R8, R32): the check goes on over the bytes of a chunk that is carried out. -/
def Scan.advance (c : Scan) (kept : Bool) (bytes : List Byte) : Scan :=
  { c with
    pos := c.pos + c.chunkLen
    check := if kept then c.check.feed bytes else c.check
    lost := c.lost || !kept }

/-- Is the next chunk of a scan carried out? Its extent still belongs to the slot, and no earlier chunk was discarded
(R8). -/
def State.scanCarries (s : State) (c : Scan) : Bool :=
  s.pool.owns (.slot c.slot) (s.slot c.slot).extents c.pos && !c.lost

/-- A chunk of the running scan. -/
def State.scanChunk (s : State) (c : Scan) : Scan :=
  c.advance (s.scanCarries c) (s.pool.mem.readBytes (extentAddr (s.slot c.slot).extents c.pos) c.chunkLen)

/-- The requester's next chunk, and the rotation pointer moved past it (R12). -/
def State.chunkFor (s : State) (r : Requester) : State :=
  let p := { s.pool with pointer := r.next }
  match r with
  | .portA =>
    match p.workA with
    | some w => { s with pool := { p with workA := some (p.workChunk w).1, mem := (p.workChunk w).2 } }
    | none => s
  | .portR =>
    match p.workR with
    | some w => { s with pool := { p with workR := some (p.workChunk w).1, mem := (p.workChunk w).2 } }
    | none => s
  | .verify =>
    match p.scans with
    | c :: rest => { s with pool := { p with scans := s.scanChunk c :: rest } }
    | [] => s

/-- Does the arbiter grant at all? Not in self-refresh or off, nor on the way there and back (R14, R15). -/
def Pool.grants (p : Pool) : Bool := decide (p.mode = .active)

/-- A chunk grant (R9, R12): the panel feed comes first, then the waiting requester in rotation. -/
def State.grantChunk (s : State) : State :=
  if s.pool.grants && !s.feedWaits then
    match s.pool.granted with
    | some r => s.chunkFor r
    | none => s
  else s

/-! ### The panel feed (R11) -/

/-- The byte a source's next burst begins at, in its extents (R11, R88): the images go on byte by byte, and the entries of
frame k stand 16 store bytes apart in the drive table of the update's waveform (R184). -/
def State.feedPos (s : State) (u : Update) (src : FeedSource) : Nat :=
  match src with
  | .waveform =>
    1024 + 4096 * waveNumber u.mode (u.band.getD 2) + 16 * s.pool.feed.waveform + u.frame / 4
  | .target => (s.feedRows u u.target).1 + s.pool.feed.target
  | .shown => (s.panel.shown.map (fun n => (s.feedRows u n).1)).getD 0 + s.pool.feed.shown

/-- Who owns a source, and its extents (R8): the slot of an image, or the waveform store. -/
def State.feedOwner (s : State) (u : Update) : FeedSource → Owner × List Nat
  | .target => (.slot u.target, (s.slot u.target).extents)
  | .shown => match s.panel.shown with
    | some n => (.slot n, (s.slot n).extents)
    | none => (.free, [])
  | .waveform => (.waveform, waveExtents)

/-- Is the next burst of a source carried out? Its extent belongs to the source's owner, and no burst of this planning or
frame was discarded (R8). -/
def State.feedCarries (s : State) (u : Update) (src : FeedSource) : Bool :=
  s.pool.owns (s.feedOwner u src).1 (s.feedOwner u src).2 (s.feedPos u src) && !s.pool.feed.lost

/-- The feed after a burst, carried out or discarded (R8). -/
def Feed.add (f : Feed) (src : FeedSource) (n : Nat) (room kept : Bool) : Feed :=
  match src with
  | .target => { f with target := f.target + n, room := room, lost := f.lost || !kept }
  | .shown => { f with shown := f.shown + n, room := room, lost := f.lost || !kept }
  | .waveform => { f with waveform := f.waveform + n, room := room, lost := f.lost || !kept }

/-- Bytes of the next burst of a source (R11): up to 2,048 of them, within one extent. Waveform entries stand 16 bytes
apart, so an extent holds the bytes of as many of them as begin in it. -/
def State.burstLen (s : State) (u : Update) (src : FeedSource) : Nat :=
  match src with
  | .waveform =>
    min (s.feedRemaining src) ((Config.extentBytes - s.feedPos u src % Config.extentBytes + 15) / 16)
  | _ => accessLen Config.burstMax (s.feedPos u src) (s.feedRemaining src)

/-- A burst of the panel feed (R8, R11): granted when the source has bytes left. DESIGN CHOICE (log 8): the command says
that the feed waits, so a row buffer that had no room has made room by then. -/
def State.feedBurst (s : State) (src : FeedSource) (room : Bool) : State :=
  match s.panel.update with
  | some u =>
    if s.pool.grants && decide (0 < s.feedRemaining src) then
      { s with
        pool := { s.pool with feed := s.pool.feed.add src (s.burstLen u src) room (s.feedCarries u src) } }
    else s
  | none => s

/-! ### The end of a work (R13) -/

/-- Is a work of a kind finished? All its chunks are carried out or discarded. -/
def finishedWork (w : Option Work) (kind : WorkKind → Bool) : Option Work :=
  match w with
  | some x => if kind x.kind && !x.unfinished then some x else none
  | none => none

end Sys2Proof.Machine
end

