-- ==== Sys2Proof/Machine/HeadRequests.lean ====
section
/-!
DEFINITION. The headroom arbiter's requests (chapter 6): CLEAR_ALARM (R129), HEADROOM_STATUS (R132), TX_LEASE (R121),
TX_RELEASE (R123), TX_CANCEL (R125), and the end of a lease at its expiry (R123).
-/

namespace Sys2Proof.Machine

/-- CLEAR_ALARM (R129). -/
def State.serveClearAlarm (s : State) (p : Port) : State :=
  if !s.alarmed then s.say p .ok
  else if s.alarmGone then (s.alarmClear.say p .ok).settle
  else
    s.give p { status := .refusedState, body := .alarmStays s.head.v s.head.vcut s.head.loads s.head.ceiling }

/-- What HEADROOM_STATUS returns (R132). PRESUMED (log 25): a waiting AP request is given as the AP demand it asks for, in mW. -/
def State.headroomView (s : State) : HeadroomView :=
  { v := s.head.v
    i := s.head.i
    capped := s.head.capped
    ceiling := s.head.ceiling
    ap := s.head.ap
    panel := s.head.panel
    radio := s.head.radio
    light := s.head.light
    apWait := s.head.apWait.map (fun _ => s.head.ap.demand)
    panelWait := s.head.panelWait
    active := s.head.active.map (fun l => { mW := l.mW, origin := l.origin, left := l.expiry - s.now })
    parked := s.head.parked
    unreleased := s.head.unreleased
    alarm := s.head.alarm
    clearLeft := s.left s.head.clearTimer }

/-- HEADROOM_STATUS (R132). -/
def State.serveHeadroomStatus (s : State) (p : Port) : State := s.tell p (.headroom s.headroomView)

/-- The arguments of TX_LEASE in range (R121, step 1). -/
def leaseInRange (x : TxLeaseArgs) : Bool := inRange 1 3000 x.mW && inRange 10 2000 x.duration

/-- The idle share of the RADIO grant: radio_idle_mW as the radio's power-on took it (R113, R119). DEDUCED (log 35). -/
def Headroom.radioIdle (h : Headroom) : Nat := h.radio.grant - ((h.active.map Lease.mW).getD 0)

/-- TX_LEASE (R121). -/
def State.serveTxLease (s : State) (p : Port) (x : TxLeaseArgs) : State :=
  let limit := s.params.ceilingMaxMW - s.params.reserveMW
  if !leaseInRange x then s.say p .badArgument
  else if s.alarmed then s.say p .halted
  else if !s.withinLimit (s.head.radioIdle + x.mW) then
    (s.raise .noHeadroom (.noHeadroom .radio x.mW limit)).say p .noHeadroom
  else if s.leaseFits x.mW then (s.grantLease x.mW x.duration .atOnce).say p .ok
  else
    ({ s with head := { s.head with parked := some { mW := x.mW, duration := x.duration } } }.rebalance).say p .accepted

/-- TX_RELEASE (R123). -/
def State.serveTxRelease (s : State) (p : Port) : State :=
  match s.head.active, s.head.unreleased with
  | some l, _ => ((s.endLease l none).rebalance).say p .ok
  | none, some _ => { s with head := { s.head with unreleased := none } }.say p .late
  | none, none => s.say p .refusedState

/-- TX_CANCEL (R125). -/
def State.serveTxCancel (s : State) (p : Port) : State :=
  match s.head.parked, s.head.active with
  | some _, _ => { s with head := { s.head with parked := none } }.say p .ok
  | none, some l => if l.origin = .fromPark then s.say p .late else s.say p .refusedState
  | none, none => s.say p .refusedState

end Sys2Proof.Machine
end

