-- ==== Sys2Proof/Machine/Keys.lean ====
section
/-!
DEFINITION. The turn engine's inputs (chapter 3): key records with their timers (R46 to R48), the touch line (R50), and the
requests TURN, SET_KEY_ROUTE and TURN_STATUS.
-/

namespace Sys2Proof.Machine

/-- The record of a key. -/
def State.key (s : State) (k : Key) : KeyInput := s.turn.keys.getD k.val (KeyInput.start false 0)

/-- The record of a key set. -/
def State.setKey (s : State) (k : Key) (x : KeyInput) : State :=
  { s with turn := { s.turn with keys := s.turn.keys.set k.val x } }

/-- The raw level of a key pin: `true` is pressed. -/
def State.rawKey (s : State) (k : Key) : Bool := s.pins.keys.getD k.val false

/-- The route of a key (R49). -/
def State.routeOf (s : State) (k : Key) : Route := s.turn.routes.getD k.val .none

/-- A raw level that moves away from or back to the stable level (R46). -/
def KeyInput.rawMoves (x : KeyInput) (pressed : Bool) (now debounce : Nat) : KeyInput :=
  if pressed = x.pressed then { x with candidate := none, debounce := none }
  else { x with candidate := some now, debounce := some (now + debounce) }

/-- The accepted edge (R46). -/
def KeyInput.accepted (x : KeyInput) (raw : Bool) (now : Nat) : KeyInput :=
  { x with pressed := raw, edgeTime := x.candidate.getD now, candidate := none, debounce := none }

/-- The hold state becomes IDLE and the hold and repeat timers stop (R48). -/
def KeyInput.stopHold (x : KeyInput) : KeyInput := { x with hold := .idle, holdTimer := none, repeatTimer := none }

/-- An entry a key makes (R47, R48). -/
def keyEntry (o : Origin) (d : StepDir) : Entry := { origin := o, kind := .step d, mode := .auto, purpose := none }

/-- A press of a NEXT or PREV key outside DEEP (R47): the entry arrives and the hold timer starts. -/
def State.stepPress (s : State) (k : Key) (d : StepDir) : State :=
  let t := s.setKey k { s.key k with hold := .held, holdTimer := s.timerFor s.params.holdMs, dir := d }
  (t.arrive (keyEntry .key d)).1

/-- The action of an accepted press by its route (R47); in DEEP only POWER acts. -/
def State.pressAction (s : State) (k : Key) : State :=
  match s.routeOf k with
  | .power => s.powerPress
  | r =>
    if s.bs.power = .deep then s
    else match r with
      | .next => s.stepPress k .plus
      | .prev => s.stepPress k .minus
      | .light => s.lightKey
      | .noticeOnly => s.raise .key (.key k.val)
      | .power | .none => s

/-- An accepted edge: the press's action or the release, and the key activity it reports (R47, R48). -/
def State.acceptEdge (s : State) (k : Key) : State :=
  let t := s.setKey k ((s.key k).accepted (s.rawKey k) s.now)
  let u := if s.rawKey k then t.pressAction k else t.setKey k (t.key k).stopHold
  if s.bs.power = .deep then u else u.keyActivity

/-- A REPEAT entry arrives and the repeat timer starts for repeat_ms (R48). -/
def State.repeatStep (s : State) (k : Key) : State :=
  let x := s.key k
  let t := s.setKey k { x with hold := .repeating, holdTimer := none, repeatTimer := s.timerFor s.params.repeatMs }
  (t.arrive (keyEntry .repeated x.dir)).1

/-- The falling edges TOUCH has counted since it was last raised with its flag clear: the raise count itself (R50, R167). -/
def State.touchCount (s : State) : Nat :=
  let n := s.noticeAt Source.touch.idx
  if n.pending then min 255 (n.count + 1) else 1

/-- Is a TURN's kind in range? (R53) -/
def turnInRange (x : TurnArgs) : Bool :=
  match x.kind with
  | .step _ => true
  | .goto k => keyInRange k

/-- TURN (R51, R53). -/
def State.serveTurn (s : State) (p : Port) (x : TurnArgs) : State :=
  if turnInRange x then
    let r := s.arrive { origin := .portA, kind := x.kind, mode := x.mode, purpose := none }
    (r.1.say p (if r.2 then .ok else .full)).settle
  else s.say p .badArgument

/-- SET_KEY_ROUTE (R48, R49): a changed route stops a hold or repeat. -/
def State.serveSetKeyRoute (s : State) (p : Port) (x : SetKeyRouteArgs) : State :=
  if h : x.key < 4 then
    let k : Key := ⟨x.key, h⟩
    let t := if s.routeOf k = x.action then s else s.setKey k (s.key k).stopHold
    { t with turn := { t.turn with routes := t.turn.routes.set x.key x.action } }.say p .ok
  else s.say p .badArgument

/-- What TURN_STATUS returns (R68). DESIGN CHOICE (log 31): book 0 before any refill want is computed. -/
def State.turnView (s : State) : TurnView :=
  { engine := s.turn.engine
    queue := s.turn.queue
    miss := s.turn.miss.map (fun m =>
      { key := m.key, mode := m.mode, origin := m.origin, elapsed := s.now - m.start })
    keys := s.turn.keys.map (fun x => { pressed := x.pressed, hold := x.hold, edgeTime := x.edgeTime })
    routes := s.turn.routes
    want := s.turn.want.getD { book := 0, pages := [] } }

/-- TURN_STATUS (R68). -/
def State.serveTurnStatus (s : State) (p : Port) : State := s.tell p (.turns s.turnView)

end Sys2Proof.Machine
end

