-- ==== Sys2Proof/Machine/LightRequests.lean ====
section
/-!
DEFINITION. The light unit's requests (chapter 5): LIGHT_SET (R105), LOAD_CURVE (R100), LIGHT_STATE (R112), and the period
boundary (R97, R98).
-/

namespace Sys2Proof.Machine

/-- The arguments of LIGHT_SET in range (R105). -/
def lightInRange (x : LightSetArgs) : Bool := decide (x.level ≤ 255) && x.warmth.all (fun w => decide (w ≤ 64))

/-- A warmth given (R105): one that differs is taken and a duty computation made. -/
def State.setWarmth (s : State) (w : Option Nat) : State :=
  match w with
  | some w => if w = s.light.warmth then s else { s with light := { s.light with warmth := w } }.computeLight
  | none => s

/-- LIGHT_SET (R105). -/
def State.serveLightSet (s : State) (p : Port) (x : LightSetArgs) : State :=
  if lightInRange x then ((s.setWarmth x.warmth).retarget x.level).say p .ok else s.say p .badArgument

/-- The first point below the one before it, counting the head as point `i` (R100). -/
def orderFault (i : Nat) : List Nat → Option Nat
  | a :: b :: rest => if b < a then some (i + 1) else orderFault (i + 1) (b :: rest)
  | _ => none

/-- The first failure of a curve: RANGE, then ORIGIN, then ORDER (R100). -/
def curveFault (c : List Nat) : Option (Nat × CurveFault) :=
  match c.findIdx? (fun v => decide (1024 < v)) with
  | some i => some (i, .range)
  | none =>
    if c.headD 0 ≠ 0 then some (0, .origin)
    else (orderFault 0 c).map (fun i => (i, .order))

/-- LOAD_CURVE (R100). -/
def State.serveLoadCurve (s : State) (p : Port) (x : LoadCurveArgs) : State :=
  if x.points.length ≠ 17 then s.say p .badArgument
  else match curveFault x.points with
    | some (i, r) => s.give p { status := .badArgument, body := .curveFault i r }
    | none => ({ s with light := { s.light with curve := x.points } }.computeLight).say p .ok

/-- What LIGHT_STATE returns (R112). -/
def State.lightView (s : State) : LightView :=
  { target := s.light.target
    warmth := s.light.warmth
    remembered := s.light.remembered
    applied := s.light.applied
    state := s.light.state
    capped := s.light.capped
    alarmHold := s.light.alarmHold
    fading := s.light.fading
    requested := s.light.requested
    demand := s.light.demand
    grant := s.light.grant
    total := s.light.total
    duty := s.light.duty
    buffer := s.light.buffer
    rampLeft := s.left s.light.rampTimer
    curve := s.light.curve }

/-- LIGHT_STATE (R112). -/
def State.serveLightState (s : State) (p : Port) : State := s.tell p (.light s.lightView)

/-- A period boundary (R98): a pending set is loaded. -/
def LightUnit.boundary (l : LightUnit) : LightUnit :=
  match l.buffer with
  | some d => { l with duty := d, buffer := none }
  | none => l

end Sys2Proof.Machine
end

