-- ==== Sys2Proof/Machine/NoticeRequests.lean ====
section
/-!
DEFINITION. The notice unit's requests (chapter 9): TAKE_NOTICE on either port (R170, R173), PEEK_NOTICES and CLEAR_NOTICES
(R171), SET_NOTICE_LEVEL (R168).
-/

namespace Sys2Proof.Machine

/-- Does a source call for attention: pending at level 1 or above? -/
def Notice.calls (n : Notice) : Bool := n.pending && decide (1 ≤ n.level)

/-- Is a source to be taken before another of a lower number? Its level is higher, or its priority at the same level
(R170). -/
def Notice.before (a b : Notice) : Bool :=
  decide (b.level < a.level) || (decide (a.level = b.level) && decide (b.priority < a.priority))

/-- The place of the source a plain TAKE_NOTICE takes (R170). -/
def State.bestNotice (s : State) : Option Nat :=
  (List.range s.notices.ap.length).foldl
    (fun best k =>
      if (s.noticeAt k).calls then
        match best with
        | some j => if (s.noticeAt k).before (s.noticeAt j) then some k else some j
        | none => some k
      else best)
    none

/-- Sources that call for attention (R170). -/
def State.callCount (s : State) : Nat := s.notices.ap.countP Notice.calls

/-- The source at a place is taken and answered (R170). -/
def State.takeNoticeAt (s : State) (p : Port) (k : Nat) : State :=
  let n := s.noticeAt k
  let t := s.mapNotice k Notice.taken
  t.tell p (.notice (k + 1) n.detail n.count t.callCount)

/-- A source number in range: 1 to 20. -/
def sourceInRange (n : Nat) : Bool := inRange 1 20 n

/-- TAKE_NOTICE on Port A (R170). -/
def State.takeAp (s : State) (p : Port) (source : Option Nat) : State :=
  match source with
  | none =>
    match s.bestNotice with
    | some k => s.takeNoticeAt p k
    | none => s.tell p .noNotice
  | some n =>
    if !sourceInRange n then s.say p .badArgument
    else if (s.noticeAt (n - 1)).pending then s.takeNoticeAt p (n - 1)
    else s.tell p .noNotice

/-- The first pending RM source, with its detail (R173). -/
def firstRm : Nat → List (Option RmDetail) → Option (Nat × RmDetail)
  | _, [] => none
  | k, some d :: _ => some (k, d)
  | k, none :: rest => firstRm (k + 1) rest

/-- TAKE_NOTICE on Port R: the first pending source in order (R173), named by its order 1 to 5. PRESUMED (log 25). -/
def State.takeRm (s : State) (p : Port) : State :=
  match firstRm 0 s.notices.rm with
  | some (k, d) =>
    let rm := s.notices.rm.set k none
    { s with notices := { s.notices with rm := rm } }.tell p (.rmNotice (k + 1) d (rm.countP Option.isSome))
  | none => s.tell p .noNotice

/-- TAKE_NOTICE (R170, R173): each port takes from its own set. -/
def State.serveTakeNotice (s : State) (p : Port) (x : TakeNoticeArgs) : State :=
  match p with
  | .a => s.takeAp .a x.source
  | .r => s.takeRm .r

/-- PEEK_NOTICES (R171). -/
def State.servePeekNotices (s : State) (p : Port) : State :=
  s.tell p (.notices
    (s.notices.ap.map (fun n =>
      { pending := n.pending, count := n.count, level := n.level, priority := n.priority }))
    s.params.wakeThreshold s.notices.wakeOut)

/-- The sources CLEAR_NOTICES names; none for a list that is not of 1 to 20 distinct numbers from 1 to 20 (R171). -/
def clearNamed (x : ClearNoticesArgs) : Option (List Nat) :=
  match x.sources with
  | none => some ((List.range 20).map (fun k => k + 1))
  | some l => if inRange 1 20 l.length && l.all sourceInRange && decide l.Nodup then some l else none

/-- CLEAR_NOTICES (R171). -/
def State.serveClearNotices (s : State) (p : Port) (x : ClearNoticesArgs) : State :=
  match clearNamed x with
  | some l =>
    let cleared := l.countP (fun n => (s.noticeAt (n - 1)).pending)
    (l.foldl (fun t n => t.mapNotice (n - 1) Notice.taken) s).tell p (.cleared cleared)
  | none => s.say p .badArgument

/-- SET_NOTICE_LEVEL (R168), with the wake test where the AP domain is not ON (R172). -/
def State.serveSetNoticeLevel (s : State) (p : Port) (x : SetNoticeLevelArgs) : State :=
  if !sourceInRange x.source || decide (7 < x.level) || decide (7 < x.priority) then s.say p .badArgument
  else if x.source = 8 ∨ x.source = 9 then s.say p .refusedState
  else
    let t := s.mapNotice (x.source - 1) (fun n => { n with level := x.level, priority := x.priority })
    (t.presentWake s.wakeCond).say p .ok

end Sys2Proof.Machine
end

