-- ==== Sys2Proof/Machine/PanelRequests.lean ====
section
/-!
DEFINITION. The panel drive's requests (chapter 4): WAVEFORM_WRITE (R73), WAVEFORM_COMMIT (R74) and PANEL_STATUS (R95);
the temperature read (R76) and the end of a drive frame (R88).
-/

namespace Sys2Proof.Machine

/-- The memory work of a waveform request. -/
def waveWork (k : WorkKind) (pos stop : Nat) (data : List Byte) : Work :=
  { kind := k, owner := .waveform, extents := waveExtents, pos := pos, stop := stop, data := data, got := []
    lost := false }

/-- WAVEFORM_WRITE (R72, R73). -/
def State.serveWaveformWrite (s : State) (p : Port) (x : WaveformWriteArgs) : State :=
  if !payloadInRange x.payload || decide (Config.waveBytes < x.offset + x.payload.length) then s.say p .badArgument
  else if s.panel.update.isSome then s.say p .inUse
  else
    { s with panel := { s.panel with wave := .loading } }.setWork p
      (some (waveWork .waveformWrite x.offset (x.offset + x.payload.length) x.payload))

/-- WAVEFORM_COMMIT (R74): a VALID store answers at once, any other is read back. -/
def State.serveWaveformCommit (s : State) (p : Port) : State :=
  if s.panel.wave = .valid then s.say p .ok
  else s.setWork p (some (waveWork .waveformCommit 0 Config.waveBytes []))

/-- The end of a commit's check (R74). -/
def State.commitEnds (s : State) (p : Port) : State :=
  match s.pool.mem.checkWaves with
  | none => { s with panel := { s.panel with wave := .valid } }.say p .ok
  | some f =>
    { s with panel := { s.panel with wave := .absent, commitFail := some f } }.give p
      { status := .badArgument, body := .commitFail f }

/-- What PANEL_STATUS returns (R95). -/
def State.panelView (s : State) : PanelView :=
  { shown := s.panel.shown
    shownKey := s.panel.shownKey
    target := s.panel.target
    fidelity := s.panel.fidelity
    ghost := s.panel.ghost
    rail := s.panel.rail
    holdLeft := s.left s.panel.holdTimer
    wave := s.panel.wave
    commitFail := s.panel.commitFail
    lastGood := s.panel.lastGood
    lastRead := s.panel.lastRead
    band := s.panel.band
    update := s.panel.update.map (fun u =>
      { target := u.target, mode := u.mode, phase := u.phase, band := u.band, frames := u.plan.map Plan.frames
        firstRow := u.plan.map Plan.firstRow, lastRow := u.plan.map Plan.lastRow, changed := u.plan.map Plan.changed
        demand := u.plan.map Plan.demand, frame := u.frame }) }

/-- PANEL_STATUS (R95). -/
def State.servePanelStatus (s : State) (p : Port) : State := s.tell p (.panel s.panelView)

/-- The band of this planning: from the reading, else the last good one, else band 2 (R76). -/
def State.bandFor (s : State) (reading : Option Int) : Nat := ((reading.or s.panel.lastGood).map bandOf).getD 2

/-- The temperature read of a planning ends (R76): the band goes to the temperature record, and to the update record only
when planning ends (R78). -/
def State.tempRead (s : State) (u : Update) (reading : Option Int) : State :=
  let b := s.bandFor reading
  let t := { s with
    panel := { s.panel with
      lastGood := reading.or s.panel.lastGood, lastRead := some reading.isSome, band := some b
      update := some { u with tempRead := true } } }
  match reading with
  | some r => if r < 0 ∨ 50 < r then t.raise .tempRange (.tempRange r) else t
  | none => t

/-- A drive frame ends (R88, R89, R91): the stop under the alarm, the completion, or the next frame. -/
def State.frameEnds (s : State) (u : Update) (frames : Nat) : State :=
  if u.stopping then s.abortUpdate u
  else if frames ≤ u.frame + 1 then s.completeUpdate u
  else
    { s with
      panel := { s.panel with
        update := some { u with frame := u.frame + 1, frameTimer := s.timerFor Config.frameMs } }
      pool := { s.pool with feed := Feed.fresh } }

end Sys2Proof.Machine
end

