-- ==== Sys2Proof/Machine/Settings.lean ====
section
/-!
DEFINITION. Parameters and shared items as the ports handle them (section 10.4): SET_PARAM with the effects the owning
chapters give a new value (R63, R90, R96, R133, R151), GET_PARAM, SHARE, READ_SHARED and IDENTIFY.
-/

namespace Sys2Proof.Machine

/-- A value moved into a range (R179). -/
def clampTo (lo hi v : Nat) : Nat := min hi (max lo v)

/-- Is the parameter a named one, GREY or FAST, off or on? (R179) -/
def namedParam (n : Nat) : Bool := decide (n = 7) || decide (n = 8)

/-- The value a SET_PARAM takes for a number whose range is given: its range, and for the two staging limits the coupling
of R151. -/
def State.takenValue (s : State) (n v : Nat) (row : ParamRow) : Nat :=
  let c := clampTo row.low row.high v
  if n = 38 then min c s.params.stagingMax
  else if n = 39 then max c s.staging.ring.length
  else c

/-- The parameters after a value is taken; a staging_max below staging_floor brings it down (R151). -/
def Params.taking (p : Params) (n v : Nat) : Params :=
  if n = 39 then { p.set n v with stagingFloor := min p.stagingFloor v } else p.set n v

/-- What a new value does at once: the re-plan under ghost_limit (R63, R90), a duty computation (R96), the charge held at a
smaller capacity (R133), the wake test (R172), and the space watch (R165). -/
def State.paramEffect (s : State) (old : Params) (n v : Nat) (condBefore : Bool) : State :=
  match n with
  | 9 => s.ghostLimitSet
  | 18 => if old.deadGap = v then s else s.computeLight
  | 20 => if old.warmFullMW = v then s else s.computeLight
  | 21 => if old.coolFullMW = v then s else s.computeLight
  | 29 => if v < s.bs.q then { s with bs := { s.bs with q := v, r := 0 } } else s
  | 37 => s.presentWake condBefore
  | 38 | 39 => s.evalWatch
  | _ => s

/-- The answer to a SET_PARAM that is taken (R179). -/
def paramAnswer (n v taken : Nat) : Answer :=
  { status := if taken = v then .ok else .clamped, body := .param n taken }

/-- SET_PARAM (R179, R151). -/
def State.serveSetParam (s : State) (p : Port) (x : SetParamArgs) : State :=
  match paramRow x.number with
  | none => s.say p .badArgument
  | some row =>
    if namedParam x.number = true ∧ 1 < x.value then s.say p .badArgument
    else
      let v := s.takenValue x.number x.value row
      let t := { s with params := s.params.taking x.number v }
      (t.paramEffect s.params x.number v s.wakeCond).give p (paramAnswer x.number x.value v)

/-- GET_PARAM (R179). -/
def State.serveGetParam (s : State) (p : Port) (x : GetParamArgs) : State :=
  match paramRow x.number with
  | none => s.say p .badArgument
  | some row => s.tell p (.paramRow (s.params.get x.number) row.low row.high row.dflt)

/-- Is an item granted to Port R? (R180) -/
def ShareGrants.granted (g : ShareGrants) : ShareItem → Bool
  | .battery => g.battery
  | .time => g.time
  | .powerState => g.power
  | .light => g.light

/-- An item's grant set or cleared (R180). -/
def ShareGrants.setItem (g : ShareGrants) (i : ShareItem) (on : Bool) : ShareGrants :=
  match i with
  | .battery => { g with battery := on }
  | .time => { g with time := on }
  | .powerState => { g with power := on }
  | .light => { g with light := on }

/-- SHARE (R180). -/
def State.serveShare (s : State) (p : Port) (x : ShareArgs) : State :=
  { s with shares := s.shares.setItem x.item x.grant }.say p .ok

/-- The value of a shared item (R180). -/
def State.sharedValue (s : State) : ShareItem → Shared
  | .battery => .battery s.bs.percent s.bs.battery
  | .time => .time s.bs.time
  | .powerState => .power s.bs.power
  | .light => .light s.light.target

/-- READ_SHARED (R180). -/
def State.serveReadShared (s : State) (p : Port) (x : ReadSharedArgs) : State :=
  if s.shares.granted x.item then s.tell p (.shared (s.sharedValue x.item)) else s.say p .notPermitted

/-- IDENTIFY (R178). -/
def State.serveIdentify (s : State) (p : Port) : State := s.tell p (.identify 420 1 512 24)

end Sys2Proof.Machine
end

