-- ==== Sys2Proof/Machine/SleepRequests.lean ====
section
/-!
DEFINITION. The battery and sleep controller's requests (chapter 7): SLEEP (R140), RADIO_POWER and RADIO_SLEEP (R146),
SET_TIME and SET_ALARM with the firing of the wake alarm (R147), BATTERY_STATUS and SLEEP_STATUS (R150), and a change of a
charger line (R137, R149).
-/

namespace Sys2Proof.Machine

/-- SLEEP (R140): the answer, then AP_STOPPING with its timer; AWAKE found low counts as its fall. -/
def State.serveSleep (s : State) (p : Port) (x : SleepArgs) : State :=
  let t := s.say p .ok
  if s.bs.power = .run then
    let u := { t with
      bs := { t.bs with
        power := .apStopping, sleepTarget := some x.target
        apOffTimer := t.timerFor (t.params.apOffTimeoutS * 1000) } }
    if t.pins.awake then u else u.stopAp.settle
  else if s.bs.power = .apStopping then { t with bs := { t.bs with sleepTarget := some x.target } }
  else t

/-- RADIO_POWER (R146). -/
def State.serveRadioPower (s : State) (p : Port) (x : RadioPowerArgs) : State :=
  if x.on then
    let r := s.radioOn
    r.1.say p (if r.2 then .ok else .noHeadroom)
  else (s.say p .ok).radioOff.settle

/-- RADIO_SLEEP (R146): the domain goes off after the answer. -/
def State.serveRadioSleep (s : State) (p : Port) : State := (s.say p .ok).radioOff.settle

/-- Is a wake alarm set at or below a counter value? (R147) -/
def State.alarmPassed (s : State) (t : Nat) : Bool := s.bs.alarm.any (fun a => decide (a ≤ t))

/-- SET_TIME (R147): the counter is set, and an alarm at or below it is cleared without firing. -/
def State.serveSetTime (s : State) (p : Port) (x : SetTimeArgs) : State :=
  let gone := s.alarmPassed x.time
  { s with bs := { s.bs with time := x.time, alarm := if gone then none else s.bs.alarm } }.tell p (.timeSet gone)

/-- SET_ALARM (R147). -/
def State.serveSetAlarm (s : State) (p : Port) (x : SetAlarmArgs) : State :=
  match x.time with
  | none => { s with bs := { s.bs with alarm := none } }.say p .ok
  | some t =>
    if s.bs.time < t then { s with bs := { s.bs with alarm := some t } }.say p .ok else s.say p .badArgument

/-- The wake alarm fires at time `t` (R147). -/
def State.fireAlarm (s : State) (t : Nat) : State :=
  let c := { s with bs := { s.bs with alarm := none } }
  if s.bs.power = .deep then
    if s.bs.battery = .normal then
      let r := c.leaveDeep.radioOn
      ({ r.1 with bs := { r.1.bs with outcome := some .firedDeep } }).raise .wakeAlarm (.wakeAlarm t (some r.2))
    else { c with bs := { c.bs with outcome := some .skippedBattery } }
  else ({ c with bs := { c.bs with outcome := some .firedAwake } }).raise .wakeAlarm (.wakeAlarm t none)

/-- The time counter steps (R147). -/
def State.stepTime (s : State) : State :=
  let t := if s.bs.time = Config.wordMax then 0 else s.bs.time + 1
  let u := { s with bs := { s.bs with time := t } }
  if s.bs.alarm = some t then u.fireAlarm t else u

/-- What BATTERY_STATUS returns (R150). DESIGN CHOICE (log 32): the seconds of the grace timer are rounded up. -/
def State.batteryView (s : State) : BatteryView :=
  { lastV := s.bs.lastV
    lastI := s.bs.lastI
    q := s.bs.q
    r := s.bs.r
    percent := s.bs.percent
    battery := s.bs.battery
    charger := s.bs.charger
    capped := s.head.capped
    graceLeftS := (s.left s.bs.graceTimer).map (fun ms => (ms + 999) / 1000) }

/-- BATTERY_STATUS (R150). -/
def State.serveBatteryStatus (s : State) (p : Port) : State := s.tell p (.battery s.batteryView)

/-- What SLEEP_STATUS returns (R150). -/
def State.sleepView (s : State) : SleepView :=
  { power := s.bs.power
    sleepTarget := s.bs.sleepTarget
    ap := s.bs.ap
    radio := s.bs.radio
    heldWake := s.bs.heldWake
    apOffLeft := s.left s.bs.apOffTimer
    idleLeft := s.left s.bs.idleTimer
    deferLeft := s.left s.bs.deferTimer
    radioLeft := s.left s.bs.radioTimer
    depletionLeft := s.left s.bs.depletionTimer
    stage := s.bs.stage
    resumeKey := s.bs.resumeKey
    time := s.bs.time
    alarm := s.bs.alarm
    outcome := s.bs.outcome }

/-- SLEEP_STATUS (R150). -/
def State.serveSleepStatus (s : State) (p : Port) : State := s.tell p (.sleep s.sleepView)

/-- The charger pins with one line set. -/
def Pins.setLine (p : Pins) (line : ChgLine) (high : Bool) : Pins :=
  match line with
  | .present => { p with chgPresent := high }
  | .done => { p with chgDone := high }

/-- Is the charger line at a level already? -/
def Pins.lineAt (p : Pins) : ChgLine → Bool
  | .present => p.chgPresent
  | .done => p.chgDone

/-- A change of a charger line outside DEPLETED (R137): a rise of CHG_DONE with CHG_PRESENT high fills the count. -/
def State.chargerEdge (s : State) (line : ChgLine) (high : Bool) : State :=
  let pins := s.pins.setLine line high
  let full := decide (line = .done) && high && pins.chgPresent
  let state := chargerState pins.chgPresent pins.chgDone s.bs.lastI
  let bs := { s.bs with
    charger := state
    q := if full then s.params.capacityMAh else s.bs.q
    r := if full then 0 else s.bs.r
    percent := if full then 100 else s.bs.percent }
  { s with pins := pins, bs := bs }.raise .charger (.charger pins.chgPresent pins.chgDone state)

/-- A change of a charger line in DEPLETED (R149): CHG_PRESENT starts and stops the restart samples. -/
def State.chargerEdgeDepleted (s : State) (line : ChgLine) (high : Bool) : State :=
  let t := { s with pins := s.pins.setLine line high }
  match line with
  | .present => { t with bs := { t.bs with restartTimer := if high then some (t.now + 4000) else none } }
  | .done => t

end Sys2Proof.Machine
end

