-- ==== Sys2Proof/Machine/StagingRequests.lean ====
section
/-!
DEFINITION. The staging unit's requests (chapter 8): OPEN_STREAM (R153), PUT_BLOCK (R158), CLOSE_STREAM (R161),
ABORT_STREAM (R162), DRAIN (R163), STAGING_STATUS (R164), WAIT_SPACE (R165), and the ends of a block's writing and of a
drain's read.
-/

namespace Sys2Proof.Machine

/-- A stream id in range: 1 or 2. -/
def streamInRange (id : Nat) : Bool := inRange 1 2 id

/-- A new stream (R153). -/
def Stream.fresh (tag : Nat) (total : Option Nat) : Stream :=
  { state := .open, tag := tag, next := 0, exhausted := false, total := total, accepted := 0, reason := none }

/-- The free entry with the lower id (R153). -/
def Staging.freeEntry (g : Staging) : Option Nat :=
  if g.stream1.isNone then some 1 else if g.stream2.isNone then some 2 else none

/-- OPEN_STREAM (R153). -/
def State.serveOpenStream (s : State) (p : Port) (x : OpenStreamArgs) : State :=
  if x.total = some 0 then s.say p .badArgument
  else match s.staging.freeEntry with
    | some id => (s.withStaging (s.staging.setStream id (some (Stream.fresh x.tag x.total)))).tell p (.stream id)
    | none => s.say p .full

/-- Do the declared total's tests refuse a block? (R158) -/
def Stream.totalRefuses (x : Stream) (len : Nat) (last : Bool) : Bool :=
  x.total.any (fun t => decide (t < x.accepted + len) || (last && decide (x.accepted + len < t)))

/-- The tests of R158 on an OPEN stream, in order: the first that fails, or none. -/
def Stream.judgeBlock (x : Stream) (b : PutBlockArgs) : Option Status :=
  if x.exhausted = true ∨ b.sequence < x.next then some .duplicate
  else if x.next < b.sequence then some .outOfOrder
  else if b.first ≠ decide (b.sequence = 0) then some .badArgument
  else if x.totalRefuses b.payload.length b.last then some .badArgument
  else none

/-- The record of a block, to be placed (R155). -/
def blockOf (b : PutBlockArgs) : Block :=
  { stream := b.stream, sequence := b.sequence, first := b.first, last := b.last, length := b.payload.length
    pos := { extent := 0, offset := 0 } }

/-- An OPEN stream's block, judged (R156, R158): refused, or placed and in writing. -/
def State.putBlock (s : State) (p : Port) (st : Stream) (x : PutBlockArgs) : State :=
  match st.judgeBlock x with
  | some c => s.say p c
  | none =>
    match s.makeRoom x.payload.length with
    | some t => (t.placeBlock (blockOf x) x.payload).evalWatch
    | none => s.say p .full

/-- PUT_BLOCK (R158). -/
def State.servePutBlock (s : State) (p : Port) (x : PutBlockArgs) : State :=
  if !streamInRange x.stream || !payloadInRange x.payload then s.say p .badArgument
  else if s.alarmed then s.say p .halted
  else match s.staging.stream x.stream with
    | some st => if st.state = .open then s.putBlock p st x else s.say p .refusedState
    | none => s.say p .refusedState

/-- The end of a block's writing (R159). -/
def State.blockWritten (s : State) (p : Port) : State :=
  match s.staging.writing with
  | some b =>
    match s.staging.stream b.stream with
    | some x => if x.state = .aborted then s.giveUpBlock b |>.say p .refusedState else (s.joinBlock b x).say p .ok
    | none => (s.giveUpBlock b).say p .refusedState
  | none => s

/-- The close reason of a CLOSE_STREAM. -/
def closeReason : ClosedBy → CloseReason
  | .complete => .complete
  | .failed => .failed

/-- Is a COMPLETE close short of the declared total? (R161) -/
def Stream.short (x : Stream) (r : ClosedBy) : Bool :=
  decide (r = .complete) && x.total.any (fun t => decide (x.accepted < t))

/-- CLOSE_STREAM (R161). -/
def State.serveCloseStream (s : State) (p : Port) (x : CloseStreamArgs) : State :=
  if !streamInRange x.stream then s.say p .badArgument
  else match s.staging.stream x.stream with
    | some st =>
      if st.state ≠ .open then s.say p .refusedState
      else if st.short x.reason then s.say p .badArgument
      else ((s.closeStream x.stream st (closeReason x.reason)).say p .ok).settle
    | none => s.say p .refusedState

/-- The queued blocks of a stream. -/
def Staging.blocksOf (g : Staging) (id : Nat) : List Block := g.queue.filter (fun b => decide (b.stream = id))

/-- ABORT_STREAM (R162). -/
def State.serveAbortStream (s : State) (p : Port) (x : StreamArgs) : State :=
  if !streamInRange x.stream then s.say p .badArgument
  else match s.staging.stream x.stream with
    | some st =>
      if st.state = .aborted then s.say p .refusedState
      else
        let gone := s.staging.blocksOf x.stream
        ((s.abortStream x.stream st).tell p (.removed gone.length (gone.map Block.length).sum)).settle
    | none => s.say p .refusedState

/-- The memory work of a DRAIN (R163). -/
def State.drainWork (s : State) (b : Block) : Work :=
  { kind := .drain, owner := .staging, extents := s.staging.extentsOf b, pos := b.pos.offset
    stop := b.pos.offset + b.length, data := [], got := [], lost := false }

/-- DRAIN (R163). -/
def State.serveDrain (s : State) (p : Port) : State :=
  match s.staging.queue with
  | [] => s.say p .empty
  | b :: _ => s.setWork p (some (s.drainWork b))

/-- The end of a DRAIN's read (R163): the block leaves the queue. -/
def State.drainEnds (s : State) (p : Port) (payload : List Byte) : State :=
  match s.staging.queue with
  | [] => s
  | b :: rest =>
    let tag := ((s.staging.stream b.stream).map Stream.tag).getD 0
    ((s.withStaging { s.staging with queue := rest }).tidyStaging).tell p (.drained b tag rest.length payload)

/-- WAIT_SPACE (R165): armed, and judged at once. -/
def State.serveWaitSpace (s : State) (p : Port) (x : WaitSpaceArgs) : State :=
  if inRange 1 4194304 x.bytes then
    ((s.withStaging { s.staging with watch := some x.bytes }).evalWatch).say p .ok
  else s.say p .badArgument

/-- What STAGING_STATUS returns (R164). -/
def State.stagingView (s : State) : StagingView :=
  let g := s.staging
  { bytes := g.bytes
    blocks := g.queue.length
    oldest := g.queue.head?.map (fun b => (b.stream, b.sequence))
    ring := g.ring
    write := g.write
    read := g.read
    extents := g.ring.length
    stream1 := { id := 1, stream := g.stream1, writing := g.isWriting 1 }
    stream2 := { id := 2, stream := g.stream2, writing := g.isWriting 2 }
    idleLeft := s.left g.idleTimer
    watch := g.watch
    space := s.space }

/-- STAGING_STATUS (R164). -/
def State.serveStagingStatus (s : State) (p : Port) : State := s.tell p (.staging s.stagingView)

end Sys2Proof.Machine
end

