-- ==== Sys2Proof/Machine/Requests.lean ====
section
/-!
DEFINITION. A request at its port (R175 to R177, R181): the catalogue (section 10.3), the checks of R176, the handing to
the owning block, the held frame, and RESET_PORT.
-/

namespace Sys2Proof.Machine

/-- The kind of a request. -/
def kindOf : Req → Kind
  | .identify => .identify
  | .resetPort => .resetPort
  | .takeNotice _ => .takeNotice
  | .setParam _ => .setParam
  | .getParam _ => .getParam
  | .share _ => .share
  | .readShared _ => .readShared
  | .openSlot _ => .openSlot
  | .writeSlot _ => .writeSlot
  | .commitSlot _ => .commitSlot
  | .cancelSlot _ => .cancelSlot
  | .blankSlot _ => .blankSlot
  | .setClass _ => .setClass
  | .designate _ => .designate
  | .forget _ => .forget
  | .listSlots => .listSlots
  | .turn _ => .turn
  | .setKeyRoute _ => .setKeyRoute
  | .turnStatus => .turnStatus
  | .waveformWrite _ => .waveformWrite
  | .waveformCommit => .waveformCommit
  | .panelStatus => .panelStatus
  | .lightSet _ => .lightSet
  | .loadCurve _ => .loadCurve
  | .lightState => .lightState
  | .clearAlarm => .clearAlarm
  | .headroomStatus => .headroomStatus
  | .sleep _ => .sleep
  | .radioPower _ => .radioPower
  | .setTime _ => .setTime
  | .setAlarm _ => .setAlarm
  | .batteryStatus => .batteryStatus
  | .sleepStatus => .sleepStatus
  | .abortStream _ => .abortStream
  | .drain => .drain
  | .stagingStatus => .stagingStatus
  | .peekNotices => .peekNotices
  | .clearNotices _ => .clearNotices
  | .setNoticeLevel _ => .setNoticeLevel
  | .openStream _ => .openStream
  | .putBlock _ => .putBlock
  | .closeStream _ => .closeStream
  | .waitSpace _ => .waitSpace
  | .txLease _ => .txLease
  | .txRelease => .txRelease
  | .txCancel => .txCancel
  | .radioSleep => .radioSleep

/-- The kind bytes in the order of the catalogue: kind n stands at place n - 1 (section 10.3). -/
def catalogue : List Kind :=
  [.identify, .resetPort, .takeNotice, .setParam, .getParam, .share, .readShared, .openSlot,
   .writeSlot, .commitSlot, .cancelSlot, .blankSlot, .setClass, .designate, .forget, .listSlots,
   .turn, .setKeyRoute, .turnStatus, .waveformWrite, .waveformCommit, .panelStatus, .lightSet, .loadCurve,
   .lightState, .clearAlarm, .headroomStatus, .sleep, .radioPower, .setTime, .setAlarm, .batteryStatus,
   .sleepStatus, .abortStream, .drain, .stagingStatus, .peekNotices, .clearNotices, .setNoticeLevel, .openStream,
   .putBlock, .closeStream, .waitSpace, .txLease, .txRelease, .txCancel, .radioSleep]

/-- The request a kind byte names; 0 and 48 to 255 name none (section 10.3). -/
def kindOfByte (n : Nat) : Option Kind := if n = 0 then none else catalogue[n - 1]?

/-- The kind byte of a request (section 10.3). -/
def kindByte (k : Kind) : Nat := catalogue.idxOf k + 1

/-- Does the catalogue permit the request on a port? (section 10.3) -/
def permitted : Kind → Port → Bool
  | .identify, _ | .resetPort, _ | .takeNotice, _ => true
  | .readShared, p | .openStream, p | .putBlock, p | .closeStream, p | .waitSpace, p
  | .txLease, p | .txRelease, p | .txCancel, p | .radioSleep, p =>
    decide (p = .r)
  | .setParam, p | .getParam, p | .share, p | .openSlot, p | .writeSlot, p
  | .commitSlot, p | .cancelSlot, p | .blankSlot, p | .setClass, p | .designate, p
  | .forget, p | .listSlots, p | .turn, p | .setKeyRoute, p | .turnStatus, p
  | .waveformWrite, p | .waveformCommit, p | .panelStatus, p | .lightSet, p | .loadCurve, p
  | .lightState, p | .clearAlarm, p | .headroomStatus, p | .sleep, p | .radioPower, p
  | .setTime, p | .setAlarm, p | .batteryStatus, p | .sleepStatus, p | .abortStream, p
  | .drain, p | .stagingStatus, p | .peekNotices, p | .clearNotices, p | .setNoticeLevel, p => decide (p = .a)

/-- RESET_PORT in the blocks (R181): Port A breaks every reservation, Port R resets the radio side with the rebalance of an
ended lease (R123, R126). -/
def State.serveReset (s : State) (p : Port) : State :=
  match p with
  | .a => s.breakReservations
  | .r => if s.head.active.isSome then s.resetRadioSide.rebalance else s.resetRadioSide

/-- The owning block takes a request (R176): it answers at once, or its memory work begins. -/
def State.serve (s : State) (p : Port) : Req → State
  | .identify => s.serveIdentify p
  | .resetPort => ((s.serveReset p).say p .ok).settle
  | .takeNotice x => s.serveTakeNotice p x
  | .setParam x => s.serveSetParam p x
  | .getParam x => s.serveGetParam p x
  | .share x => s.serveShare p x
  | .readShared x => s.serveReadShared p x
  | .openSlot x => s.serveOpenSlot p x
  | .writeSlot x => s.serveWriteSlot p x
  | .commitSlot x => s.serveCommitSlot p x
  | .cancelSlot x => s.serveCancelSlot p x
  | .blankSlot x => s.serveBlankSlot p x
  | .setClass x => s.serveSetClass p x
  | .designate x => s.serveDesignate p x
  | .forget x => s.serveForget p x
  | .listSlots => s.serveListSlots p
  | .turn x => s.serveTurn p x
  | .setKeyRoute x => s.serveSetKeyRoute p x
  | .turnStatus => s.serveTurnStatus p
  | .waveformWrite x => s.serveWaveformWrite p x
  | .waveformCommit => s.serveWaveformCommit p
  | .panelStatus => s.servePanelStatus p
  | .lightSet x => s.serveLightSet p x
  | .loadCurve x => s.serveLoadCurve p x
  | .lightState => s.serveLightState p
  | .clearAlarm => s.serveClearAlarm p
  | .headroomStatus => s.serveHeadroomStatus p
  | .sleep x => s.serveSleep p x
  | .radioPower x => s.serveRadioPower p x
  | .setTime x => s.serveSetTime p x
  | .setAlarm x => s.serveSetAlarm p x
  | .batteryStatus => s.serveBatteryStatus p
  | .sleepStatus => s.serveSleepStatus p
  | .abortStream x => s.serveAbortStream p x
  | .drain => s.serveDrain p
  | .stagingStatus => s.serveStagingStatus p
  | .peekNotices => s.servePeekNotices p
  | .clearNotices x => s.serveClearNotices p x
  | .setNoticeLevel x => s.serveSetNoticeLevel p x
  | .openStream x => s.serveOpenStream p x
  | .putBlock x => s.servePutBlock p x
  | .closeStream x => s.serveCloseStream p x
  | .waitSpace x => s.serveWaitSpace p x
  | .txLease x => s.serveTxLease p x
  | .txRelease => s.serveTxRelease p
  | .txCancel => s.serveTxCancel p
  | .radioSleep => s.serveRadioSleep p

/-- The checks of R176 on a complete frame, and the request taken. -/
def State.checkMessage (s : State) (p : Port) : Message → State
  | .unknown _ => s.say p .unknownRequest
  | .malformed k => s.say p (if permitted k p then .badArgument else .notPermitted)
  | .request q => if permitted (kindOf q) p then s.serve p q else s.say p .notPermitted

/-- A frame is taken (R176), its window still open or not. -/
def State.takeMessage (s : State) (p : Port) (m : Message) (live : Bool) : State :=
  (s.setPort p ((s.port p).taking live)).checkMessage p m

/-- When a port's request has ended, the frame it holds is taken (R176). -/
def State.takeHeld (s : State) (p : Port) : State :=
  match (s.port p).busy, (s.port p).held with
  | none, some h => (s.setPort p { s.port p with held := none }).takeMessage p h.message h.live
  | _, _ => s

/-- A complete frame while a request is in progress: held, or discarded when one is held already (R176). DESIGN CHOICE
(log 12): a port that holds a frame is BUSY, as for a frame taken, and one that has discarded it is IGNORING. -/
def PortUnit.hold (u : PortUnit) (m : Message) : PortUnit :=
  match u.held with
  | none => { u with state := .busy, buffer := [], held := some { message := m, live := true } }
  | some _ => { u with state := .ignoring, buffer := [] }

/-- RESET_PORT is taken and answered (R181). DESIGN CHOICE (log 43): where it closes the last OPEN stream of a deferral, the RM
notices are cleared before the DEEP entry that follows raises POWER_OFF_SOON, which stays pending. -/
def State.takeReset (s : State) (p : Port) : State :=
  let t := (s.setPort p (s.port p).resetTaken).serveReset p
  (t.setPort p (t.port p).resetAnswered).settle

/-- A complete frame in an open window (R176, R181). -/
def State.completeFrame (s : State) (p : Port) (m : Message) : State :=
  if m = .request .resetPort then s.takeReset p
  else if (s.port p).busy.isSome then s.setPort p ((s.port p).hold m)
  else s.takeMessage p m true

/-- A frame's window: a fresh one ends the one before it (R175, R177). -/
def State.openWindow (s : State) (f : Frame) : State :=
  if f.sameWindow then s else s.setPort f.port (s.port f.port).released

/-- A request frame arrives (R175, R176): nothing is received on a port whose master is not powered, nor after the frame of
the window that is open. -/
def State.frame (s : State) (f : Frame) (m : Message) : State :=
  if !s.portPowered f.port then s
  else if f.sameWindow && (s.port f.port).deaf then s
  else (s.openWindow f).completeFrame f.port m

/-- The message a frame of a kind carries. -/
def messageOf {α : Type} (k : Kind) (q : α → Req) : Body α → Message
  | .malformed => .malformed k
  | .fields x => .request (q x)

end Sys2Proof.Machine
end

