-- ==== Sys2Proof/Decode.lean ====
section
/-!
DEFINITION. Request frames as bytes (R175, R176, R182): reading a frame into the command it is, writing a request as a
frame, and `decodeTableWord`. The opcode table gives no row any bits, so that no word spells a command.
-/

namespace Sys2Proof

open Sys2Proof.Machine

/-! ### Reading fields -/

/-- A number of `w` bytes, least significant first, and the rest (R182). -/
def readNum {β : Type} (w : Nat) (k : Nat → List Byte → Option β) (bs : List Byte) : Option β :=
  if w ≤ bs.length then k (leValue (bs.take w)) (bs.drop w) else none

/-- A named value: a code beyond its list does not match the layout (R176). -/
def readNamed {α β : Type} (l : List α) (k : α → List Byte → Option β) (bs : List Byte) : Option β :=
  match bs with
  | [] => none
  | b :: rest =>
    match l[b.toNat]? with
    | some x => k x rest
    | none => none

/-- A flag or presence byte: 0 or 1 (R176, R182). -/
def readFlag {β : Type} (k : Bool → List Byte → Option β) : List Byte → Option β := readNamed [false, true] k

/-- An optional number of `w` bytes (R182). -/
def readOptNum {β : Type} (w : Nat) (k : Option Nat → List Byte → Option β) : List Byte → Option β :=
  readFlag fun present rest => if present then readNum w (fun n => k (some n)) rest else k none rest

/-- A byte payload: its length in two bytes, then the bytes (R182). -/
def readPayload {β : Type} (k : List Byte → List Byte → Option β) : List Byte → Option β :=
  readNum 2 fun n rest => if n ≤ rest.length then k (rest.take n) (rest.drop n) else none

/-- `n` numbers of `w` bytes. -/
def readNums {β : Type} (w : Nat) : Nat → (List Nat → List Byte → Option β) → List Byte → Option β
  | 0, k => k []
  | n + 1, k => readNum w fun v => readNums w n fun vs => k (v :: vs)

/-- A list of numbers: its count in one byte, then the numbers (R182). -/
def readList {β : Type} (w : Nat) (k : List Nat → List Byte → Option β) : List Byte → Option β :=
  readNum 1 fun n => readNums w n k

/-- A page key (R182). -/
def readKey {β : Type} (k : PageKey → List Byte → Option β) : List Byte → Option β :=
  readNum 2 fun b => readNum 3 fun p => k { book := b, page := p }

/-- The end of a body: nothing may be left (R176). -/
def readEnd {β : Type} (x : β) (bs : List Byte) : Option β := if bs.isEmpty then some x else none

/-! ### Request bodies (R182) -/

/-- A body that holds a slot number. -/
def readSlot (q : SlotArgs → Req) : List Byte → Option Req := readNum 1 fun n => readEnd (q { slot := n })

/-- The class of a turn's kind byte: STEP(+1), STEP(-1), GOTO (section 3.3). -/
inductive TurnCode where
  | plus | minus | goto
  deriving DecidableEq, Repr

/-- The codes of a turn's kind, in order. -/
def turnCodes : List TurnCode := [.plus, .minus, .goto]

/-- A turn's kind. -/
def readTurnKind {β : Type} (k : TurnKind → List Byte → Option β) : List Byte → Option β :=
  readNamed turnCodes fun c =>
    match c with
    | .plus => k (.step .plus)
    | .minus => k (.step .minus)
    | .goto => readKey fun key => k (.goto key)

/-- An optional page range (R38), with one presence byte before both pages. PRESUMED (log 25). -/
def readRange {β : Type} (k : Option (Nat × Nat) → List Byte → Option β) : List Byte → Option β :=
  readFlag fun present rest =>
    if present then readNum 3 (fun a => readNum 3 fun b => k (some (a, b))) rest else k none rest

/-- An optional edge (R26). -/
def readEdge {β : Type} (k : Option Edge → List Byte → Option β) : List Byte → Option β :=
  readFlag fun present rest => if present then readNamed edgeCodes (fun e => k (some e)) rest else k none rest

/-- The sources of CLEAR_NOTICES: 0 and a list, or 1 for ALL (R171). -/
def readSources {β : Type} (k : Option (List Nat) → List Byte → Option β) : List Byte → Option β :=
  readFlag fun all rest => if all then k none rest else readList 1 (fun l => k (some l)) rest

/-- The request a body of a kind spells, none if it does not match the layout (R176, R182). -/
def decodeBody : Kind → List Byte → Option Req
  | .identify => readEnd .identify
  | .resetPort => readEnd .resetPort
  | .takeNotice => readOptNum 1 fun n => readEnd (.takeNotice { source := n })
  | .setParam => readNum 1 fun n => readNum 4 fun v => readEnd (.setParam { number := n, value := v })
  | .getParam => readNum 1 fun n => readEnd (.getParam { number := n })
  | .share => readNamed shareItemCodes fun i => readNamed [true, false] fun g => readEnd (.share { item := i, grant := g })
  | .readShared => readNamed shareItemCodes fun i => readEnd (.readShared { item := i })
  | .openSlot => readKey fun key => readNamed clsCodes fun c => readNum 3 fun len => readFlag fun full => readEdge fun e =>
      readEnd (.openSlot { key := key, cls := c, length := len, fullRefresh := full, edge := e })
  | .writeSlot => readNum 1 fun n => readNum 3 fun off => readPayload fun p =>
      readEnd (.writeSlot { slot := n, offset := off, payload := p })
  | .commitSlot => readSlot .commitSlot
  | .cancelSlot => readSlot .cancelSlot
  | .blankSlot => readKey fun key => readNamed clsCodes fun c => readNum 1 fun l =>
      readEnd (.blankSlot { key := key, cls := c, level := l })
  | .setClass => readNum 1 fun n => readNamed clsCodes fun c => readEnd (.setClass { slot := n, cls := c })
  | .designate => readNamed designationCodes fun d => readOptNum 1 fun n => readEnd (.designate { which := d, slot := n })
  | .forget => readNum 2 fun b => readRange fun r => readEnd (.forget { book := b, range := r })
  | .listSlots => readEnd .listSlots
  | .turn => readTurnKind fun k => readNamed turnModeCodes fun m => readEnd (.turn { kind := k, mode := m })
  | .setKeyRoute => readNum 1 fun k => readNamed routeCodes fun a => readEnd (.setKeyRoute { key := k, action := a })
  | .turnStatus => readEnd .turnStatus
  | .waveformWrite => readNum 3 fun off => readPayload fun p => readEnd (.waveformWrite { offset := off, payload := p })
  | .waveformCommit => readEnd .waveformCommit
  | .panelStatus => readEnd .panelStatus
  | .lightSet => readNum 1 fun l => readOptNum 1 fun w => readEnd (.lightSet { level := l, warmth := w })
  | .loadCurve => readList 2 fun l => readEnd (.loadCurve { points := l })
  | .lightState => readEnd .lightState
  | .clearAlarm => readEnd .clearAlarm
  | .headroomStatus => readEnd .headroomStatus
  | .sleep => readNamed sleepTargetCodes fun t => readEnd (.sleep { target := t })
  | .radioPower => readNamed [true, false] fun on => readEnd (.radioPower { on := on })
  | .setTime => readNum 4 fun t => readEnd (.setTime { time := t })
  | .setAlarm => readOptNum 4 fun t => readEnd (.setAlarm { time := t })
  | .batteryStatus => readEnd .batteryStatus
  | .sleepStatus => readEnd .sleepStatus
  | .abortStream => readNum 1 fun id => readEnd (.abortStream { stream := id })
  | .drain => readEnd .drain
  | .stagingStatus => readEnd .stagingStatus
  | .peekNotices => readEnd .peekNotices
  | .clearNotices => readSources fun l => readEnd (.clearNotices { sources := l })
  | .setNoticeLevel => readNum 1 fun n => readNum 1 fun l => readNum 1 fun p =>
      readEnd (.setNoticeLevel { source := n, level := l, priority := p })
  | .openStream => readNum 4 fun tag => readOptNum 4 fun t => readEnd (.openStream { tag := tag, total := t })
  | .putBlock => readNum 1 fun id => readNum 4 fun q => readFlag fun first => readFlag fun last => readPayload fun p =>
      readEnd (.putBlock { stream := id, sequence := q, first := first, last := last, payload := p })
  | .closeStream => readNum 1 fun id => readNamed closedByCodes fun r => readEnd (.closeStream { stream := id, reason := r })
  | .waitSpace => readNum 3 fun n => readEnd (.waitSpace { bytes := n })
  | .txLease => readNum 2 fun m => readNum 2 fun d => readEnd (.txLease { mW := m, duration := d })
  | .txRelease => readEnd .txRelease
  | .txCancel => readEnd .txCancel
  | .radioSleep => readEnd .radioSleep

/-- The message of a kind byte and a body (R176). -/
def decodeMessage (code : Nat) (body : List Byte) : Message :=
  match kindOfByte code with
  | none => .unknown code
  | some k =>
    match decodeBody k body with
    | some q => .request q
    | none => .malformed k

/-- The frame of a window's bytes: none when the window brings none (R175). Bytes after the frame are ignored. -/
def decodeFrame : List Byte → Option Message
  | sync :: kind :: l0 :: l1 :: body =>
    let len := leValue [l0, l1]
    if sync = Config.syncByte ∧ len ≤ Config.bodyMax ∧ len ≤ body.length then
      some (decodeMessage kind.toNat (body.take len))
    else none
  | _ => none

/-! ### Messages as commands -/

/-- The command a request is; SLEEP also carries the level AWAKE shows. -/
def requestInstr (f : Frame) (awake : Bool) : Req → Instr
  | .identify => .identify f (.fields ())
  | .resetPort => .resetPort f (.fields ())
  | .takeNotice x => .takeNotice f (.fields x)
  | .setParam x => .setParam f (.fields x)
  | .getParam x => .getParam f (.fields x)
  | .share x => .share f (.fields x)
  | .readShared x => .readShared f (.fields x)
  | .openSlot x => .openSlot f (.fields x)
  | .writeSlot x => .writeSlot f (.fields x)
  | .commitSlot x => .commitSlot f (.fields x)
  | .cancelSlot x => .cancelSlot f (.fields x)
  | .blankSlot x => .blankSlot f (.fields x)
  | .setClass x => .setClass f (.fields x)
  | .designate x => .designate f (.fields x)
  | .forget x => .forget f (.fields x)
  | .listSlots => .listSlots f (.fields ())
  | .turn x => .turn f (.fields x)
  | .setKeyRoute x => .setKeyRoute f (.fields x)
  | .turnStatus => .turnStatus f (.fields ())
  | .waveformWrite x => .waveformWrite f (.fields x)
  | .waveformCommit => .waveformCommit f (.fields ())
  | .panelStatus => .panelStatus f (.fields ())
  | .lightSet x => .lightSet f (.fields x)
  | .loadCurve x => .loadCurve f (.fields x)
  | .lightState => .lightState f (.fields ())
  | .clearAlarm => .clearAlarm f (.fields ())
  | .headroomStatus => .headroomStatus f (.fields ())
  | .sleep x => .sleep f (.fields x) awake
  | .radioPower x => .radioPower f (.fields x)
  | .setTime x => .setTime f (.fields x)
  | .setAlarm x => .setAlarm f (.fields x)
  | .batteryStatus => .batteryStatus f (.fields ())
  | .sleepStatus => .sleepStatus f (.fields ())
  | .abortStream x => .abortStream f (.fields x)
  | .drain => .drain f (.fields ())
  | .stagingStatus => .stagingStatus f (.fields ())
  | .peekNotices => .peekNotices f (.fields ())
  | .clearNotices x => .clearNotices f (.fields x)
  | .setNoticeLevel x => .setNoticeLevel f (.fields x)
  | .openStream x => .openStream f (.fields x)
  | .putBlock x => .putBlock f (.fields x)
  | .closeStream x => .closeStream f (.fields x)
  | .waitSpace x => .waitSpace f (.fields x)
  | .txLease x => .txLease f (.fields x)
  | .txRelease => .txRelease f (.fields ())
  | .txCancel => .txCancel f (.fields ())
  | .radioSleep => .radioSleep f (.fields ())

/-- The command a malformed body of a kind is. -/
def malformedInstr (f : Frame) (awake : Bool) : Kind → Instr
  | .identify => .identify f .malformed
  | .resetPort => .resetPort f .malformed
  | .takeNotice => .takeNotice f .malformed
  | .setParam => .setParam f .malformed
  | .getParam => .getParam f .malformed
  | .share => .share f .malformed
  | .readShared => .readShared f .malformed
  | .openSlot => .openSlot f .malformed
  | .writeSlot => .writeSlot f .malformed
  | .commitSlot => .commitSlot f .malformed
  | .cancelSlot => .cancelSlot f .malformed
  | .blankSlot => .blankSlot f .malformed
  | .setClass => .setClass f .malformed
  | .designate => .designate f .malformed
  | .forget => .forget f .malformed
  | .listSlots => .listSlots f .malformed
  | .turn => .turn f .malformed
  | .setKeyRoute => .setKeyRoute f .malformed
  | .turnStatus => .turnStatus f .malformed
  | .waveformWrite => .waveformWrite f .malformed
  | .waveformCommit => .waveformCommit f .malformed
  | .panelStatus => .panelStatus f .malformed
  | .lightSet => .lightSet f .malformed
  | .loadCurve => .loadCurve f .malformed
  | .lightState => .lightState f .malformed
  | .clearAlarm => .clearAlarm f .malformed
  | .headroomStatus => .headroomStatus f .malformed
  | .sleep => .sleep f .malformed awake
  | .radioPower => .radioPower f .malformed
  | .setTime => .setTime f .malformed
  | .setAlarm => .setAlarm f .malformed
  | .batteryStatus => .batteryStatus f .malformed
  | .sleepStatus => .sleepStatus f .malformed
  | .abortStream => .abortStream f .malformed
  | .drain => .drain f .malformed
  | .stagingStatus => .stagingStatus f .malformed
  | .peekNotices => .peekNotices f .malformed
  | .clearNotices => .clearNotices f .malformed
  | .setNoticeLevel => .setNoticeLevel f .malformed
  | .openStream => .openStream f .malformed
  | .putBlock => .putBlock f .malformed
  | .closeStream => .closeStream f .malformed
  | .waitSpace => .waitSpace f .malformed
  | .txLease => .txLease f .malformed
  | .txRelease => .txRelease f .malformed
  | .txCancel => .txCancel f .malformed
  | .radioSleep => .radioSleep f .malformed

/-- The command a message is. -/
def messageInstr (f : Frame) (awake : Bool) : Message → Instr
  | .request q => requestInstr f awake q
  | .malformed k => malformedInstr f awake k
  | .unknown code => .unknownRequest f code

/-- The command that the bytes of a fresh window on a port are: a frame, or a window that brings none (R175). -/
def decodeWindow (p : Port) (awake : Bool) (bytes : List Byte) : Instr :=
  match decodeFrame bytes with
  | some m => messageInstr { port := p, sameWindow := false } awake m
  | none => .windowIgnored p bytes

/-! ### Writing requests (R182) -/

/-- An optional page range (R38), with one presence byte before both pages. PRESUMED (log 25). -/
def rangeField : Option (Nat × Nat) → List Byte := optField (fun r => leBytes 3 r.1 ++ leBytes 3 r.2)

/-- The sources of CLEAR_NOTICES (R171). -/
def sourcesField : Option (List Nat) → List Byte
  | none => [byteOf 1]
  | some l => byteOf 0 :: listField (leBytes 1) l

/-- The body of a request (R182). -/
def encodeBody : Req → List Byte
  | .takeNotice x => optField (leBytes 1) x.source
  | .setParam x => leBytes 1 x.number ++ leBytes 4 x.value
  | .getParam x => leBytes 1 x.number
  | .share x => named shareItemCodes x.item ++ named [true, false] x.grant
  | .readShared x => named shareItemCodes x.item
  | .openSlot x =>
    keyField x.key ++ named clsCodes x.cls ++ leBytes 3 x.length ++ [flagByte x.fullRefresh]
      ++ optField (named edgeCodes) x.edge
  | .writeSlot x => leBytes 1 x.slot ++ leBytes 3 x.offset ++ payloadField x.payload
  | .commitSlot x => leBytes 1 x.slot
  | .cancelSlot x => leBytes 1 x.slot
  | .blankSlot x => keyField x.key ++ named clsCodes x.cls ++ leBytes 1 x.level
  | .setClass x => leBytes 1 x.slot ++ named clsCodes x.cls
  | .designate x => named designationCodes x.which ++ optField (leBytes 1) x.slot
  | .forget x => leBytes 2 x.book ++ rangeField x.range
  | .turn x => turnKindField x.kind ++ named turnModeCodes x.mode
  | .setKeyRoute x => leBytes 1 x.key ++ named routeCodes x.action
  | .waveformWrite x => leBytes 3 x.offset ++ payloadField x.payload
  | .lightSet x => leBytes 1 x.level ++ optField (leBytes 1) x.warmth
  | .loadCurve x => listField (leBytes 2) x.points
  | .sleep x => named sleepTargetCodes x.target
  | .radioPower x => named [true, false] x.on
  | .setTime x => leBytes 4 x.time
  | .setAlarm x => optField (leBytes 4) x.time
  | .abortStream x => leBytes 1 x.stream
  | .clearNotices x => sourcesField x.sources
  | .setNoticeLevel x => leBytes 1 x.source ++ leBytes 1 x.level ++ leBytes 1 x.priority
  | .openStream x => leBytes 4 x.tag ++ optField (leBytes 4) x.total
  | .putBlock x =>
    leBytes 1 x.stream ++ leBytes 4 x.sequence ++ [flagByte x.first, flagByte x.last] ++ payloadField x.payload
  | .closeStream x => leBytes 1 x.stream ++ named closedByCodes x.reason
  | .waitSpace x => leBytes 3 x.bytes
  | .txLease x => leBytes 2 x.mW ++ leBytes 2 x.duration
  | .identify | .resetPort | .listSlots | .turnStatus | .waveformCommit | .panelStatus | .lightState | .clearAlarm
  | .headroomStatus | .batteryStatus | .sleepStatus | .drain | .stagingStatus | .peekNotices | .txRelease | .txCancel
  | .radioSleep => []

/-- The frame of a request (R182). -/
def encodeFrame (q : Req) : List Byte :=
  Config.syncByte :: byteOf (kindByte (kindOf q)) :: leBytes 2 (encodeBody q).length ++ encodeBody q

/-- The request of a body, none for a malformed one. -/
def bodyRequest {α : Type} (q : α → Req) : Body α → Option Req
  | .malformed => none
  | .fields x => some (q x)

/-- The request a command carries, none for an event and for a malformed body. -/
def requestOf : Instr → Option Req
  | .identify _ b => bodyRequest (fun _ => .identify) b
  | .resetPort _ b => bodyRequest (fun _ => .resetPort) b
  | .takeNotice _ b => bodyRequest .takeNotice b
  | .setParam _ b => bodyRequest .setParam b
  | .getParam _ b => bodyRequest .getParam b
  | .share _ b => bodyRequest .share b
  | .readShared _ b => bodyRequest .readShared b
  | .openSlot _ b => bodyRequest .openSlot b
  | .writeSlot _ b => bodyRequest .writeSlot b
  | .commitSlot _ b => bodyRequest .commitSlot b
  | .cancelSlot _ b => bodyRequest .cancelSlot b
  | .blankSlot _ b => bodyRequest .blankSlot b
  | .setClass _ b => bodyRequest .setClass b
  | .designate _ b => bodyRequest .designate b
  | .forget _ b => bodyRequest .forget b
  | .listSlots _ b => bodyRequest (fun _ => .listSlots) b
  | .turn _ b => bodyRequest .turn b
  | .setKeyRoute _ b => bodyRequest .setKeyRoute b
  | .turnStatus _ b => bodyRequest (fun _ => .turnStatus) b
  | .waveformWrite _ b => bodyRequest .waveformWrite b
  | .waveformCommit _ b => bodyRequest (fun _ => .waveformCommit) b
  | .panelStatus _ b => bodyRequest (fun _ => .panelStatus) b
  | .lightSet _ b => bodyRequest .lightSet b
  | .loadCurve _ b => bodyRequest .loadCurve b
  | .lightState _ b => bodyRequest (fun _ => .lightState) b
  | .clearAlarm _ b => bodyRequest (fun _ => .clearAlarm) b
  | .headroomStatus _ b => bodyRequest (fun _ => .headroomStatus) b
  | .txLease _ b => bodyRequest .txLease b
  | .txRelease _ b => bodyRequest (fun _ => .txRelease) b
  | .txCancel _ b => bodyRequest (fun _ => .txCancel) b
  | .sleep _ b _ => bodyRequest .sleep b
  | .radioPower _ b => bodyRequest .radioPower b
  | .radioSleep _ b => bodyRequest (fun _ => .radioSleep) b
  | .setTime _ b => bodyRequest .setTime b
  | .setAlarm _ b => bodyRequest .setAlarm b
  | .batteryStatus _ b => bodyRequest (fun _ => .batteryStatus) b
  | .sleepStatus _ b => bodyRequest (fun _ => .sleepStatus) b
  | .openStream _ b => bodyRequest .openStream b
  | .putBlock _ b => bodyRequest .putBlock b
  | .closeStream _ b => bodyRequest .closeStream b
  | .waitSpace _ b => bodyRequest .waitSpace b
  | .abortStream _ b => bodyRequest .abortStream b
  | .drain _ b => bodyRequest (fun _ => .drain) b
  | .stagingStatus _ b => bodyRequest (fun _ => .stagingStatus) b
  | .peekNotices _ b => bodyRequest (fun _ => .peekNotices) b
  | .clearNotices _ b => bodyRequest .clearNotices b
  | .setNoticeLevel _ b => bodyRequest .setNoticeLevel b
  | .powerOn _ _ | .depletedRestartSample _ _ | .chipSelectRelease _ | .windowIgnored _ _ | .frameDiscarded _
  | .unknownRequest _ _ | .writeSlotEnd | .verifyScanEnd | .blankSlotWriteEnd | .keyRawEdge _ _
  | .keyDebounceExpiry _ | .holdTimerExpiry _ | .repeatTimerExpiry _ | .touchIntFall | .missWaitExpiry
  | .waveformWriteEnd | .waveformCommitEnd | .tempReadEnd _ | .planningEnd | .railRiseEnd
  | .powerWaitExpiry | .frameEnd | .railHoldExpiry | .railFallEnd | .rampTimerExpiry
  | .periodBoundary | .batterySample _ | .alarmClearTimerExpiry | .leaseExpiry | .awakeFall
  | .apOffTimerExpiry | .dozeIdleExpiry | .deferralExpiry | .radioNoticeExpiry | .selfRefreshEntered
  | .timeCounterStep | .chargerLineChange _ _ | .criticalGraceExpiry | .depletionTimerExpiry | .putBlockWriteEnd
  | .drainEnd | .stagingIdleExpiry | .chunkGrant | .panelFeedBurst _ _ | .selfRefreshLeft => none

/-- The opcode table gives its rows no bits: no word spells a command. -/
def decodeTableWord (_nbits _w : Nat) : Option Instr := none

end Sys2Proof
end

