-- ==== Sys2Proof/Machine/Receive.lean ====
section
/-!
DEFINITION. A port's byte receiver (R175): the sync byte, the header and the body of one window.
-/

namespace Sys2Proof.Machine

/-- The declared body length in a receive buffer that holds the header: its kind byte and two length bytes (R182). -/
def headerLength (buf : List Byte) : Nat := leValue ((buf.drop 1).take 2)

/-- Is the frame in a receive buffer complete? (R175) -/
def frameComplete (buf : List Byte) : Bool := decide (3 ≤ buf.length) && decide (3 + headerLength buf ≤ buf.length)

/-- One byte of a window (R175); the buffer holds what follows the sync byte, and stays once the frame is complete. -/
def PortUnit.byte (u : PortUnit) (b : Byte) : PortUnit :=
  match u.state with
  | .waitingSync =>
    if b = Config.syncByte then { u with state := .receiving, buffer := [] } else { u with state := .ignoring, buffer := [] }
  | .receiving =>
    if frameComplete u.buffer then u
    else
      let buf := u.buffer ++ [b]
      if buf.length = 3 ∧ Config.bodyMax < headerLength buf then { u with state := .ignoring, buffer := [] }
      else { u with buffer := buf }
  | .busy | .answering | .ignoring => u

/-- The bytes of a window (R175). -/
def PortUnit.bytes (u : PortUnit) (bs : List Byte) : PortUnit := bs.foldl PortUnit.byte u

/-- Bytes that bring no complete frame: the port is left IGNORING, or RECEIVING an incomplete frame (R175). -/
def State.receive (s : State) (p : Port) (bs : List Byte) : State :=
  if s.portPowered p && !frameComplete ((s.port p).bytes bs).buffer then s.setPort p ((s.port p).bytes bs) else s

end Sys2Proof.Machine
end

