-- ==== Sys2Proof/Machine/ExecHeadroom.lean ====
section
/-!
DEFINITION. The headroom arbiter's commands (chapter 6).
-/

namespace Sys2Proof.Machine

/-- CLEAR_ALARM (R129). -/
def execClearAlarm (f : Frame) (b : Body Unit) (s : State) : Host.Outcome State Fault Refusal :=
  .next (s.frame f (messageOf .clearAlarm (fun _ => .clearAlarm) b))

/-- HEADROOM_STATUS (R132). -/
def execHeadroomStatus (f : Frame) (b : Body Unit) (s : State) : Host.Outcome State Fault Refusal :=
  .next (s.frame f (messageOf .headroomStatus (fun _ => .headroomStatus) b))

/-- ALARM_CLEAR_TIMER_EXPIRY: the alarm condition has been gone for 2,000 ms with the AP off (R129). -/
def execAlarmClearTimerExpiry (s : State) : Host.Outcome State Fault Refusal :=
  match s.head.clearTimer with
  | some d => .next ((s.atTime d).alarmClear.settle)
  | none => .next s

/-- TX_LEASE (R121). -/
def execTxLease (f : Frame) (b : Body TxLeaseArgs) (s : State) : Host.Outcome State Fault Refusal :=
  .next (s.frame f (messageOf .txLease .txLease b))

/-- TX_RELEASE (R123). -/
def execTxRelease (f : Frame) (b : Body Unit) (s : State) : Host.Outcome State Fault Refusal :=
  .next (s.frame f (messageOf .txRelease (fun _ => .txRelease) b))

/-- TX_CANCEL (R125). -/
def execTxCancel (f : Frame) (b : Body Unit) (s : State) : Host.Outcome State Fault Refusal :=
  .next (s.frame f (messageOf .txCancel (fun _ => .txCancel) b))

/-- LEASE_EXPIRY: the active lease ends at its expiry (R123). -/
def execLeaseExpiry (s : State) : Host.Outcome State Fault Refusal :=
  match s.head.active with
  | some l => .next (((s.atTime l.expiry).endLease l (some .expired)).rebalance)
  | none => .next s

end Sys2Proof.Machine
end

