-- ==== Sys2Proof/Machine/ExecLight.lean ====
section
/-!
DEFINITION. The light unit's commands (chapter 5).
-/

namespace Sys2Proof.Machine

/-- LIGHT_SET (R105). -/
def execLightSet (f : Frame) (b : Body LightSetArgs) (s : State) : Host.Outcome State Fault Refusal :=
  .next (s.frame f (messageOf .lightSet .lightSet b))

/-- LOAD_CURVE (R100). -/
def execLoadCurve (f : Frame) (b : Body LoadCurveArgs) (s : State) : Host.Outcome State Fault Refusal :=
  .next (s.frame f (messageOf .loadCurve .loadCurve b))

/-- LIGHT_STATE (R112). -/
def execLightState (f : Frame) (b : Body Unit) (s : State) : Host.Outcome State Fault Refusal :=
  .next (s.frame f (messageOf .lightState (fun _ => .lightState) b))

/-- RAMP_TIMER_EXPIRY: one step of the ramp (R107). -/
def execRampTimerExpiry (s : State) : Host.Outcome State Fault Refusal :=
  match s.light.rampTimer with
  | some d => .next (s.atTime d).rampStep
  | none => .next s

/-- PERIOD_BOUNDARY: a pending set of duties is loaded (R97, R98). -/
def execPeriodBoundary (s : State) : Host.Outcome State Fault Refusal :=
  if s.light.running then .next ({ s with light := s.light.boundary }.settle) else .next s

end Sys2Proof.Machine
end

