-- ==== Sys2Proof/Machine/ExecNotices.lean ====
section
/-!
DEFINITION. The notice unit's commands (chapter 9).
-/

namespace Sys2Proof.Machine

/-- TAKE_NOTICE (R170, R173). -/
def execTakeNotice (f : Frame) (b : Body TakeNoticeArgs) (s : State) : Host.Outcome State Fault Refusal :=
  .next (s.frame f (messageOf .takeNotice .takeNotice b))

/-- PEEK_NOTICES (R171). -/
def execPeekNotices (f : Frame) (b : Body Unit) (s : State) : Host.Outcome State Fault Refusal :=
  .next (s.frame f (messageOf .peekNotices (fun _ => .peekNotices) b))

/-- CLEAR_NOTICES (R171). -/
def execClearNotices (f : Frame) (b : Body ClearNoticesArgs) (s : State) : Host.Outcome State Fault Refusal :=
  .next (s.frame f (messageOf .clearNotices .clearNotices b))

/-- SET_NOTICE_LEVEL (R168). -/
def execSetNoticeLevel (f : Frame) (b : Body SetNoticeLevelArgs) (s : State) : Host.Outcome State Fault Refusal :=
  .next (s.frame f (messageOf .setNoticeLevel .setNoticeLevel b))

end Sys2Proof.Machine
end

