-- ==== Sys2Proof/Machine/ExecPanel.lean ====
section
/-!
DEFINITION. The panel drive's commands (chapter 4).
-/

namespace Sys2Proof.Machine

/-- WAVEFORM_WRITE (R73). -/
def execWaveformWrite (f : Frame) (b : Body WaveformWriteArgs) (s : State) : Host.Outcome State Fault Refusal :=
  .next (s.frame f (messageOf .waveformWrite .waveformWrite b))

/-- Is a work a WAVEFORM_WRITE's? -/
def isWaveWrite (k : WorkKind) : Bool := decide (k = .waveformWrite)

/-- WAVEFORM_WRITE_END: its last chunk is written (R73). -/
def execWaveformWriteEnd (s : State) : Host.Outcome State Fault Refusal :=
  match finishedWork s.pool.workA isWaveWrite with
  | some _ => .next (((s.setWork .a none).say .a .ok).takeHeld .a)
  | none => .next s

/-- WAVEFORM_COMMIT (R74). -/
def execWaveformCommit (f : Frame) (b : Body Unit) (s : State) : Host.Outcome State Fault Refusal :=
  .next (s.frame f (messageOf .waveformCommit (fun _ => .waveformCommit) b))

/-- Is a work a WAVEFORM_COMMIT's? -/
def isWaveCommit (k : WorkKind) : Bool := decide (k = .waveformCommit)

/-- WAVEFORM_COMMIT_END: the store is read back and checked (R74). -/
def execWaveformCommitEnd (s : State) : Host.Outcome State Fault Refusal :=
  match finishedWork s.pool.workA isWaveCommit with
  | some _ => .next (((s.setWork .a none).commitEnds .a).takeHeld .a)
  | none => .next s

/-- PANEL_STATUS (R95). -/
def execPanelStatus (f : Frame) (b : Body Unit) (s : State) : Host.Outcome State Fault Refusal :=
  .next (s.frame f (messageOf .panelStatus (fun _ => .panelStatus) b))

/-- TEMP_READ_END: the temperature read of a planning ends with a reading, or fails (R76). -/
def execTempReadEnd (reading : Option Int) (s : State) : Host.Outcome State Fault Refusal :=
  match s.panel.update with
  | some u => if u.phase = .planning ∧ u.tempRead = false then .next (s.tempRead u reading) else .next s
  | none => .next s

/-- PLANNING_END: the temperature is read and the images are compared (R79 to R82). -/
def execPlanningEnd (s : State) : Host.Outcome State Fault Refusal :=
  match s.panel.update with
  | some u =>
    if u.phase = .planning ∧ u.tempRead = true ∧ s.feedLeft = false then .next ((s.endPlanning u).settle) else .next s
  | none => .next s

/-- What follows as the rails enter HOT after a rise: the update demand, nothing while planning goes on, or the hold timer
(R82, R84, R90). DESIGN CHOICE (log 29): an update handed over during the rise keeps the hold timer stopped at its end. -/
def State.afterRise (s : State) : State :=
  match s.panel.update with
  | some u => if u.phase = .rising then s.presentUpdate else s
  | none => s.startHold

/-- RAIL_RISE_END: a rise is over (R84). -/
def execRailRiseEnd (s : State) : Host.Outcome State Fault Refusal :=
  match s.panel.riseTimer with
  | some d => .next ((s.atTime d).railsHot.afterRise.settle)
  | none => .next s

/-- POWER_WAIT_EXPIRY: an update's wait for headroom ends without a grant (R84, R85). -/
def execPowerWaitExpiry (s : State) : Host.Outcome State Fault Refusal :=
  match s.panel.waitTimer with
  | some d => .next ((s.atTime d).withdrawPanel.rebalance.abandonUpdate.settle)
  | none => .next s

/-- FRAME_END: a drive frame of 12 ms ends (R88, R89, R91). -/
def execFrameEnd (s : State) : Host.Outcome State Fault Refusal :=
  match s.panel.update with
  | some u =>
    match u.frameTimer, u.plan with
    | some d, some p => .next (((s.atTime d).frameEnds u p.frames).settle)
    | _, _ => .next s
  | none => .next s

/-- RAIL_HOLD_EXPIRY: the rails have held long enough (R87). -/
def execRailHoldExpiry (s : State) : Host.Outcome State Fault Refusal :=
  match s.panel.holdTimer with
  | some d => .next ((s.atTime d).railsFall.settle)
  | none => .next s

/-- The rails reach RAIL_OFF: the PANEL grant is released (R83, R87, R120). -/
def State.railsDown (s : State) : State :=
  { s with
    panel := { s.panel with rail := .off, fallTimer := none }
    head := { s.head with panel := ⟨0, 0⟩ } }.rebalance

/-- An update that waited for the fall presents its rise demand (R86). -/
def State.afterFall (s : State) : State :=
  match s.panel.update with
  | some u => if u.phase = .awaitRails then s.presentRise else s
  | none => s

/-- RAIL_FALL_END: a fall is over (R86, R87). -/
def execRailFallEnd (s : State) : Host.Outcome State Fault Refusal :=
  match s.panel.fallTimer with
  | some d => .next ((s.atTime d).railsDown.afterFall.settle)
  | none => .next s

end Sys2Proof.Machine
end

