-- ==== Sys2Proof/Machine/ExecPool.lean ====
section
/-!
DEFINITION. The memory arbiter's commands (chapter 1).
-/

namespace Sys2Proof.Machine

/-- CHUNK_GRANT: the memory is granted to the waiting chunk requester in rotation (R9, R10, R12). -/
def execChunkGrant (s : State) : Host.Outcome State Fault Refusal := .next s.grantChunk

/-- PANEL_FEED_BURST: the panel feed is granted a burst of a source; `roomAfter` says whether its row buffer has room for a
further one (R11). -/
def execPanelFeedBurst (src : FeedSource) (roomAfter : Bool) (s : State) : Host.Outcome State Fault Refusal :=
  .next (s.feedBurst src roomAfter)

end Sys2Proof.Machine
end

