-- ==== Sys2Proof/Machine/ExecPorts.lean ====
section
/-!
DEFINITION. The ports' own commands (chapter 10) and the requests they answer themselves: parameters and shared items.
-/

namespace Sys2Proof.Machine

/-- CHIP_SELECT_RELEASE: the window of a port ends (R175, R177). -/
def execChipSelectRelease (p : Port) (s : State) : Host.Outcome State Fault Refusal :=
  .next (s.setPort p (s.port p).released)

/-- WINDOW_IGNORED: bytes of a window that bring no complete frame (R175). -/
def execWindowIgnored (p : Port) (bytes : List Byte) (s : State) : Host.Outcome State Fault Refusal :=
  .next (s.receive p bytes)

/-- FRAME_DISCARDED: a frame completed while the port holds one goes without an answer (R176). -/
def execFrameDiscarded (p : Port) (s : State) : Host.Outcome State Fault Refusal :=
  if (s.port p).held.isSome ∧ s.portPowered p = true then
    .next (s.setPort p { (s.port p).released with state := .ignoring })
  else .next s

/-- UNKNOWN_REQUEST: a complete frame whose kind names no request (R176). -/
def execUnknownRequest (f : Frame) (code : Nat) (s : State) : Host.Outcome State Fault Refusal :=
  match kindOfByte code with
  | none => .next (s.frame f (.unknown code))
  | some _ => .next s

/-- IDENTIFY (R178). -/
def execIdentify (f : Frame) (b : Body Unit) (s : State) : Host.Outcome State Fault Refusal :=
  .next (s.frame f (messageOf .identify (fun _ => .identify) b))

/-- RESET_PORT (R181). -/
def execResetPort (f : Frame) (b : Body Unit) (s : State) : Host.Outcome State Fault Refusal :=
  .next (s.frame f (messageOf .resetPort (fun _ => .resetPort) b))

/-- SET_PARAM (R179). -/
def execSetParam (f : Frame) (b : Body SetParamArgs) (s : State) : Host.Outcome State Fault Refusal :=
  .next (s.frame f (messageOf .setParam .setParam b))

/-- GET_PARAM (R179). -/
def execGetParam (f : Frame) (b : Body GetParamArgs) (s : State) : Host.Outcome State Fault Refusal :=
  .next (s.frame f (messageOf .getParam .getParam b))

/-- SHARE (R180). -/
def execShare (f : Frame) (b : Body ShareArgs) (s : State) : Host.Outcome State Fault Refusal :=
  .next (s.frame f (messageOf .share .share b))

/-- READ_SHARED (R180). -/
def execReadShared (f : Frame) (b : Body ReadSharedArgs) (s : State) : Host.Outcome State Fault Refusal :=
  .next (s.frame f (messageOf .readShared .readShared b))

end Sys2Proof.Machine
end

