-- ==== Sys2Proof/Machine/ExecSleep.lean ====
section
/-!
DEFINITION. The battery and sleep controller's commands (chapter 7).
-/

namespace Sys2Proof.Machine

/-- POWER_ON: every block at its power-on value, and the first sample (R134, R139). -/
def execPowerOn (pins : StartPins) (first : Sample) (s : State) : Host.Outcome State Fault Refusal :=
  .next (s.coldStart (pinsOf pins) first)

/-- DEPLETED_RESTART_SAMPLE: a restart sample of voltage `v`; at or above restart_mV the cold start follows, with its first
sample (R149). -/
def execDepletedRestartSample (v : Nat) (first : Sample) (s : State) : Host.Outcome State Fault Refusal :=
  match s.bs.restartTimer with
  | some d =>
    if s.params.restartMV ≤ v then .next (s.coldStart s.pins first)
    else
      let t := s.atTime d
      .next { t with bs := { t.bs with restartTimer := t.timerFor 4000 } }
  | none => .next s

/-- BATTERY_SAMPLE (R114, R122, R134 to R137); in DEPLETED no sample is taken. -/
def execBatterySample (x : Sample) (s : State) : Host.Outcome State Fault Refusal :=
  if s.bs.power = .depleted then .next s else .next ((s.sample x).settle)

/-- SLEEP (R140), with the level AWAKE shows as it is taken. -/
def execSleep (f : Frame) (b : Body SleepArgs) (awake : Bool) (s : State) : Host.Outcome State Fault Refusal :=
  .next ({ s with pins := { s.pins with awake := awake } }.frame f (messageOf .sleep .sleep b))

/-- AWAKE_FALL: in AP_STOPPING the AP domain goes off (R140). -/
def execAwakeFall (s : State) : Host.Outcome State Fault Refusal :=
  let t := { s with pins := { s.pins with awake := false } }
  if s.bs.power = .apStopping then .next t.stopAp.settle else .next t

/-- AP_OFF_TIMER_EXPIRY: the AP domain goes off without AWAKE (R140). -/
def execApOffTimerExpiry (s : State) : Host.Outcome State Fault Refusal :=
  match s.bs.apOffTimer with
  | some d => .next ((s.atTime d).stopAp.settle)
  | none => .next s

/-- DOZE_IDLE_EXPIRY: the DEEP entry begins, or the timer starts again (R142). -/
def execDozeIdleExpiry (s : State) : Host.Outcome State Fault Refusal :=
  match s.bs.idleTimer with
  | some d =>
    let t := s.atTime d
    if s.bs.ap = .requested ∨ s.bs.depleting = true then .next t.startIdle
    else .next ({ t with bs := { t.bs with idleTimer := none } }.beginDeepEntry.settle)
  | none => .next s

/-- DEFERRAL_EXPIRY: OPEN streams are closed for SLEEP and ENTERING_DEEP begins (R142). -/
def execDeferralExpiry (s : State) : Host.Outcome State Fault Refusal :=
  match s.bs.deferTimer with
  | some d => .next (((s.atTime d).closeAllOpen .sleep).enterEnteringDeep.settle)
  | none => .next s

/-- RADIO_NOTICE_EXPIRY: the radio has been warned for 1,000 ms (R143). -/
def execRadioNoticeExpiry (s : State) : Host.Outcome State Fault Refusal :=
  match s.bs.radioTimer with
  | some d =>
    let t := s.atTime d
    .next ({ t with bs := { t.bs with radioTimer := none } }.settle)
  | none => .next s

/-- The light unit in DEEP (R110). -/
def LightUnit.deep (l : LightUnit) : LightUnit :=
  { l with
    target := 0, applied := 0, fading := false, buffer := none, duty := { l.duty with warm := 0, cool := 0 }
    running := false, rampTimer := none }

/-- DEEP is reached (R14, R70, R110, R143): the queue is emptied, key holds stop, and the light's counter stops. DESIGN
CHOICE (log 39): an engine that a power alarm put in HALTED after stage 6 asked for self-refresh stays HALTED. -/
def State.reachDeep (s : State) : State :=
  { s with
    pool := { s.pool with mode := .selfRefresh }
    bs := { s.bs with power := .deep, stage := none, heldWake := false }
    light := s.light.deep
    turn := { s.turn with queue := [], keys := s.turn.keys.map KeyInput.stopHold } }

/-- SELF_REFRESH_ENTERED: the pool controller reports self-refresh; DEEP is entered, and left again for a held wake (R14,
R141, R143). -/
def execSelfRefreshEntered (s : State) : Host.Outcome State Fault Refusal :=
  if s.pool.mode = .entering then
    if s.bs.heldWake then .next (s.reachDeep.serveWake.settle) else .next s.reachDeep
  else .next s

/-- SELF_REFRESH_LEFT: the pool controller reports that the memory has left self-refresh; the arbiter grants again (R14,
R144). -/
def execSelfRefreshLeft (s : State) : Host.Outcome State Fault Refusal :=
  if s.pool.mode = .leaving then .next { s with pool := { s.pool with mode := .active } } else .next s

/-- RADIO_POWER (R119, R146). -/
def execRadioPower (f : Frame) (b : Body RadioPowerArgs) (s : State) : Host.Outcome State Fault Refusal :=
  .next (s.frame f (messageOf .radioPower .radioPower b))

/-- RADIO_SLEEP (R146). -/
def execRadioSleep (f : Frame) (b : Body Unit) (s : State) : Host.Outcome State Fault Refusal :=
  .next (s.frame f (messageOf .radioSleep (fun _ => .radioSleep) b))

/-- SET_TIME (R147). -/
def execSetTime (f : Frame) (b : Body SetTimeArgs) (s : State) : Host.Outcome State Fault Refusal :=
  .next (s.frame f (messageOf .setTime .setTime b))

/-- SET_ALARM (R147). -/
def execSetAlarm (f : Frame) (b : Body SetAlarmArgs) (s : State) : Host.Outcome State Fault Refusal :=
  .next (s.frame f (messageOf .setAlarm .setAlarm b))

/-- TIME_COUNTER_STEP: a second has passed; the wake alarm may fire (R147). -/
def execTimeCounterStep (s : State) : Host.Outcome State Fault Refusal :=
  if s.bs.power = .depleted then .next s else .next s.stepTime.settle

/-- CHARGER_LINE_CHANGE: a charger line takes a level (R137, R149). -/
def execChargerLineChange (line : ChgLine) (high : Bool) (s : State) : Host.Outcome State Fault Refusal :=
  if s.pins.lineAt line = high then .next s
  else if s.bs.power = .depleted then .next (s.chargerEdgeDepleted line high)
  else .next ((s.chargerEdge line high).settle)

/-- CRITICAL_GRACE_EXPIRY: the grace starts again on charge; otherwise depletion begins (R138, R148). -/
def execCriticalGraceExpiry (s : State) : Host.Outcome State Fault Refusal :=
  match s.bs.graceTimer with
  | some d =>
    let t := s.atTime d
    if s.onCharge then
      .next { t with bs := { t.bs with graceTimer := t.timerFor (t.params.critGraceS * 1000) } }
    else
      let u := { t with bs := { t.bs with graceTimer := none } }
      if s.bs.depleting then .next u else .next u.beginDepletion.settle
  | none => .next s

/-- DEPLETION_TIMER_EXPIRY: depletion has waited 10,000 ms for the empty image (R148). -/
def execDepletionTimerExpiry (s : State) : Host.Outcome State Fault Refusal :=
  match s.bs.depletionTimer with
  | some d => .next (s.atTime d).enterDepleted
  | none => .next s

/-- BATTERY_STATUS (R150). -/
def execBatteryStatus (f : Frame) (b : Body Unit) (s : State) : Host.Outcome State Fault Refusal :=
  .next (s.frame f (messageOf .batteryStatus (fun _ => .batteryStatus) b))

/-- SLEEP_STATUS (R150). -/
def execSleepStatus (f : Frame) (b : Body Unit) (s : State) : Host.Outcome State Fault Refusal :=
  .next (s.frame f (messageOf .sleepStatus (fun _ => .sleepStatus) b))

end Sys2Proof.Machine
end

