-- ==== Sys2Proof/Machine/ExecSlots.lean ====
section
/-!
DEFINITION. The slot table's commands (chapter 2).
-/

namespace Sys2Proof.Machine

/-- OPEN_SLOT (R26 to R28). -/
def execOpenSlot (f : Frame) (b : Body OpenSlotArgs) (s : State) : Host.Outcome State Fault Refusal :=
  .next (s.frame f (messageOf .openSlot .openSlot b))

/-- WRITE_SLOT (R29, R30). -/
def execWriteSlot (f : Frame) (b : Body WriteSlotArgs) (s : State) : Host.Outcome State Fault Refusal :=
  .next (s.frame f (messageOf .writeSlot .writeSlot b))

/-- The slot and the payload length of a WRITE_SLOT's work. -/
def writeOf : WorkKind → Option (Nat × Nat)
  | .writeSlot n len => some (n, len)
  | .blankSlot _ | .waveformWrite | .waveformCommit | .drain | .putBlock => none

/-- WRITE_SLOT_END: a WRITE_SLOT's last chunk has ended, or what was left has been discarded (R13, R30). -/
def execWriteSlotEnd (s : State) : Host.Outcome State Fault Refusal :=
  match finishedWork s.pool.workA (fun k => (writeOf k).isSome) with
  | some w =>
    match writeOf w.kind with
    | some (n, len) => .next (((s.setWork .a none).writeSlotEnds .a n len w.stop w.lost).takeHeld .a)
    | none => .next s
  | none => .next s

/-- COMMIT_SLOT (R31). -/
def execCommitSlot (f : Frame) (b : Body SlotArgs) (s : State) : Host.Outcome State Fault Refusal :=
  .next (s.frame f (messageOf .commitSlot .commitSlot b))

/-- VERIFY_SCAN_END: the running scan ends (R32, R33). -/
def execVerifyScanEnd (s : State) : Host.Outcome State Fault Refusal :=
  match s.pool.scans with
  | c :: rest =>
    if c.unfinished then .next s
    else .next (({ s with pool := { s.pool with scans := rest } }.scanEnds c.slot c.check.result).settle)
  | [] => .next s

/-- CANCEL_SLOT (R34). -/
def execCancelSlot (f : Frame) (b : Body SlotArgs) (s : State) : Host.Outcome State Fault Refusal :=
  .next (s.frame f (messageOf .cancelSlot .cancelSlot b))

/-- BLANK_SLOT (R35). -/
def execBlankSlot (f : Frame) (b : Body BlankSlotArgs) (s : State) : Host.Outcome State Fault Refusal :=
  .next (s.frame f (messageOf .blankSlot .blankSlot b))

/-- The slot of a BLANK_SLOT's work. -/
def blankOf : WorkKind → Option Nat
  | .blankSlot n => some n
  | .writeSlot _ _ | .waveformWrite | .waveformCommit | .drain | .putBlock => none

/-- BLANK_SLOT_WRITE_END: a blank page's one chunk is written (R33, R35). -/
def execBlankSlotWriteEnd (s : State) : Host.Outcome State Fault Refusal :=
  match finishedWork s.pool.workA (fun k => (blankOf k).isSome) with
  | some w =>
    match blankOf w.kind with
    | some n => .next ((((s.setWork .a none).blankEnds .a n).settle).takeHeld .a)
    | none => .next s
  | none => .next s

/-- SET_CLASS (R36). -/
def execSetClass (f : Frame) (b : Body SetClassArgs) (s : State) : Host.Outcome State Fault Refusal :=
  .next (s.frame f (messageOf .setClass .setClass b))

/-- DESIGNATE (R37). -/
def execDesignate (f : Frame) (b : Body DesignateArgs) (s : State) : Host.Outcome State Fault Refusal :=
  .next (s.frame f (messageOf .designate .designate b))

/-- FORGET (R38). -/
def execForget (f : Frame) (b : Body ForgetArgs) (s : State) : Host.Outcome State Fault Refusal :=
  .next (s.frame f (messageOf .forget .forget b))

/-- LIST_SLOTS (R39). -/
def execListSlots (f : Frame) (b : Body Unit) (s : State) : Host.Outcome State Fault Refusal :=
  .next (s.frame f (messageOf .listSlots (fun _ => .listSlots) b))

end Sys2Proof.Machine
end

