-- ==== Sys2Proof/Machine/ExecStaging.lean ====
section
/-!
DEFINITION. The staging unit's commands (chapter 8).
-/

namespace Sys2Proof.Machine

/-- OPEN_STREAM (R153). -/
def execOpenStream (f : Frame) (b : Body OpenStreamArgs) (s : State) : Host.Outcome State Fault Refusal :=
  .next (s.frame f (messageOf .openStream .openStream b))

/-- PUT_BLOCK (R158). -/
def execPutBlock (f : Frame) (b : Body PutBlockArgs) (s : State) : Host.Outcome State Fault Refusal :=
  .next (s.frame f (messageOf .putBlock .putBlock b))

/-- Is a work a PUT_BLOCK's? -/
def isPutBlock (k : WorkKind) : Bool := decide (k = .putBlock)

/-- PUT_BLOCK_WRITE_END: the block in writing is written (R159, R160). -/
def execPutBlockWriteEnd (s : State) : Host.Outcome State Fault Refusal :=
  match finishedWork s.pool.workR isPutBlock with
  | some _ => .next ((((s.setWork .r none).blockWritten .r).settle).takeHeld .r)
  | none => .next s

/-- CLOSE_STREAM (R161). -/
def execCloseStream (f : Frame) (b : Body CloseStreamArgs) (s : State) : Host.Outcome State Fault Refusal :=
  .next (s.frame f (messageOf .closeStream .closeStream b))

/-- WAIT_SPACE (R165). -/
def execWaitSpace (f : Frame) (b : Body WaitSpaceArgs) (s : State) : Host.Outcome State Fault Refusal :=
  .next (s.frame f (messageOf .waitSpace .waitSpace b))

/-- ABORT_STREAM (R162). -/
def execAbortStream (f : Frame) (b : Body StreamArgs) (s : State) : Host.Outcome State Fault Refusal :=
  .next (s.frame f (messageOf .abortStream .abortStream b))

/-- DRAIN (R163). -/
def execDrain (f : Frame) (b : Body Unit) (s : State) : Host.Outcome State Fault Refusal :=
  .next (s.frame f (messageOf .drain (fun _ => .drain) b))

/-- Is a work a DRAIN's? -/
def isDrain (k : WorkKind) : Bool := decide (k = .drain)

/-- DRAIN_END: the head block is read and leaves the queue (R163). -/
def execDrainEnd (s : State) : Host.Outcome State Fault Refusal :=
  match finishedWork s.pool.workA isDrain with
  | some w => .next ((((s.setWork .a none).drainEnds .a w.got).settle).takeHeld .a)
  | none => .next s

/-- STAGING_STATUS (R164). -/
def execStagingStatus (f : Frame) (b : Body Unit) (s : State) : Host.Outcome State Fault Refusal :=
  .next (s.frame f (messageOf .stagingStatus (fun _ => .stagingStatus) b))

/-- STAGING_IDLE_EXPIRY: no block has joined for idle_s (R160). -/
def execStagingIdleExpiry (s : State) : Host.Outcome State Fault Refusal :=
  match s.staging.idleTimer with
  | some d =>
    let t := s.atTime d
    let u := t.withStaging { t.staging with idleTimer := none }
    if 0 < s.staging.bytes then
      .next ((u.raise .stagingIdle (.staged s.staging.bytes s.staging.queue.length)).settle)
    else .next u
  | none => .next s

end Sys2Proof.Machine
end

