-- ==== Sys2Proof/Machine/ExecTurns.lean ====
section
/-!
DEFINITION. The turn engine's commands (chapter 3).
-/

namespace Sys2Proof.Machine

/-- TURN (R51, R53, R54). -/
def execTurn (f : Frame) (b : Body TurnArgs) (s : State) : Host.Outcome State Fault Refusal :=
  .next (s.frame f (messageOf .turn .turn b))

/-- SET_KEY_ROUTE (R48, R49). -/
def execSetKeyRoute (f : Frame) (b : Body SetKeyRouteArgs) (s : State) : Host.Outcome State Fault Refusal :=
  .next (s.frame f (messageOf .setKeyRoute .setKeyRoute b))

/-- TURN_STATUS (R68). -/
def execTurnStatus (f : Frame) (b : Body Unit) (s : State) : Host.Outcome State Fault Refusal :=
  .next (s.frame f (messageOf .turnStatus (fun _ => .turnStatus) b))

/-- KEY_RAW_EDGE: the level of a key pin changes (R46); in DEPLETED the pins are not watched. -/
def execKeyRawEdge (k : Key) (pressed : Bool) (s : State) : Host.Outcome State Fault Refusal :=
  if s.rawKey k = pressed then .next s
  else
    let t := { s with pins := { s.pins with keys := s.pins.keys.set k.val pressed } }
    if s.bs.power = .depleted then .next t
    else .next (t.setKey k ((s.key k).rawMoves pressed s.now s.params.debounceMs))

/-- KEY_DEBOUNCE_EXPIRY: a key's edge is accepted (R46 to R48). -/
def execKeyDebounceExpiry (k : Key) (s : State) : Host.Outcome State Fault Refusal :=
  match (s.key k).debounce with
  | some d => .next (((s.atTime d).acceptEdge k).settle)
  | none => .next s

/-- HOLD_TIMER_EXPIRY: a held key begins to repeat (R48). -/
def execHoldTimerExpiry (k : Key) (s : State) : Host.Outcome State Fault Refusal :=
  match (s.key k).holdTimer with
  | some d => .next (((s.atTime d).repeatStep k).settle)
  | none => .next s

/-- REPEAT_TIMER_EXPIRY: a repeating key repeats again (R48). -/
def execRepeatTimerExpiry (k : Key) (s : State) : Host.Outcome State Fault Refusal :=
  match (s.key k).repeatTimer with
  | some d => .next (((s.atTime d).repeatStep k).settle)
  | none => .next s

/-- TOUCH_INT_FALL: a falling edge of the touch line (R50). -/
def execTouchIntFall (s : State) : Host.Outcome State Fault Refusal :=
  if s.keysAwake then .next (s.raise .touch (.touch s.touchCount)) else .next s

/-- MISS_WAIT_EXPIRY: a miss wait ends without its page (R59). -/
def execMissWaitExpiry (s : State) : Host.Outcome State Fault Refusal :=
  match s.turn.miss with
  | some m =>
    let t := s.atTime m.timer
    let u := { t with turn := { t.turn with miss := none, engine := .idle } }
    .next ((u.abandon (some m.key) .missTimeout).settle)
  | none => .next s

end Sys2Proof.Machine
end

