-- ==== Sys2Proof/Machine/Dispatch.lean ====
section
/-!
DEFINITION. Which meaning each command has.
-/

namespace Sys2Proof.Machine

def exec (i : Instr) (s : State) : Host.Outcome State Fault Refusal :=
  match i with
  | .powerOn pins first => Sys2Proof.Machine.execPowerOn pins first s
  | .depletedRestartSample v first => Sys2Proof.Machine.execDepletedRestartSample v first s
  | .chipSelectRelease p => Sys2Proof.Machine.execChipSelectRelease p s
  | .windowIgnored p bytes => Sys2Proof.Machine.execWindowIgnored p bytes s
  | .frameDiscarded p => Sys2Proof.Machine.execFrameDiscarded p s
  | .unknownRequest f code => Sys2Proof.Machine.execUnknownRequest f code s
  | .identify f b => Sys2Proof.Machine.execIdentify f b s
  | .resetPort f b => Sys2Proof.Machine.execResetPort f b s
  | .takeNotice f b => Sys2Proof.Machine.execTakeNotice f b s
  | .setParam f b => Sys2Proof.Machine.execSetParam f b s
  | .getParam f b => Sys2Proof.Machine.execGetParam f b s
  | .share f b => Sys2Proof.Machine.execShare f b s
  | .readShared f b => Sys2Proof.Machine.execReadShared f b s
  | .openSlot f b => Sys2Proof.Machine.execOpenSlot f b s
  | .writeSlot f b => Sys2Proof.Machine.execWriteSlot f b s
  | .writeSlotEnd => Sys2Proof.Machine.execWriteSlotEnd s
  | .commitSlot f b => Sys2Proof.Machine.execCommitSlot f b s
  | .verifyScanEnd => Sys2Proof.Machine.execVerifyScanEnd s
  | .cancelSlot f b => Sys2Proof.Machine.execCancelSlot f b s
  | .blankSlot f b => Sys2Proof.Machine.execBlankSlot f b s
  | .blankSlotWriteEnd => Sys2Proof.Machine.execBlankSlotWriteEnd s
  | .setClass f b => Sys2Proof.Machine.execSetClass f b s
  | .designate f b => Sys2Proof.Machine.execDesignate f b s
  | .forget f b => Sys2Proof.Machine.execForget f b s
  | .listSlots f b => Sys2Proof.Machine.execListSlots f b s
  | .turn f b => Sys2Proof.Machine.execTurn f b s
  | .setKeyRoute f b => Sys2Proof.Machine.execSetKeyRoute f b s
  | .turnStatus f b => Sys2Proof.Machine.execTurnStatus f b s
  | .keyRawEdge k pressed => Sys2Proof.Machine.execKeyRawEdge k pressed s
  | .keyDebounceExpiry k => Sys2Proof.Machine.execKeyDebounceExpiry k s
  | .holdTimerExpiry k => Sys2Proof.Machine.execHoldTimerExpiry k s
  | .repeatTimerExpiry k => Sys2Proof.Machine.execRepeatTimerExpiry k s
  | .touchIntFall => Sys2Proof.Machine.execTouchIntFall s
  | .missWaitExpiry => Sys2Proof.Machine.execMissWaitExpiry s
  | .waveformWrite f b => Sys2Proof.Machine.execWaveformWrite f b s
  | .waveformWriteEnd => Sys2Proof.Machine.execWaveformWriteEnd s
  | .waveformCommit f b => Sys2Proof.Machine.execWaveformCommit f b s
  | .waveformCommitEnd => Sys2Proof.Machine.execWaveformCommitEnd s
  | .panelStatus f b => Sys2Proof.Machine.execPanelStatus f b s
  | .tempReadEnd reading => Sys2Proof.Machine.execTempReadEnd reading s
  | .planningEnd => Sys2Proof.Machine.execPlanningEnd s
  | .railRiseEnd => Sys2Proof.Machine.execRailRiseEnd s
  | .powerWaitExpiry => Sys2Proof.Machine.execPowerWaitExpiry s
  | .frameEnd => Sys2Proof.Machine.execFrameEnd s
  | .railHoldExpiry => Sys2Proof.Machine.execRailHoldExpiry s
  | .railFallEnd => Sys2Proof.Machine.execRailFallEnd s
  | .lightSet f b => Sys2Proof.Machine.execLightSet f b s
  | .loadCurve f b => Sys2Proof.Machine.execLoadCurve f b s
  | .lightState f b => Sys2Proof.Machine.execLightState f b s
  | .rampTimerExpiry => Sys2Proof.Machine.execRampTimerExpiry s
  | .periodBoundary => Sys2Proof.Machine.execPeriodBoundary s
  | .clearAlarm f b => Sys2Proof.Machine.execClearAlarm f b s
  | .headroomStatus f b => Sys2Proof.Machine.execHeadroomStatus f b s
  | .batterySample x => Sys2Proof.Machine.execBatterySample x s
  | .alarmClearTimerExpiry => Sys2Proof.Machine.execAlarmClearTimerExpiry s
  | .txLease f b => Sys2Proof.Machine.execTxLease f b s
  | .txRelease f b => Sys2Proof.Machine.execTxRelease f b s
  | .txCancel f b => Sys2Proof.Machine.execTxCancel f b s
  | .leaseExpiry => Sys2Proof.Machine.execLeaseExpiry s
  | .sleep f b awake => Sys2Proof.Machine.execSleep f b awake s
  | .awakeFall => Sys2Proof.Machine.execAwakeFall s
  | .apOffTimerExpiry => Sys2Proof.Machine.execApOffTimerExpiry s
  | .dozeIdleExpiry => Sys2Proof.Machine.execDozeIdleExpiry s
  | .deferralExpiry => Sys2Proof.Machine.execDeferralExpiry s
  | .radioNoticeExpiry => Sys2Proof.Machine.execRadioNoticeExpiry s
  | .selfRefreshEntered => Sys2Proof.Machine.execSelfRefreshEntered s
  | .radioPower f b => Sys2Proof.Machine.execRadioPower f b s
  | .radioSleep f b => Sys2Proof.Machine.execRadioSleep f b s
  | .setTime f b => Sys2Proof.Machine.execSetTime f b s
  | .setAlarm f b => Sys2Proof.Machine.execSetAlarm f b s
  | .timeCounterStep => Sys2Proof.Machine.execTimeCounterStep s
  | .chargerLineChange line high => Sys2Proof.Machine.execChargerLineChange line high s
  | .criticalGraceExpiry => Sys2Proof.Machine.execCriticalGraceExpiry s
  | .depletionTimerExpiry => Sys2Proof.Machine.execDepletionTimerExpiry s
  | .batteryStatus f b => Sys2Proof.Machine.execBatteryStatus f b s
  | .sleepStatus f b => Sys2Proof.Machine.execSleepStatus f b s
  | .openStream f b => Sys2Proof.Machine.execOpenStream f b s
  | .putBlock f b => Sys2Proof.Machine.execPutBlock f b s
  | .putBlockWriteEnd => Sys2Proof.Machine.execPutBlockWriteEnd s
  | .closeStream f b => Sys2Proof.Machine.execCloseStream f b s
  | .waitSpace f b => Sys2Proof.Machine.execWaitSpace f b s
  | .abortStream f b => Sys2Proof.Machine.execAbortStream f b s
  | .drain f b => Sys2Proof.Machine.execDrain f b s
  | .drainEnd => Sys2Proof.Machine.execDrainEnd s
  | .stagingStatus f b => Sys2Proof.Machine.execStagingStatus f b s
  | .stagingIdleExpiry => Sys2Proof.Machine.execStagingIdleExpiry s
  | .peekNotices f b => Sys2Proof.Machine.execPeekNotices f b s
  | .clearNotices f b => Sys2Proof.Machine.execClearNotices f b s
  | .setNoticeLevel f b => Sys2Proof.Machine.execSetNoticeLevel f b s
  | .chunkGrant => Sys2Proof.Machine.execChunkGrant s
  | .panelFeedBurst src roomAfter => Sys2Proof.Machine.execPanelFeedBurst src roomAfter s
  | .selfRefreshLeft => Sys2Proof.Machine.execSelfRefreshLeft s

end Sys2Proof.Machine
end

