-- ==== Sys2Proof/WellFormed.lean ====
section
/-!
DEFINITION. Well-formed commands: a request's fields fit the widths of R182 and its body the length of R175; an event
carries what the pins and converters can show (R114, R175).
-/

namespace Sys2Proof

open Sys2Proof.Machine

/-- Does a number fit in `w` bytes? -/
def fitsBytes (w n : Nat) : Bool := decide (n < 256 ^ w)

/-- Does a page key fit its field? -/
def keyFits (k : PageKey) : Bool := fitsBytes 2 k.book && fitsBytes 3 k.page

/-- Do the fields of a request fit their widths? (R182) -/
def fieldsFit : Req → Bool
  | .takeNotice x => x.source.all (fitsBytes 1)
  | .setParam x => fitsBytes 1 x.number && fitsBytes 4 x.value
  | .getParam x => fitsBytes 1 x.number
  | .openSlot x => keyFits x.key && fitsBytes 3 x.length
  | .writeSlot x => fitsBytes 1 x.slot && fitsBytes 3 x.offset
  | .commitSlot x | .cancelSlot x => fitsBytes 1 x.slot
  | .blankSlot x => keyFits x.key && fitsBytes 1 x.level
  | .setClass x => fitsBytes 1 x.slot
  | .designate x => x.slot.all (fitsBytes 1)
  | .forget x => fitsBytes 2 x.book && x.range.all (fun r => fitsBytes 3 r.1 && fitsBytes 3 r.2)
  | .turn x =>
    match x.kind with
    | .step _ => true
    | .goto k => keyFits k
  | .setKeyRoute x => fitsBytes 1 x.key
  | .waveformWrite x => fitsBytes 3 x.offset
  | .lightSet x => fitsBytes 1 x.level && x.warmth.all (fitsBytes 1)
  | .loadCurve x => decide (x.points.length < 256) && x.points.all (fitsBytes 2)
  | .setTime x => fitsBytes 4 x.time
  | .setAlarm x => x.time.all (fitsBytes 4)
  | .abortStream x => fitsBytes 1 x.stream
  | .clearNotices x => x.sources.all (fun l => decide (l.length < 256) && l.all (fitsBytes 1))
  | .setNoticeLevel x => fitsBytes 1 x.source && fitsBytes 1 x.level && fitsBytes 1 x.priority
  | .openStream x => fitsBytes 4 x.tag && x.total.all (fitsBytes 4)
  | .putBlock x => fitsBytes 1 x.stream && fitsBytes 4 x.sequence
  | .closeStream x => fitsBytes 1 x.stream
  | .waitSpace x => fitsBytes 3 x.bytes
  | .txLease x => fitsBytes 2 x.mW && fitsBytes 2 x.duration
  | .identify | .resetPort | .listSlots | .turnStatus | .waveformCommit | .panelStatus | .lightState | .clearAlarm
  | .headroomStatus | .batteryStatus | .sleepStatus | .drain | .stagingStatus | .peekNotices | .txRelease | .txCancel
  | .radioSleep | .share _ | .readShared _ | .sleep _ | .radioPower _ => true

/-- Does a request fit its frame: its fields and its body length? (R175, R182) -/
def reqFits (q : Req) : Bool := fieldsFit q && decide ((encodeBody q).length ≤ Config.bodyMax)

/-- Does a body fit its frame? A malformed one is whatever it is. -/
def bodyFits {α : Type} (q : α → Req) : Body α → Bool
  | .malformed => true
  | .fields x => reqFits (q x)

/-- A sample the converter can give: 0 to 5,000 mV, -3,000 to +3,000 mA (R114). -/
def sampleFits (x : Sample) : Bool := decide (x.v ≤ 5000) && decide (-3000 ≤ x.i) && decide (x.i ≤ 3000)

/-- A command is well formed. -/
def Instr.wf : Instr → Bool
  | .powerOn _ first => sampleFits first
  | .depletedRestartSample v first => decide (v ≤ 5000) && sampleFits first
  | .windowIgnored _ bytes => !frameComplete (PortUnit.reset.bytes bytes).buffer
  | .unknownRequest _ code => fitsBytes 1 code && (kindOfByte code).isNone
  | .identify _ b => bodyFits (fun _ => .identify) b
  | .resetPort _ b => bodyFits (fun _ => .resetPort) b
  | .takeNotice _ b => bodyFits .takeNotice b
  | .setParam _ b => bodyFits .setParam b
  | .getParam _ b => bodyFits .getParam b
  | .share _ b => bodyFits .share b
  | .readShared _ b => bodyFits .readShared b
  | .openSlot _ b => bodyFits .openSlot b
  | .writeSlot _ b => bodyFits .writeSlot b
  | .commitSlot _ b => bodyFits .commitSlot b
  | .cancelSlot _ b => bodyFits .cancelSlot b
  | .blankSlot _ b => bodyFits .blankSlot b
  | .setClass _ b => bodyFits .setClass b
  | .designate _ b => bodyFits .designate b
  | .forget _ b => bodyFits .forget b
  | .listSlots _ b => bodyFits (fun _ => .listSlots) b
  | .turn _ b => bodyFits .turn b
  | .setKeyRoute _ b => bodyFits .setKeyRoute b
  | .turnStatus _ b => bodyFits (fun _ => .turnStatus) b
  | .waveformWrite _ b => bodyFits .waveformWrite b
  | .waveformCommit _ b => bodyFits (fun _ => .waveformCommit) b
  | .panelStatus _ b => bodyFits (fun _ => .panelStatus) b
  | .tempReadEnd reading => reading.all (fun t => decide (-32768 ≤ t) && decide (t ≤ 32767))
  | .lightSet _ b => bodyFits .lightSet b
  | .loadCurve _ b => bodyFits .loadCurve b
  | .lightState _ b => bodyFits (fun _ => .lightState) b
  | .clearAlarm _ b => bodyFits (fun _ => .clearAlarm) b
  | .headroomStatus _ b => bodyFits (fun _ => .headroomStatus) b
  | .batterySample x => sampleFits x
  | .txLease _ b => bodyFits .txLease b
  | .txRelease _ b => bodyFits (fun _ => .txRelease) b
  | .txCancel _ b => bodyFits (fun _ => .txCancel) b
  | .sleep _ b _ => bodyFits .sleep b
  | .radioPower _ b => bodyFits .radioPower b
  | .radioSleep _ b => bodyFits (fun _ => .radioSleep) b
  | .setTime _ b => bodyFits .setTime b
  | .setAlarm _ b => bodyFits .setAlarm b
  | .batteryStatus _ b => bodyFits (fun _ => .batteryStatus) b
  | .sleepStatus _ b => bodyFits (fun _ => .sleepStatus) b
  | .openStream _ b => bodyFits .openStream b
  | .putBlock _ b => bodyFits .putBlock b
  | .closeStream _ b => bodyFits .closeStream b
  | .waitSpace _ b => bodyFits .waitSpace b
  | .abortStream _ b => bodyFits .abortStream b
  | .drain _ b => bodyFits (fun _ => .drain) b
  | .stagingStatus _ b => bodyFits (fun _ => .stagingStatus) b
  | .peekNotices _ b => bodyFits (fun _ => .peekNotices) b
  | .clearNotices _ b => bodyFits .clearNotices b
  | .setNoticeLevel _ b => bodyFits .setNoticeLevel b
  | .chipSelectRelease _ | .frameDiscarded _ | .writeSlotEnd | .verifyScanEnd | .blankSlotWriteEnd
  | .keyRawEdge _ _ | .keyDebounceExpiry _ | .holdTimerExpiry _ | .repeatTimerExpiry _ | .touchIntFall
  | .missWaitExpiry | .waveformWriteEnd | .waveformCommitEnd | .planningEnd | .railRiseEnd
  | .powerWaitExpiry | .frameEnd | .railHoldExpiry | .railFallEnd | .rampTimerExpiry
  | .periodBoundary | .alarmClearTimerExpiry | .leaseExpiry | .awakeFall | .apOffTimerExpiry
  | .dozeIdleExpiry | .deferralExpiry | .radioNoticeExpiry | .selfRefreshEntered | .timeCounterStep
  | .chargerLineChange _ _ | .criticalGraceExpiry | .depletionTimerExpiry | .putBlockWriteEnd | .drainEnd
  | .stagingIdleExpiry | .chunkGrant | .panelFeedBurst _ _ | .selfRefreshLeft => true

end Sys2Proof
end

