-- ==== Sys2Proof/Safety.lean ====
section
/-!
DEFINITION. The terms statements about the AB420 are made in: a port ready for a request, the state after an answer, a
settled state, the light under its grant, an AP power-up, an entry placed at the head of the turn queue, the ways to DEEP and
DEPLETED, the checks of images and waveforms, slots taken and emptied, and the laws the records keep from step to step.
-/

namespace Sys2Proof.Machine

/-! ### Requests -/

/-- A request frame that comes in a fresh window of a port. -/
def freshFrame (p : Port) : Frame := { port := p, sameWindow := false }

/-- A port that can take a request at once: its master is powered, no request is in progress and no frame is held. -/
abbrev State.Ready (s : State) (p : Port) : Prop :=
  s.portPowered p = true ∧ (s.port p).busy = none ∧ (s.port p).held = none

/-- A port that sends an answer (R177). -/
def PortUnit.replied (u : PortUnit) (a : Answer) : PortUnit :=
  { u with state := .answering, buffer := [], busy := none, answer := some a, lastAnswer := some a }

/-- The state in which a port sends an answer and nothing else differs. -/
def State.replied (s : State) (p : Port) (a : Answer) : State := s.setPort p ((s.port p).replied a)

/-- The state in which a port answers with a status and no body and nothing else differs. -/
def State.refusedWith (s : State) (p : Port) (c : Status) : State := s.replied p (Answer.plain c)

/-- A port whose request has memory work in progress (R177). -/
def PortUnit.working (u : PortUnit) : PortUnit :=
  { u with state := .busy, buffer := [], busy := some true, answer := none }

/-- The state in which a port's request is in progress and nothing else differs. -/
def State.workingOn (s : State) (p : Port) : State := s.setPort p ((s.port p).working)

/-- The state in which a port's request in progress has been answered: into its window if that is open. -/
def State.answered (s : State) (p : Port) (a : Answer) : State := s.setPort p ((s.port p).answered a)

/-! ### What an action leaves alone -/

/-- What no action of the headroom arbiter, the light unit, the panel drive's rails or the notice unit touches: the
parameters, who owns the extents and what is in them, the slot table, the staging unit, the share grants, the pins, the
timebase and the queue of commands. -/
def State.still (s : State) :=
  (s.params, s.pool.owners, s.pool.free, s.pool.mem, s.slots, s.staging, s.shares, s.pins, s.now, s.pending)

/-- The two ports. -/
def State.ports (s : State) : PortUnit × PortUnit := (s.portA, s.portR)

/-! ### The light under its grant -/

/-- The light unit once the arbiter gives it the grant `g`: as it was where that is the grant it had or it makes no duty
computation, and else with the applied total, CAPPED and the buffered duties of R103 from step 4 on (R104, R117). -/
def State.litBy (s : State) (g : Nat) : LightUnit :=
  if s.head.light.grant = g then s.light
  else if s.lightComputes then
    { s.light with
      grant := g
      total := s.cappedTotal g
      capped := decide (g < s.light.demand)
      buffer := some (splitTotal s.light.warmth s.params.deadGap (s.cappedTotal g)) }
  else s.light

/-- The demand of the applied level: the power of its total (R101, R102). -/
def State.litDemand (s : State) : Nat := s.powerOf (lightTotal s.light.curve s.params.deadGap s.light.applied)

/-- The light unit after a duty computation that the arbiter answers with the grant `g` (R101 to R103). -/
def State.litAnew (s : State) (g : Nat) : LightUnit :=
  let r := lightTotal s.light.curve s.params.deadGap s.light.applied
  let t := if s.litDemand ≤ g then r else if g = 0 then 0
    else fitTotal s.light.warmth s.params.warmFullMW s.params.coolFullMW g r
  { s.light with
    requested := r, demand := s.litDemand, grant := g, total := t, capped := decide (g < s.litDemand)
    buffer := some (splitTotal s.light.warmth s.params.deadGap t) }

/-! ### An AP power-up -/

/-- The state in which an AP power-up that fits has been granted (R116, R118, R141): AP holds ap_mW, the light what is left
of its demand, the domain is ON in RUN, and the DOZE idle timer, the deferral, the alarm's clear timer and the outstanding
wake request are gone. -/
def State.apUp (s : State) : State :=
  let g := min s.head.light.demand (s.head.ceiling - (s.params.apMW + s.head.panel.grant + s.head.radio.grant))
  { s with
    light := s.litBy g
    head := { s.head with
      ap := ⟨s.params.apMW, s.params.apMW⟩, light := ⟨s.head.light.demand, g⟩, apWait := none, clearTimer := none }
    bs := { s.bs with ap := .on, power := .run, idleTimer := none, deferTimer := none }
    notices := { s.notices with wakeOut := false } }

/-- The state in which an AP power-up waits: unjudged under the power alarm, else judged once (R118, R141). -/
def State.apWaiting (s : State) (w : ApWait) : State :=
  { s with
    head := { s.head with ap := { s.head.ap with demand := s.params.apMW }, apWait := some w }
    bs := { s.bs with ap := .requested, deferTimer := none } }

/-- The state in which the active lease has been revoked (R124): its milliwatts have left RADIO, the unreleased end is
REVOKED, and LEASE_REVOKED is raised where the radio domain is ON. -/
def State.revoked (s : State) (l : Lease) (why : RevokeReason) : State :=
  { s with
    head := { s.head with
      radio := ⟨s.head.radio.demand - l.mW, s.head.radio.grant - l.mW⟩, active := none, unreleased := some .revoked }
    notices := if s.bs.radio then { s.notices with rm := s.notices.rm.set 2 (some (.leaseRevoked l.mW why .active)) }
      else s.notices }

/-! ### Turns placed by the device -/

/-- An entry placed at the head of the turn queue (R52): the queue `q'` and the AP notices `ap'` after it, from those before
it. With 8 entries queued the tail is displaced, and TURN_OVERRUN is raised with its origin and kind. -/
def PlacedAtHead (e : Entry) (q : List Entry) (ap : List Notice) (q' : List Entry) (ap' : List Notice) : Prop :=
  (q.length < 8 ∧ q' = e :: q ∧ ap' = ap)
    ∨ ∃ x, 8 ≤ q.length ∧ q.getLast? = some x ∧ q' = e :: q.dropLast
        ∧ ap' = ap.modify 15 (fun n => n.raised (.turnOverrun x.origin x.kind))

/-! ### The ways to DEEP and DEPLETED -/

/-- Stage 3 of ENTERING_DEEP begun with the radio ON (R110, R143): the light fades to 0, POWER_OFF_SOON is raised with
1,000 ms, and the radio notice timer runs for as long. -/
def State.warned (s : State) : State :=
  { s with
    light := { s.light with
      fading := true, target := 0
      rampTimer := if s.light.alarmHold = true then s.light.rampTimer else if s.light.applied = 0 then none
        else if s.light.rampTimer = none then some (s.now + s.params.rampMs) else s.light.rampTimer }
    notices := { s.notices with rm := s.notices.rm.set 4 (some (.powerOffSoon 1000)) }
    bs := { s.bs with stage := some .fade, radioTimer := some (s.now + 1000) } }

/-- DEPLETED entered from `s` at the time `now` (R15, R44, R70, R94, R131, R149, R166). -/
def State.EnteredDepleted (s : State) (now : Nat) (t : State) : Prop :=
  t.bs.power = .depleted ∧ t.bs.ap = .off ∧ t.bs.radio = false ∧ t.bs.alarm = none ∧ t.bs.depleting = false
    ∧ t.bs.restartTimer = (if s.pins.chgPresent then some (now + 4000) else none)
    ∧ t.bs.q = s.bs.q ∧ t.bs.r = s.bs.r ∧ t.params = s.params ∧ t.shares = s.shares
    ∧ t.pool.mem = [] ∧ t.pool.mode = .off ∧ (∀ n, (t.slot n).state = .empty)
    ∧ t.panel.shown = none ∧ t.panel.fidelity = .unknown ∧ t.panel.wave = .absent
    ∧ t.staging = Staging.reset ∧ t.head = Headroom.reset ∧ t.turn.queue = [] ∧ t.light.running = false

/-! ### Page images and waveforms -/

/-- What the check of R20 finds in bytes that follow whole spans giving `row` rows and `col` columns of the next: none, or
the reason of the first failure. -/
def imageFault (row col : Nat) (bs : List Byte) : Option ImageFault :=
  (ImageCheck.feed { row := row, col := col, phase := .start } bs).result

/-- The rows an image's bytes give after the rows `done` and the levels `cur` of the row that follows them (R16). -/
def rowsAfter (done : List (List Nat)) (cur : List Nat) (bs : List Byte) : List (List Nat) :=
  (bs.foldl ImageDecode.step { rows := done.reverse, current := cur, phase := .start }).rows.reverse

/-- A drive code of a waveform is one of NONE, TO_BLACK and TO_WHITE (R74, R184). -/
abbrev Memory.DriveGood (m : Memory) (w f t k : Nat) : Prop := m.driveCode w f t k ≤ 2

/-- A waveform that passes the commit check (R74): a frame count from 1 to 63, and good drives for its frames. -/
abbrev Memory.WaveGood (m : Memory) (w : Nat) : Prop :=
  1 ≤ m.frameCount w ∧ m.frameCount w ≤ 63 ∧ ∀ f < 16, ∀ t < 16, ∀ k < m.frameCount w, m.DriveGood w f t k

/-! ### Slots taken and emptied -/

/-- The record a new page takes among those EMPTY before it (R23, R28): the lowest without the lost mark, or the lowest of
all where each carries the mark. -/
abbrev State.FreeRecord (s : State) (n : Nat) : Prop :=
  n < s.slots.slots.length ∧ (s.slot n).state = .empty
    ∧ (((s.slot n).lost = false ∧ ∀ m < n, ¬((s.slot m).state = .empty ∧ (s.slot m).lost = false))
      ∨ ((∀ m < s.slots.slots.length, (s.slot m).state = .empty → (s.slot m).lost = true)
        ∧ ∀ m < n, (s.slot m).state ≠ .empty))

/-- The extents slots hold, in the order of the slots and of their lists; no release accepts an extent of the waveform
store (R4, R6). -/
def State.heldBy (s : State) (l : List Nat) : List Nat :=
  (l.flatMap (fun n => (s.slot n).extents)).filter (fun e => decide (e < 504))

/-- What becoming EMPTY does beside the slots' own records (R4, R21, R25): the extents of the slots of `l` join the tail of
the free list in order and are FREE, a designation that names one of them is cleared and another kept, and the use counter
stays. -/
def State.Released (s t : State) (l : List Nat) : Prop :=
  t.pool.free = s.pool.free ++ s.heldBy l
    ∧ (∀ e, t.pool.owners[e]? = if e ∈ s.heldBy l then (s.pool.owners[e]?).map (fun _ => .free) else s.pool.owners[e]?)
    ∧ t.slots.rest = (if s.slots.rest.any (fun n => decide (n ∈ l)) then none else s.slots.rest)
    ∧ t.slots.empty = (if s.slots.empty.any (fun n => decide (n ∈ l)) then none else s.slots.empty)
    ∧ t.slots.use = s.slots.use

/-! ### The ring after closes -/

/-- What closing streams leaves of the ring (R157, R161, R166): the idle timer is as it was, and with a block queued or in
writing the ring, its write position and the pool's lists are too. -/
def State.RingKept (s t : State) : Prop :=
  t.staging.idleTimer = s.staging.idleTimer
    ∧ (s.staging.queue ≠ [] ∨ s.staging.writing.isSome = true →
        t.staging.ring = s.staging.ring ∧ t.staging.write = s.staging.write ∧ t.pool.free = s.pool.free
          ∧ t.pool.owners = s.pool.owners)

/-! ### Settled states -/

/-- Nothing comes about by itself: the engine takes no entry, no deferral or sleep entry goes on, no watch is met. -/
abbrev State.Settled (s : State) : Prop := s.nextAction.isNone = true

/-- Nothing but the head of the turn queue waits to be taken by itself: no DEEP entry is going on or deferred, and no space
watch is armed. -/
abbrev State.Quiet (s : State) : Prop := s.bs.stage = none ∧ s.bs.deferTimer = none ∧ s.staging.watch = none

/-- The engine takes no entry: it is not IDLE, or nothing is queued. -/
abbrev State.NoTake (s : State) : Prop := s.turn.engine ≠ .idle ∨ s.turn.queue = []

/-- No grant waits and the power alarm is clear, so that a rebalance (R117) only gives the light what is left. -/
abbrev State.NoWaits (s : State) : Prop :=
  s.head.alarm = none ∧ s.head.apWait = none ∧ s.head.panelWait = none ∧ s.head.parked = none

/-- No source above the wake threshold can ask for the AP: it is ON already. -/
abbrev State.ApOn (s : State) : Prop := s.bs.ap = .on

/-- A raise of this source presents no wake request (R172): the AP is ON, the source's level is not above the wake
threshold, or another such source is pending already. -/
abbrev State.NoWake (s : State) (src : Source) : Prop :=
  s.bs.ap = .on ∨ (s.notices.ap[src.idx]?).all (fun n => decide (n.level ≤ s.params.wakeThreshold)) = true
    ∨ ∃ n ∈ s.notices.ap, n.pending = true ∧ s.params.wakeThreshold < n.level

/-- A source raised, with the wake request outstanding where the raise presents one, but not yet served (R167, R172). -/
def State.noted (s : State) (src : Source) (d : Detail) : State :=
  { s with notices := { s.notices with
      ap := s.notices.ap.modify src.idx (fun n => n.raised d)
      wakeOut := if s.NoWake src then s.notices.wakeOut else true } }

/-- DEEP left by a wake with no RESUME entry to queue, short of the AP request that follows (R144): the memory is asked to
leave self-refresh, the light's period counter starts, and the power state is DOZE with its idle timer. -/
def State.outOfDeep (s : State) : State :=
  { s with
    pool := { s.pool with mode := .leaving }
    light := { s.light with running := true, duty := ⟨0, 0, s.params.deadGap⟩, buffer := none }
    bs := { s.bs with power := .doze, idleTimer := some (s.now + s.params.dozeIdleMin * 60000) } }

/-! ### The battery state -/

/-- The battery state after a sample of this percent and capped figure, on charge or not: the table of R136. -/
def Battery.next (b : Battery) (p : Params) (pct capped : Nat) (onCharge : Bool) : Battery :=
  match b with
  | .normal => if pct < p.critPct ∨ capped = 0 then .critical else if pct < p.lowPct then .low else .normal
  | .low => if pct < p.critPct ∨ capped = 0 then .critical else if p.lowPct + 2 ≤ pct then .normal else .low
  | .critical =>
    if onCharge = true ∧ p.critPct + 2 ≤ pct ∧ 0 < capped then if p.lowPct + 2 ≤ pct then .normal else .low
    else .critical

/-! ### Laws of the records -/

/-- The memory has its canonical form. -/
abbrev State.MemoryLaw (s : State) : Prop := Memory.wf s.pool.mem = true

/-- The turn queue holds at most 8 entries (R51). -/
abbrev State.QueueLaw (s : State) : Prop := s.turn.queue.length ≤ Config.queueMax

/-- The ghost count is at most 255 (R77, R89). -/
abbrev State.GhostLaw (s : State) : Prop := s.panel.ghost ≤ 255

/-- Every raise count is at most 255 (R167). -/
abbrev State.CountLaw (s : State) : Prop := ∀ n ∈ s.notices.ap, n.count ≤ 255

/-- The tables have the sizes the manual gives: 24 slots, 20 and 5 notice sources, 4 keys and 4 routes. -/
abbrev State.SizeLaw (s : State) : Prop :=
  s.slots.slots.length = 24 ∧ s.notices.ap.length = 20 ∧ s.notices.rm.length = 5 ∧ s.turn.keys.length = 4
    ∧ s.turn.routes.length = 4

/-- Nothing of the radio's is left while its domain is off: no RM source is pending (R173). -/
abbrev State.RadioLaw (s : State) : Prop := s.bs.radio = true ∨ s.notices.rm.all Option.isNone = true

/-- A step from a state that keeps a law gives a state that keeps it. -/
def KeptByStep (law : State → Prop) : Prop := ∀ s t : State, law s → step s = .next t → law t

end Sys2Proof.Machine
end

