-- ==== Sys2Proof/Certificates/Slice0/Obligations.lean ====
section
/-!
DEFINITION. The statements about the AB420 that are to be proved. Each names the rules it states; `freshFrame`,
`State.Ready`, `State.replied`, `State.refusedWith`, `State.workingOn`, `State.Quiet`, `State.NoTake`, `State.NoWaits`,
`State.Released`, `State.heldBy`, `State.litBy`, `State.litDemand`, `State.litAnew`, `State.NoWake`, `State.noted`, `State.apUp`,
`State.apWaiting`, `State.revoked`, `imageFault`, `rowsAfter`, `Memory.DriveGood`, `Memory.WaveGood`, `State.FreeRecord`,
`State.RingKept`, `State.outOfDeep`, `PlacedAtHead`, `State.warned`, `State.EnteredDepleted` and `Battery.next` are the terms
of Safety.lean.
-/

open Sys2Proof Sys2Proof.Machine

/-- A step takes the command at the front of the queue and runs it with the queue's rest; with no command waiting, 1
ms passes (the model's choice, log 2). -/
def Obligations.StepRunsFrontCommand : Prop :=
  (∀ (c : Instr) (rest : List Instr) (s : State), step (s.withPending (c :: rest)) = exec c (s.withPending rest))
  ∧ ∀ s : State, step (s.withPending []) = .next { s with pending := [], now := s.now + 1 }

/-- R1, R2, R12, R21, R22, R25, R46, R49, R51, R72, R76, R77, R83, R97, R99, R100, R114, R135, R139, R147, R152, R155,
R168, R174, R175, R179, R180: the values of every record at power-on, before the first sample (log 1; the pins and the
room flag of the feed are logs 1 and 8, the direction of an idle key and the reset of the want log 1; the length of an
EMPTY slot held as 0 is log 36). -/
def Obligations.ResetHoldsPowerOnValues : Prop :=
  State.reset.params = {
    ahead := 3, behind := 1, debounceMs := 20, holdMs := 700, repeatMs := 400, missWaitS := 10, defaultPartial := false,
    lowBatteryFast := true, ghostLimit := 6, railRiseMs := 6, railFallMs := 4, railHoldMs := 300, rowNJ := 1500,
    pixPJ := 3000, riseMW := 120, hotMW := 15, powerWaitS := 3, deadGap := 16, rampMs := 8, warmFullMW := 900,
    coolFullMW := 1000, lightFloorMW := 0, vcutMV := 3300, resrMOhm := 180, ceilingMaxMW := 4000, reserveMW := 100,
    apMW := 700, radioIdleMW := 80, capacityMAh := 1500, lowPct := 15, critPct := 3, critGraceS := 60,
    restartMV := 3500, dozeIdleMin := 10, deepDeferMin := 30, apOffTimeoutS := 10, wakeThreshold := 3,
    stagingFloor := 16, stagingMax := 96, triggerKib := 256, idleS := 20 }
  ∧ (∀ e < 512, State.reset.pool.owners[e]? = some (if e < 504 then .free else .waveform))
  ∧ State.reset.pool.owners.length = 512
  ∧ State.reset.pool = {
      owners := State.reset.pool.owners, free := List.range 504, mem := [], pointer := .portA, mode := .active,
      workA := none, workR := none, scans := [], feed := ⟨0, 0, 0, false, false⟩ }
  ∧ State.reset.slots = {
      slots := List.replicate 24 {
        state := .empty, key := none, cls := none, extents := [], declared := 0, written := 0, reservation := false,
        fullRefresh := false, edge := none, age := 0, forget := false, lost := false },
      rest := none, empty := none, use := 0 }
  ∧ State.reset.turn = {
      keys := List.replicate 4 {
        pressed := false, candidate := none, debounce := none, edgeTime := 0, hold := .idle, holdTimer := none,
        repeatTimer := none, dir := .plus },
      routes := [.next, .prev, .light, .power], queue := [], engine := .idle, miss := none, turn := none, want := none }
  ∧ State.reset.panel = {
      wave := .absent, commitFail := none, lastGood := none, lastRead := none, band := none, shown := none,
      shownKey := none, target := none, fidelity := .unknown, ghost := 0, rail := .off, update := none,
      riseTimer := none, fallTimer := none, holdTimer := none, waitTimer := none }
  ∧ State.reset.light = {
      target := 0, warmth := 32, remembered := 128, applied := 0, capped := false, alarmHold := false, fading := false,
      requested := 0, demand := 0, grant := 0, total := 0,
      curve := [0, 64, 128, 192, 256, 320, 384, 448, 512, 576, 640, 704, 768, 832, 896, 960, 1024], buffer := none,
      duty := ⟨0, 0, 16⟩, running := true, rampTimer := none }
  ∧ State.reset.head = {
      v := 0, i := 0, capped := 0, ceiling := 0, ap := ⟨0, 0⟩, panel := ⟨0, 0⟩, radio := ⟨0, 0⟩, light := ⟨0, 0⟩,
      apWait := none, panelWait := none, active := none, parked := none, unreleased := none, alarm := none,
      clearTimer := none, sampled := false, vcut := 3300 }
  ∧ State.reset.bs = {
      lastV := 0, lastI := 0, q := 750, r := 0, percent := 50, battery := .normal, charger := .absent, power := .run,
      sleepTarget := none, ap := .on, radio := false, heldWake := false, stage := none, depleting := false,
      resumeKey := none, apOffTimer := none, idleTimer := none, deferTimer := none, radioTimer := none,
      graceTimer := none, depletionTimer := none, restartTimer := none, time := 0, alarm := none, outcome := none }
  ∧ State.reset.staging = {
      stream1 := none, stream2 := none, queue := [], ring := [], write := none, writing := none, idleTimer := none,
      watch := none }
  ∧ (∀ n ∈ State.reset.notices.ap, n.pending = false ∧ n.detail = none ∧ n.count = 0)
  ∧ State.reset.notices.ap.map Notice.level = [6, 5, 3, 4, 3, 4, 2, 7, 7, 2, 4, 5, 3, 2, 2, 1, 1, 0, 3, 1]
  ∧ State.reset.notices.ap.map Notice.priority = [3, 2, 1, 0, 7, 6, 5, 4, 3, 2, 1, 0, 7, 6, 5, 4, 3, 2, 1, 0]
  ∧ State.reset.notices.rm = [none, none, none, none, none] ∧ State.reset.notices.wakeOut = false
  ∧ (∀ p,
       State.reset.port p = { state := .waitingSync, buffer := [], busy := none, held := none, answer := none, lastAnswer := none })
  ∧ (∀ i, State.reset.shares.granted i = false)
  ∧ State.reset.pins = { keys := [false, false, false, false], chgPresent := false, chgDone := false, awake := true }
  ∧ State.reset.now = 0 ∧ State.reset.pending = []

/-- The laws that every step keeps hold at reset. -/
def Obligations.ResetMeetsTheLaws : Prop :=
  State.reset.MemoryLaw ∧ State.reset.QueueLaw ∧ State.reset.GhostLaw ∧ State.reset.CountLaw

/-- No command breaks the memory's canonical form: addresses rising, no zero byte listed (log 6). -/
def Obligations.MemoryLawIsKept : Prop :=
  KeptByStep State.MemoryLaw

/-- R51, R52, R77, R89, R167: no command makes the turn queue longer than 8, and the saturating counts stay at 255 or
below. -/
def Obligations.QueueAndCountLawsAreKept : Prop :=
  KeptByStep State.QueueLaw ∧ KeptByStep (fun s => s.CountLaw ∧ s.GhostLaw)

/-- R178: IDENTIFY on either port. -/
def Obligations.IdentifyAnswersOnBothPorts : Prop :=
  ∀ (s : State) (p : Port),
    s.Ready p → exec (.identify (freshFrame p) (.fields ())) s = .next (s.replied p ⟨.ok, .identify 420 1 512 24⟩)

/-- R176: the checks on a complete frame that refuse it before its block sees it. -/
def Obligations.FrameChecksRefuse : Prop :=
  (∀ (s : State) (p : Port) (q : Req),
     s.Ready p → permitted (kindOf q) p = false →
       exec (requestInstr (freshFrame p) s.pins.awake q) s = .next (s.refusedWith p .notPermitted))
  ∧ (∀ (s : State) (p : Port) (k : Kind),
       s.Ready p →
         exec (malformedInstr (freshFrame p) s.pins.awake k) s =
           .next (s.refusedWith p (if permitted k p then .badArgument else .notPermitted)))
  ∧ (∀ (s : State) (p : Port) (code : Nat),
       s.Ready p → (code = 0 ∨ 48 ≤ code ∧ code ≤ 255) →
         exec (.unknownRequest (freshFrame p) code) s = .next (s.refusedWith p .unknownRequest))

/-- R175 to R177: the window of a port ends, bytes that bring no complete frame, and a frame that completes while a
request is in progress. That a port discards a second frame by turning IGNORING is the model's (log 12). -/
def Obligations.WindowsAndHeldFrames : Prop :=
  (∀ (s : State) (p : Port),
     ∃ t,
       exec (.chipSelectRelease p) s = .next t ∧ t = s.setPort p (t.port p) ∧ (t.port p).state = .waitingSync
       ∧ (t.port p).buffer = [] ∧ (t.port p).answer = none
       ∧ (t.port p).busy.isSome = (s.port p).busy.isSome ∧ (t.port p).busy ≠ some true
       ∧ (t.port p).held.map HeldFrame.message = (s.port p).held.map HeldFrame.message
       ∧ (∀ h, (t.port p).held = some h → h.live = false))
  ∧ (∀ (s : State) (p : Port) (b : Byte) (bs : List Byte),
       s.portPowered p = true → (s.port p).state = .waitingSync → (s.port p).buffer = [] →
         (b ≠ 0xC3#8 →
            exec (.windowIgnored p (b :: bs)) s = .next (s.setPort p { s.port p with state := .ignoring }))
         ∧ (∀ x y z : Byte,
              4200 < y.toNat + 256 * z.toNat →
                exec (.windowIgnored p (0xC3#8 :: x :: y :: z :: bs)) s =
                  .next (s.setPort p { s.port p with state := .ignoring }))
         ∧ (bs.length < 3 →
              exec (.windowIgnored p (0xC3#8 :: bs)) s =
                .next (s.setPort p { s.port p with state := .receiving, buffer := bs })))
  ∧ ((∀ (s : State) (p : Port) (q : Req),
        s.portPowered p = true → (s.port p).busy.isSome = true → (s.port p).held = none → q ≠ .resetPort →
          ∃ t,
            exec (requestInstr (freshFrame p) s.pins.awake q) s = .next t ∧ t = s.setPort p (t.port p)
            ∧ (t.port p).held = some ⟨.request q, true⟩ ∧ (t.port p).busy = some false
            ∧ (t.port p).state = .busy ∧ (t.port p).answer = none)
     ∧ ∀ (s : State) (p : Port),
         s.portPowered p = true → (s.port p).held.isSome = true →
           ∃ t,
             exec (.frameDiscarded p) s = .next t ∧ t = s.setPort p (t.port p) ∧ (t.port p).state = .ignoring
             ∧ (t.port p).held.map HeldFrame.message = (s.port p).held.map HeldFrame.message
             ∧ (t.port p).busy.isSome = (s.port p).busy.isSome ∧ (t.port p).answer = none)

/-- R4, R25, R40, R181: RESET_PORT on Port A, in every state of the port (the order in which it empties slots, which
shows in the free list, is log 30). -/
def Obligations.ResetPortABreaksReservations : Prop :=
  ∀ s : State,
    s.portPowered .a = true → s.Settled → s.staging.watch = none →
      ∃ t,
        exec (.resetPort (freshFrame .a) (.fields ())) s = .next t
        ∧ t = { s with
            portA := t.portA, slots := t.slots, pool := { s.pool with owners := t.pool.owners, free := t.pool.free } }
        ∧ (∀ n, t.slot n = if (s.slot n).state = .filling then Slot.cleared true else s.slot n)
        ∧ s.Released t (s.slotNumbers.filter (fun n => decide ((s.slot n).state = .filling)))
        ∧ t.portA = { s.portA with
            state := .answering, buffer := [], held := none, busy := s.portA.busy.map (fun _ => false),
            answer := some (Answer.plain .ok), lastAnswer := some (Answer.plain .ok) }

/-- R126, R157, R166, R173, R181: RESET_PORT on Port R, in every state of the port (the light is rebalanced only where
a lease ended, log 24). -/
def Obligations.ResetPortREndsRadioSide : Prop :=
  ∀ s : State,
    s.portPowered .r = true → s.Settled → s.bs.deferTimer = none → s.alarmed = false → s.head.apWait = none →
      s.head.panelWait = none →
      ∃ t,
        exec (.resetPort (freshFrame .r) (.fields ())) s = .next t
        ∧ t.portR = { s.portR with
            state := .answering, buffer := [], held := none, busy := s.portR.busy.map (fun _ => false),
            answer := some (Answer.plain .ok), lastAnswer := some (Answer.plain .ok) }
        ∧ t.head.active = none ∧ t.head.parked = none ∧ t.head.unreleased = none
        ∧ t.staging.anyOpen = false ∧ t.staging.watch = none ∧ t.staging.queue = s.staging.queue
        ∧ t.notices = { s.notices with rm := List.replicate 5 none } ∧ t.pool.mem = s.pool.mem
        ∧ t.params = s.params ∧ t.slots = s.slots ∧ t.turn = s.turn ∧ t.panel = s.panel
        ∧ t.bs = s.bs ∧ t.portA = s.portA ∧ t.shares = s.shares ∧ t.now = s.now
        ∧ t.head.radio =
            (match s.head.active with | some l => ⟨s.head.radio.demand - l.mW, s.head.radio.grant - l.mW⟩ | none => s.head.radio)
        ∧ (s.head.active = none → t.light = s.light ∧ t.head.light = s.head.light)
        ∧ s.RingKept t

/-- R63, R90, R96, R133, R151, R165, R179: GET_PARAM and SET_PARAM; numbers 7 and 8 are the named parameters
default_partial and low_battery_fast. That a re-plan takes the engine back to UPDATING is the model's reading (log
16); that the re-planned update's band and plan are absent until the new planning ends is the model's choice (log 42),
and so is the feed's room as a planning begins (log 8). -/
def Obligations.ParametersAreSetAndRead : Prop :=
  (∀ (s : State) (n : Nat),
     s.Ready .a →
       (∀ row,
          paramRow n = some row →
            exec (.getParam (freshFrame .a) (.fields ⟨n⟩)) s =
              .next (s.replied .a ⟨.ok, .paramRow (s.params.get n) row.low row.high row.dflt⟩))
       ∧ (paramRow n = none →
            exec (.getParam (freshFrame .a) (.fields ⟨n⟩)) s = .next (s.refusedWith .a .badArgument))
       ∧ (paramRow n = none ↔ n = 0 ∨ 41 < n))
  ∧ (∀ (s : State) (n v : Nat),
       s.Ready .a → (n = 0 ∨ 41 < n ∨ ((n = 7 ∨ n = 8) ∧ 1 < v)) →
         exec (.setParam (freshFrame .a) (.fields ⟨n, v⟩)) s = .next (s.refusedWith .a .badArgument))
  ∧ (∀ (s : State) (n v : Nat) (row : ParamRow),
       s.Ready .a → paramRow n = some row → n ∉ [9, 18, 20, 21, 29, 38, 39] → ¬(n ∈ [7, 8] ∧ 1 < v) →
         exec (.setParam (freshFrame .a) (.fields ⟨n, v⟩)) s = .next { s.replied .a ⟨if row.low ≤ v ∧ v ≤ row.high then .ok else .clamped, .param n (min row.high (max row.low v))⟩ with
           params := s.params.set n (min row.high (max row.low v)) })
  ∧ (∀ (s : State) (n v : Nat) (row : ParamRow),
       s.Ready .a → paramRow n = some row → ¬(n ∈ [7, 8] ∧ 1 < v) →
         ∃ (t : State) (w : Nat),
           exec (.setParam (freshFrame .a) (.fields ⟨n, v⟩)) s = .next t
           ∧ w =
               (if n = 38 then
                  min (min row.high (max row.low v)) s.params.stagingMax
                else if n = 39 then
                  max (min row.high (max row.low v)) s.staging.ring.length
                else min row.high (max row.low v))
           ∧ t.portA = s.portA.replied ⟨if w = v then .ok else .clamped, .param n w⟩
           ∧ t.params =
               (if n = 39 then
                  { s.params.set n w with stagingFloor := min s.params.stagingFloor w }
                else s.params.set n w) ∧ t.pool.mem = s.pool.mem ∧ t.slots = s.slots
           ∧ t.shares = s.shares)
  ∧ (∀ (s t : State) (n v w : Nat) (row : ParamRow),
       s.Ready .a → paramRow n = some row → (n ≠ 38 → n ≠ 39 → w = min row.high (max row.low v)) →
         t = { s with params := s.params.set n w } →
         (n = 29 →
            exec (.setParam (freshFrame .a) (.fields ⟨n, v⟩)) s = .next { t.replied .a ⟨if w = v then .ok else .clamped, .param n w⟩ with
              bs := (if w < s.bs.q then { s.bs with q := w, r := 0 } else s.bs) })
         ∧ (n = 18 ∨ n = 20 ∨ n = 21 →
              ((s.params.get n = w ∨ s.lightComputes = false) →
                 exec (.setParam (freshFrame .a) (.fields ⟨n, v⟩)) s =
                   .next (t.replied .a ⟨if w = v then .ok else .clamped, .param n w⟩))
              ∧ (∀ g,
                   s.params.get n ≠ w → s.lightComputes = true → s.NoWaits →
                     g = min t.litDemand (s.head.ceiling - s.head.loads) →
                     exec (.setParam (freshFrame .a) (.fields ⟨n, v⟩)) s = .next { t.replied .a ⟨if w = v then .ok else .clamped, .param n w⟩ with
                       light := t.litAnew g, head := { s.head with light := ⟨t.litDemand, g⟩ } }))
         ∧ (n = 9 →
              ((s.panel.update = none ∨ s.turn.turn = none ∨ s.panel.ghost < w
                  ∨ (∃ u, s.panel.update = some u ∧ (u.phase = .driving ∨ u.mode = .full))) →
                 exec (.setParam (freshFrame .a) (.fields ⟨n, v⟩)) s =
                   .next (t.replied .a ⟨if w = v then .ok else .clamped, .param n w⟩))
              ∧ (∀ u x,
                   s.panel.update = some u → s.turn.turn = some x → u.phase ≠ .driving → u.mode ≠ .full →
                     w ≤ s.panel.ghost →
                     exec (.setParam (freshFrame .a) (.fields ⟨n, v⟩)) s = .next { t.replied .a ⟨if w = v then .ok else .clamped, .param n w⟩ with
                       turn := { s.turn with turn := some { x with mode := .full }, engine := .updating },
                       panel := { s.panel with
                         waitTimer := none,
                         update := some {
                           target := u.target, mode := .full, phase := .planning, band := none, plan := none,
                           frame := 0, tempRead := false, stopping := false, frameTimer := none } },
                       head := { s.head with
                         panelWait := none, panel := { s.head.panel with demand := s.head.panel.grant } },
                       pool := { s.pool with
                         feed := { shown := 0, target := 0, waveform := 0, room := true, lost := false } } }))
         ∧ (∀ y,
              n = 38 ∨ n = 39 →
                w =
                  (if n = 38 then
                     min (min row.high (max row.low v)) s.params.stagingMax
                   else max (min row.high (max row.low v)) s.staging.ring.length) →
                y = { s with
                  params := (if n = 39 then
                     { s.params.set n w with stagingFloor := min s.params.stagingFloor w }
                   else s.params.set n w) } →
                ((∀ k, s.staging.watch = some k → y.space < k) →
                   exec (.setParam (freshFrame .a) (.fields ⟨n, v⟩)) s =
                     .next (y.replied .a ⟨if w = v then .ok else .clamped, .param n w⟩))
                ∧ (∀ k,
                     s.staging.watch = some k → k ≤ y.space → s.bs.radio = true →
                       exec (.setParam (freshFrame .a) (.fields ⟨n, v⟩)) s = .next { y.replied .a ⟨if w = v then .ok else .clamped, .param n w⟩ with
                         staging := { s.staging with watch := none },
                         notices := { s.notices with rm := s.notices.rm.set 0 (some (.space y.space)) } })))

/-- R180: SHARE and READ_SHARED. -/
def Obligations.SharedItemsAreGrantedAndRead : Prop :=
  ((∀ (s : State) (i : ShareItem) (on : Bool),
      s.Ready .a →
        ∃ t,
          exec (.share (freshFrame .a) (.fields ⟨i, on⟩)) s = .next t
          ∧ t = { s.refusedWith .a .ok with shares := t.shares } ∧ t.shares.granted i = on
          ∧ ∀ j, j ≠ i → t.shares.granted j = s.shares.granted j)
   ∧ ∀ (s : State) (i : ShareItem),
       s.Ready .r →
         exec (.readShared (freshFrame .r) (.fields ⟨i⟩)) s =
           .next (if s.shares.granted i then
               s.replied .r ⟨.ok, .shared (s.sharedValue i)⟩
             else s.refusedWith .r .notPermitted))
  ∧ (∀ s : State,
       s.Ready .r →
         (s.shares.granted .battery = true →
            exec (.readShared (freshFrame .r) (.fields ⟨.battery⟩)) s =
              .next (s.replied .r ⟨.ok, .shared (.battery s.bs.percent s.bs.battery)⟩))
         ∧ (s.shares.granted .time = true →
              exec (.readShared (freshFrame .r) (.fields ⟨.time⟩)) s =
                .next (s.replied .r ⟨.ok, .shared (.time s.bs.time)⟩))
         ∧ (s.shares.granted .powerState = true →
              exec (.readShared (freshFrame .r) (.fields ⟨.powerState⟩)) s =
                .next (s.replied .r ⟨.ok, .shared (.power s.bs.power)⟩))
         ∧ (s.shares.granted .light = true →
              exec (.readShared (freshFrame .r) (.fields ⟨.light⟩)) s =
                .next (s.replied .r ⟨.ok, .shared (.light s.light.target)⟩)))

/-- R39, R68, R95, R112, R132, R150, R164, R171: the nine status requests answer OK with what their block holds and
change nothing else. -/
def Obligations.StatusRequestsChangeNothing : Prop :=
  ∀ s : State,
    s.Ready .a →
      exec (.listSlots (freshFrame .a) (.fields ())) s = .next (s.replied .a ⟨.ok, .slots s.slotList⟩)
      ∧ exec (.turnStatus (freshFrame .a) (.fields ())) s = .next (s.replied .a ⟨.ok, .turns s.turnView⟩)
      ∧ exec (.panelStatus (freshFrame .a) (.fields ())) s = .next (s.replied .a ⟨.ok, .panel s.panelView⟩)
      ∧ exec (.lightState (freshFrame .a) (.fields ())) s = .next (s.replied .a ⟨.ok, .light s.lightView⟩)
      ∧ exec (.headroomStatus (freshFrame .a) (.fields ())) s = .next (s.replied .a ⟨.ok, .headroom s.headroomView⟩)
      ∧ exec (.batteryStatus (freshFrame .a) (.fields ())) s = .next (s.replied .a ⟨.ok, .battery s.batteryView⟩)
      ∧ exec (.sleepStatus (freshFrame .a) (.fields ())) s = .next (s.replied .a ⟨.ok, .sleep s.sleepView⟩)
      ∧ exec (.stagingStatus (freshFrame .a) (.fields ())) s = .next (s.replied .a ⟨.ok, .staging s.stagingView⟩)
      ∧ exec (.peekNotices (freshFrame .a) (.fields ())) s =
          .next (s.replied .a ⟨.ok,
              .notices (s.notices.ap.map (fun n => ⟨n.pending, n.count, n.level, n.priority⟩)) s.params.wakeThreshold s.notices.wakeOut⟩)

/-- R175, R176, R182: reading a written frame gives its request back, for every request and every value its fields
admit. Where R182 leaves a code open the layout is the model's (log 25). -/
def Obligations.RequestFramesRoundTrip : Prop :=
  ∀ (q : Req) (p : Port) (awake : Bool),
    reqFits q = true →
      decodeFrame (encodeFrame q) = some (.request q)
      ∧ decodeWindow p awake (encodeFrame q) = requestInstr (freshFrame p) awake q
      ∧ requestOf (requestInstr (freshFrame p) awake q) = some q

/-- R7 to R12, R14, R15: a chunk grant and a burst of the panel feed. That a grant or a burst with nobody waiting, or
with nothing left to read, changes nothing is log 4; which source a burst reads and whether the row buffer then has
room come with the command (log 8). -/
def Obligations.ArbiterGrantsAndBursts : Prop :=
  ((∀ s : State, (s.pool.mode ≠ .active ∨ s.feedWaits = true) → exec .chunkGrant s = .next s)
   ∧ (∀ s : State, (∀ r, s.pool.waits r = false) → exec .chunkGrant s = .next s)
   ∧ (∀ (s : State) (r : Requester),
        s.pool.mode = .active → s.feedWaits = false → s.pool.waits r = true →
          (r = s.pool.pointer
           ∨ (s.pool.waits s.pool.pointer = false ∧ r = s.pool.pointer.next)
           ∨ (s.pool.waits s.pool.pointer = false ∧ s.pool.waits s.pool.pointer.next = false)) →
          (∀ w n e kept,
             r = .portA → s.pool.workA = some w → w.extents[w.pos / 16384]? = some e →
               kept = (decide (s.pool.owners[e]? = some w.owner) && !w.lost) →
               n = min 256 (min (w.stop - w.pos) (16384 - w.pos % 16384)) →
               exec .chunkGrant s = .next { s with
                 pool := { s.pool with
                   pointer := .portR,
                   workA := some { w with
                     pos := w.pos + n, data := w.data.drop n,
                     got := (if kept = true ∧ w.kind = .drain then
                        w.got ++ s.pool.mem.readBytes (e * 16384 + w.pos % 16384) n
                      else w.got),
                     lost := w.lost || !kept },
                   mem := (if kept = true ∧ w.kind.writes = true then
                      s.pool.mem.writeBytes (e * 16384 + w.pos % 16384) (w.data.take n)
                    else s.pool.mem) } })
          ∧ (∀ w n e kept,
               r = .portR → s.pool.workR = some w → w.extents[w.pos / 16384]? = some e →
                 kept = (decide (s.pool.owners[e]? = some w.owner) && !w.lost) →
                 n = min 256 (min (w.stop - w.pos) (16384 - w.pos % 16384)) →
                 exec .chunkGrant s = .next { s with
                   pool := { s.pool with
                     pointer := .verify,
                     workR := some { w with
                       pos := w.pos + n, data := w.data.drop n,
                       got := (if kept = true ∧ w.kind = .drain then
                          w.got ++ s.pool.mem.readBytes (e * 16384 + w.pos % 16384) n
                        else w.got),
                       lost := w.lost || !kept },
                     mem := (if kept = true ∧ w.kind.writes = true then
                        s.pool.mem.writeBytes (e * 16384 + w.pos % 16384) (w.data.take n)
                      else s.pool.mem) } })
          ∧ (∀ c rest n e kept,
               r = .verify → s.pool.scans = c :: rest →
                 n = min 256 (min (c.len - c.pos) (16384 - c.pos % 16384)) →
                 (s.slot c.slot).extents[c.pos / 16384]? = some e →
                 kept = (decide (s.pool.owners[e]? = some (.slot c.slot)) && !c.lost) →
                 exec .chunkGrant s = .next { s with
                   pool := { s.pool with
                     pointer := .portA,
                     scans := { c with pos := c.pos + n, check := (if kept = true then c.check.feed (s.pool.mem.readBytes (e * 16384 + c.pos % 16384) n) else c.check), lost := c.lost || !kept } :: rest } })))
  ∧ (∀ (s : State) (src : FeedSource) (room : Bool),
       ((s.pool.mode ≠ .active ∨ s.panel.update = none ∨ s.feedRemaining src = 0) →
          exec (.panelFeedBurst src room) s = .next s)
       ∧ (∀ u e kept left,
            s.panel.update = some u → s.pool.mode = .active → left = s.feedRemaining src → 0 < left →
              (∀ at',
                 src = .target → at' = (s.feedRows u u.target).1 + s.pool.feed.target →
                   (s.slot u.target).extents[at' / 16384]? = some e →
                   kept = (decide (s.pool.owners[e]? = some (.slot u.target)) && !s.pool.feed.lost) →
                   exec (.panelFeedBurst src room) s = .next { s with
                     pool := { s.pool with
                       feed := { s.pool.feed with
                         target := s.pool.feed.target + min 2048 (min left (16384 - at' % 16384)), room := room,
                         lost := s.pool.feed.lost || !kept } } })
              ∧ (∀ n at',
                   src = .shown → s.panel.shown = some n → at' = (s.feedRows u n).1 + s.pool.feed.shown →
                     (s.slot n).extents[at' / 16384]? = some e →
                     kept = (decide (s.pool.owners[e]? = some (.slot n)) && !s.pool.feed.lost) →
                     exec (.panelFeedBurst src room) s = .next { s with
                       pool := { s.pool with
                         feed := { s.pool.feed with
                           shown := s.pool.feed.shown + min 2048 (min left (16384 - at' % 16384)), room := room,
                           lost := s.pool.feed.lost || !kept } } })
              ∧ (∀ b at',
                   src = .waveform → u.band = some b →
                     at' = 1024 + 4096 * waveNumber u.mode b + 16 * s.pool.feed.waveform + u.frame / 4 →
                     waveExtents[at' / 16384]? = some e →
                     kept = (decide (s.pool.owners[e]? = some .waveform) && !s.pool.feed.lost) →
                     exec (.panelFeedBurst src room) s = .next { s with
                       pool := { s.pool with
                         feed := { s.pool.feed with
                           waveform := s.pool.feed.waveform + min left ((16384 - at' % 16384 + 15) / 16), room := room,
                           lost := s.pool.feed.lost || !kept } } })))

/-- R3, R4, R23, R26 to R28, R35: OPEN_SLOT with room at hand, and OPEN_SLOT and BLANK_SLOT of a key that a FILLING or
READY slot has (an EMPTY slot's length held as 0 is log 36). `State.FreeRecord` is the record R28 chooses. -/
def Obligations.OpenSlotTakesLowestFreeRecord : Prop :=
  (∀ (s : State) (x : OpenSlotArgs) (n k : Nat),
     s.Ready .a → s.staging.watch = none → 1 ≤ x.key.book → x.key.book ≤ 65535 → x.key.page ≤ 16777215 →
       1 ≤ x.length → x.length ≤ 1048576 → k = (x.length + 16383) / 16384 → k ≤ s.pool.free.length →
       s.slotOfKey x.key = none → (x.cls = .pinned → s.pinned < 8) → s.FreeRecord n →
       ∃ t,
         exec (.openSlot (freshFrame .a) (.fields x)) s = .next t
         ∧ t = { s with
             portA := s.portA.replied ⟨.ok, .opened n (s.pool.free.take k)⟩,
             pool := { s.pool with free := s.pool.free.drop k, owners := t.pool.owners },
             slots := { s.slots with slots := t.slots.slots, use := min 4294967295 (s.slots.use + 1) } }
         ∧ (∀ e,
              t.pool.owners[e]? =
                if e ∈ s.pool.free.take k ∧ e < s.pool.owners.length then some (.slot n) else s.pool.owners[e]?)
         ∧ t.slots.slots =
             s.slots.slots.set n {
               state := .filling, key := some x.key, cls := some x.cls, extents := s.pool.free.take k,
               declared := x.length, written := 0, reservation := true, fullRefresh := x.fullRefresh, edge := x.edge,
               age := s.slots.use, forget := false, lost := false })
  ∧ ((∀ (s : State) (x : OpenSlotArgs) (d k : Nat),
        s.Ready .a → s.staging.watch = none → 1 ≤ x.key.book → x.key.book ≤ 65535 → x.key.page ≤ 16777215 →
          1 ≤ x.length → x.length ≤ 1048576 → k = (x.length + 16383) / 16384 → s.slotOfKey x.key = some d →
          ((s.slot d).state = .filling ∨ (s.slot d).state = .ready) → s.panel.shown ≠ some d →
          s.panel.target ≠ some d → d < s.slots.slots.length →
          (x.cls = .pinned → (s.slot d).cls = some .pinned ∧ s.pinned ≤ 8 ∨ s.pinned < 8) →
          k ≤ s.pool.free.length + (s.heldBy [d]).length →
          ∃ u y : State,
            s.Released u [d]
            ∧ u = { s with
                pool := { s.pool with free := u.pool.free, owners := u.pool.owners },
                slots := { s.slots with
                  slots := s.slots.slots.set d (Slot.cleared false), rest := u.slots.rest, empty := u.slots.empty } }
            ∧ y = { u with
                portA := s.portA.replied ⟨.ok, .opened d (u.pool.free.take k)⟩,
                pool := { u.pool with free := u.pool.free.drop k, owners := y.pool.owners },
                slots := { u.slots with
                  use := min 4294967295 (s.slots.use + 1),
                  slots := u.slots.slots.set d {
                    state := .filling, key := some x.key, cls := some x.cls, extents := u.pool.free.take k,
                    declared := x.length, written := 0, reservation := true, fullRefresh := x.fullRefresh,
                    edge := x.edge, age := s.slots.use, forget := false, lost := false } } }
            ∧ (∀ e,
                 y.pool.owners[e]? =
                   if e ∈ u.pool.free.take k ∧ e < u.pool.owners.length then some (.slot d) else u.pool.owners[e]?)
            ∧ exec (.openSlot (freshFrame .a) (.fields x)) s = .next y)
     ∧ (∀ (s : State) (x : BlankSlotArgs) (d : Nat),
          s.Ready .a → s.staging.watch = none → 1 ≤ x.key.book → x.key.book ≤ 65535 → x.key.page ≤ 16777215 →
            x.level ≤ 15 → s.slotOfKey x.key = some d → ((s.slot d).state = .filling ∨ (s.slot d).state = .ready) →
            s.panel.shown ≠ some d → s.panel.target ≠ some d → d < s.slots.slots.length →
            (x.cls = .pinned → (s.slot d).cls = some .pinned ∧ s.pinned ≤ 8 ∨ s.pinned < 8) →
            1 ≤ s.pool.free.length + (s.heldBy [d]).length →
            ∃ u y : State,
              s.Released u [d]
              ∧ u = { s with
                  pool := { s.pool with free := u.pool.free, owners := u.pool.owners },
                  slots := { s.slots with
                    slots := s.slots.slots.set d (Slot.cleared false), rest := u.slots.rest, empty := u.slots.empty } }
              ∧ y = { u with
                  portA := s.portA.working,
                  pool := { u.pool with
                    free := u.pool.free.drop 1, owners := y.pool.owners,
                    workA := some {
                      kind := .blankSlot d, owner := .slot d, extents := u.pool.free.take 1, pos := 0, stop := 30,
                      data := blankImage x.level, got := [], lost := false } },
                  slots := { u.slots with
                    use := min 4294967295 (s.slots.use + 1),
                    slots := u.slots.slots.set d {
                      state := .verifying, key := some x.key, cls := some x.cls, extents := u.pool.free.take 1,
                      declared := 30, written := 30, reservation := false, fullRefresh := false, edge := none,
                      age := s.slots.use, forget := false, lost := false } } }
              ∧ (∀ e,
                   y.pool.owners[e]? =
                     if e ∈ u.pool.free.take 1 ∧ e < u.pool.owners.length then some (.slot d) else u.pool.owners[e]?)
              ∧ exec (.blankSlot (freshFrame .a) (.fields x)) s = .next y))

/-- R24, R26, R27, R35: refusals of OPEN_SLOT and BLANK_SLOT change nothing. -/
def Obligations.OpenRefusalsChangeNothing : Prop :=
  ∀ (s : State) (x : OpenSlotArgs) (y : BlankSlotArgs),
    s.Ready .a → y.key = x.key → y.cls = x.cls →
      (¬(1 ≤ x.key.book ∧ x.key.book ≤ 65535 ∧ x.key.page ≤ 16777215 ∧ 1 ≤ x.length ∧ x.length ≤ 1048576) →
         exec (.openSlot (freshFrame .a) (.fields x)) s = .next (s.refusedWith .a .badArgument))
      ∧ (¬(1 ≤ x.key.book ∧ x.key.book ≤ 65535 ∧ x.key.page ≤ 16777215 ∧ y.level ≤ 15) →
           exec (.blankSlot (freshFrame .a) (.fields y)) s = .next (s.refusedWith .a .badArgument))
      ∧ ((1 ≤ x.key.book ∧ x.key.book ≤ 65535 ∧ x.key.page ≤ 16777215 ∧ 1 ≤ x.length ∧ x.length ≤ 1048576
            ∧ y.level ≤ 15) →
           (∀ d,
              s.slotOfKey x.key = some d →
                s.panel.shown = some d ∨ s.panel.target = some d ∨ (s.slot d).state = .verifying →
                exec (.openSlot (freshFrame .a) (.fields x)) s = .next (s.refusedWith .a .inUse)
                ∧ exec (.blankSlot (freshFrame .a) (.fields y)) s = .next (s.refusedWith .a .inUse))
           ∧ (s.slotOfKey x.key = none → x.cls = .pinned → 8 ≤ s.pinned →
                exec (.openSlot (freshFrame .a) (.fields x)) s = .next (s.refusedWith .a .refusedState)
                ∧ exec (.blankSlot (freshFrame .a) (.fields y)) s = .next (s.refusedWith .a .refusedState))
           ∧ (s.slotOfKey x.key = none → x.cls ≠ .pinned →
                (∀ n < s.slots.slots.length,
                   (s.slot n).state = .ready →
                     (s.slot n).cls = some .pinned ∨ s.panel.shown = some n ∨ s.panel.target = some n) →
                ((∀ n < s.slots.slots.length, (s.slot n).state ≠ .empty) →
                   exec (.openSlot (freshFrame .a) (.fields x)) s = .next (s.refusedWith .a .noSlot)
                   ∧ exec (.blankSlot (freshFrame .a) (.fields y)) s = .next (s.refusedWith .a .noSlot))
                ∧ ((∃ n < s.slots.slots.length, (s.slot n).state = .empty) →
                     s.pool.free.length < (x.length + 16383) / 16384 →
                     exec (.openSlot (freshFrame .a) (.fields x)) s = .next (s.refusedWith .a .noSpace))))

/-- R29, R30, R40: WRITE_SLOT begins Port A memory work; its end counts the bytes or answers LOST. That a reservation
broken after the last chunk was carried out leaves the answer OK is log 7. -/
def Obligations.WriteSlotStoresAndCounts : Prop :=
  (∀ (s : State) (x : WriteSlotArgs),
     s.Ready .a →
       (x.slot ≤ 23 → 1 ≤ x.payload.length → x.payload.length ≤ 4096 →
          ((s.slot x.slot).state = .filling → (s.slot x.slot).reservation = true →
             (x.offset = (s.slot x.slot).written → x.offset + x.payload.length ≤ (s.slot x.slot).declared →
                exec (.writeSlot (freshFrame .a) (.fields x)) s = .next { s.workingOn .a with
                  pool := { s.pool with
                    workA := some {
                      kind := .writeSlot x.slot x.payload.length, owner := .slot x.slot,
                      extents := (s.slot x.slot).extents, pos := x.offset, stop := x.offset + x.payload.length,
                      data := x.payload, got := [], lost := false } } })
             ∧ (x.offset = (s.slot x.slot).written → (s.slot x.slot).declared < x.offset + x.payload.length →
                  exec (.writeSlot (freshFrame .a) (.fields x)) s = .next (s.refusedWith .a .badArgument))
             ∧ (x.offset ≠ (s.slot x.slot).written →
                  exec (.writeSlot (freshFrame .a) (.fields x)) s = .next (s.refusedWith .a .badOffset)))
          ∧ ((s.slot x.slot).state = .empty →
               exec (.writeSlot (freshFrame .a) (.fields x)) s =
                 .next (s.refusedWith .a (if (s.slot x.slot).lost then .lost else .refusedState)))
          ∧ ((s.slot x.slot).state = .verifying ∨ (s.slot x.slot).state = .ready →
               exec (.writeSlot (freshFrame .a) (.fields x)) s = .next (s.refusedWith .a .refusedState)))
       ∧ (¬(x.slot ≤ 23 ∧ 1 ≤ x.payload.length ∧ x.payload.length ≤ 4096) →
            exec (.writeSlot (freshFrame .a) (.fields x)) s = .next (s.refusedWith .a .badArgument)))
  ∧ (∀ (s : State) (w : Work) (n len : Nat),
       s.pool.workA = some w → w.kind = .writeSlot n len → w.stop ≤ w.pos → s.portA.busy = some true →
         s.portA.held = none →
         ((s.slot n).state = .filling → (s.slot n).reservation = true → w.lost = false →
            exec .writeSlotEnd s = .next { s with
              pool := { s.pool with workA := none },
              slots := { s.slots with slots := s.slots.slots.set n { s.slot n with written := (s.slot n).written + len } },
              portA := s.portA.answered ⟨.ok, .written ((s.slot n).written + len)⟩ })
         ∧ (¬((s.slot n).state = .filling ∧ (s.slot n).reservation = true) → w.lost = false →
              exec .writeSlotEnd s = .next { s with
                pool := { s.pool with workA := none }, portA := s.portA.answered ⟨.ok, .written w.stop⟩ })
         ∧ (w.lost = true →
              exec .writeSlotEnd s = .next { s with pool := { s.pool with workA := none }, portA := s.portA.answered (Answer.plain .lost) }))

/-- R16 to R20, R31 to R33, R183: COMMIT_SLOT starts a verify scan; its end makes the slot READY, rejects it or
forgets it, with no miss waiting for its page (a page that is waited for is in TouchAndMissWaitRaise). Scans wait
their turn in order, and a span that breaks several conditions of R20 fails for the first of the rule's table (log 9).
-/
def Obligations.CommitVerifiesThenSettlesSlot : Prop :=
  (∀ (s : State) (n : Nat),
     s.Ready .a → s.staging.watch = none →
       (n ≤ 23 → (s.slot n).state = .filling → (s.slot n).reservation = true →
          (s.slot n).declared ≤ (s.slot n).written →
          exec (.commitSlot (freshFrame .a) (.fields ⟨n⟩)) s = .next { s.refusedWith .a .accepted with
            slots := { s.slots with
              slots := s.slots.slots.set n { s.slot n with state := .verifying, reservation := false } },
            pool := { s.pool with scans := s.pool.scans ++ [⟨n, 0, (s.slot n).written, ImageCheck.init, false⟩] } })
       ∧ (n ≤ 23 → (s.slot n).state = .filling → (s.slot n).reservation = true →
            (s.slot n).written < (s.slot n).declared →
            exec (.commitSlot (freshFrame .a) (.fields ⟨n⟩)) s = .next (s.refusedWith .a .badArgument))
       ∧ (23 < n → exec (.commitSlot (freshFrame .a) (.fields ⟨n⟩)) s = .next (s.refusedWith .a .badArgument))
       ∧ (n ≤ 23 → (s.slot n).state ≠ .filling →
            exec (.commitSlot (freshFrame .a) (.fields ⟨n⟩)) s =
              .next (s.refusedWith .a (if (s.slot n).state = .empty ∧ (s.slot n).lost = true then .lost else .refusedState))))
  ∧ (∀ (s : State) (c : Scan) (rest : List Scan),
       s.pool.scans = c :: rest → s.bs.ap = .on → s.Settled → s.staging.watch = none →
         (∀ m, s.turn.miss = some m → (s.slot c.slot).key ≠ some m.key) → c.slot < s.slots.slots.length →
         (c.len ≤ c.pos ∨ c.check.stopped = true) →
         ((s.slot c.slot).forget = false → c.check.result = none →
            exec .verifyScanEnd s = .next { s with
              pool := { s.pool with scans := rest },
              slots := { s.slots with
                slots := s.slots.slots.set c.slot { s.slot c.slot with state := .ready, age := s.slots.use },
                use := min 4294967295 (s.slots.use + 1) } })
         ∧ (∀ k why,
              (s.slot c.slot).forget = false → c.check.result = some why → (s.slot c.slot).key = some k →
                ∃ t,
                  exec .verifyScanEnd s = .next t
                  ∧ t = { s with
                      pool := { s.pool with owners := t.pool.owners, free := t.pool.free, scans := rest },
                      slots := t.slots, notices := t.notices }
                  ∧ t.slots.slots = s.slots.slots.set c.slot (Slot.cleared false)
                  ∧ s.Released t [c.slot]
                  ∧ t.notices = { s.notices with ap := s.notices.ap.modify 13 (fun n => n.raised (.slotRejected c.slot k why)) })
         ∧ ((s.slot c.slot).forget = true →
              ∃ t,
                exec .verifyScanEnd s = .next t
                ∧ t = { s with
                    pool := { s.pool with owners := t.pool.owners, free := t.pool.free, scans := rest },
                    slots := t.slots }
                ∧ t.slots.slots = s.slots.slots.set c.slot (Slot.cleared false) ∧ s.Released t [c.slot]))
  ∧ ((∀ bs, checkImage bs = imageFault 0 0 bs)
     ∧ (∀ (c : ImageCheck) (xs ys : List Byte), c.feed (xs ++ ys) = (c.feed xs).feed ys)
     ∧ ∀ (r c : Nat) (rest : List Byte),
         imageFault r c [] = some .rowCount
         ∧ (∀ (n : Nat) (z : Option ImageFault),
              z =
                  (if 1600 ≤ r then
                     some .rowCount
                   else if 1200 < c + n then
                     some .rowLength
                   else if c + n = 1200 then imageFault (r + 1) 0 rest else imageFault r (c + n) rest) →
                (∀ a b : Byte,
                   a.toNat < 64 → n = 256 * (a.toNat % 4) + b.toNat + 1 → imageFault r c (a :: b :: rest) = z)
                ∧ (∀ (b : Byte) (levels : List Byte),
                     1 ≤ b.toNat → b.toNat ≤ 64 → n = b.toNat → levels.length = (n + 1) / 2 →
                       imageFault r c (0x80#8 :: b :: levels ++ rest) = z))
         ∧ (∀ a : Byte,
              64 ≤ a.toNat → a.toNat < 128 →
                imageFault r c (a :: rest) =
                  if c ≠ 0 ∨ r = 0 then
                    some .badSpan
                  else if 1600 < r + (a.toNat - 63) then some .rowCount else imageFault (r + (a.toNat - 63)) 0 rest)
         ∧ (imageFault r c (0xC0#8 :: rest) =
              if c ≠ 0 then
                some .rowLength
              else if r < 1600 then some .rowCount else if rest = [] then none else some .trailingBytes)
         ∧ (∀ a : Byte, 128 < a.toNat → a.toNat ≠ 192 → imageFault r c (a :: rest) = some .badSpan)
         ∧ (∀ b : Byte, b.toNat = 0 ∨ 64 < b.toNat → imageFault r c (0x80#8 :: b :: rest) = some .badSpan)
         ∧ (∀ a : Byte, a.toNat < 64 → imageFault r c [a] = some .badSpan) ∧ imageFault r c [0x80#8] = some .badSpan
         ∧ (∀ b : Byte,
              1 ≤ b.toNat → b.toNat ≤ 64 → rest.length < (b.toNat + 1) / 2 →
                imageFault r c (0x80#8 :: b :: rest) = some .badSpan))
  ∧ ((∀ bs, imageRows bs = rowsAfter [] [] bs)
     ∧ ∀ (done : List (List Nat)) (cur : List Nat) (rest : List Byte),
         rowsAfter done cur [] = done
         ∧ (∀ (px : List Nat) (z : List (List Nat)),
              cur.length + px.length ≤ 1200 →
                z =
                  (if cur.length + px.length = 1200 then
                     rowsAfter (done ++ [cur ++ px]) [] rest
                   else rowsAfter done (cur ++ px) rest) →
                (∀ a b : Byte,
                   a.toNat < 64 → px = List.replicate (256 * (a.toNat % 4) + b.toNat + 1) (a.toNat / 4) →
                     rowsAfter done cur (a :: b :: rest) = z)
                ∧ (∀ (b : Byte) (levels : List Byte),
                     1 ≤ b.toNat → b.toNat ≤ 64 → levels.length = (b.toNat + 1) / 2 →
                       px = (levels.flatMap (fun x => [x.toNat / 16, x.toNat % 16])).take b.toNat →
                       rowsAfter done cur (0x80#8 :: b :: levels ++ rest) = z))
         ∧ (∀ (a : Byte) (row : List Nat),
              64 ≤ a.toNat → a.toNat < 128 → done.getLast? = some row →
                rowsAfter done [] (a :: rest) = rowsAfter (done ++ List.replicate (a.toNat - 63) row) [] rest)
         ∧ rowsAfter done cur (0xC0#8 :: rest) = rowsAfter done cur rest)

/-- R34: CANCEL_SLOT. -/
def Obligations.CancelSlotAnswersByState : Prop :=
  ∀ (s : State) (n : Nat),
    s.Ready .a →
      (23 < n → exec (.cancelSlot (freshFrame .a) (.fields ⟨n⟩)) s = .next (s.refusedWith .a .badArgument))
      ∧ (n ≤ 23 → (s.slot n).state = .filling → s.staging.watch = none →
           ∃ t,
             exec (.cancelSlot (freshFrame .a) (.fields ⟨n⟩)) s = .next t
             ∧ t = { s.refusedWith .a .ok with
                 slots := t.slots, pool := { s.pool with owners := t.pool.owners, free := t.pool.free } }
             ∧ t.slots.slots = s.slots.slots.set n (Slot.cleared false) ∧ s.Released t [n])
      ∧ (n ≤ 23 → (s.slot n).state = .empty → (s.slot n).lost = true →
           exec (.cancelSlot (freshFrame .a) (.fields ⟨n⟩)) s = .next { s.refusedWith .a .lost with
             slots := { s.slots with slots := s.slots.slots.set n { s.slot n with lost := false } } })
      ∧ (n ≤ 23 →
           ((s.slot n).state = .empty ∧ (s.slot n).lost = false ∨ (s.slot n).state = .verifying
            ∨ (s.slot n).state = .ready) →
           exec (.cancelSlot (freshFrame .a) (.fields ⟨n⟩)) s = .next (s.refusedWith .a .refusedState))

/-- R23, R28, R35, R183: BLANK_SLOT with room at hand, and the end of its writing. -/
def Obligations.BlankSlotMakesPage : Prop :=
  (∀ (s : State) (x : BlankSlotArgs) (n : Nat),
     s.Ready .a → s.staging.watch = none → 1 ≤ x.key.book → x.key.book ≤ 65535 → x.key.page ≤ 16777215 →
       x.level ≤ 15 → 1 ≤ s.pool.free.length → s.slotOfKey x.key = none → (x.cls = .pinned → s.pinned < 8) →
       s.FreeRecord n →
       ∃ t,
         exec (.blankSlot (freshFrame .a) (.fields x)) s = .next t
         ∧ t = { s.workingOn .a with
             pool := { s.pool with free := s.pool.free.drop 1, owners := t.pool.owners, workA := t.pool.workA },
             slots := { s.slots with slots := t.slots.slots, use := min 4294967295 (s.slots.use + 1) } }
         ∧ t.slots.slots =
             s.slots.slots.set n {
               state := .verifying, key := some x.key, cls := some x.cls, extents := s.pool.free.take 1, declared := 30,
               written := 30, reservation := false, fullRefresh := false, edge := none, age := s.slots.use,
               forget := false, lost := false }
         ∧ (∀ e,
              t.pool.owners[e]? =
                if e ∈ s.pool.free.take 1 ∧ e < s.pool.owners.length then some (.slot n) else s.pool.owners[e]?)
         ∧ t.pool.workA =
             some {
               kind := .blankSlot n, owner := .slot n, extents := s.pool.free.take 1, pos := 0, stop := 30,
               data := [BitVec.ofNat 8 (4 * x.level + 3), 0xFF#8, BitVec.ofNat 8 (4 * x.level), 0xAF#8] ++ List.replicate 24 0x7F#8 ++ [0x7E#8, 0xC0#8],
               got := [], lost := false })
  ∧ (∀ (s : State) (w : Work) (n : Nat),
       s.pool.workA = some w → w.kind = .blankSlot n → w.stop ≤ w.pos → s.portA.held = none → s.Settled →
         s.staging.watch = none → (∀ m, s.turn.miss = some m → (s.slot n).key ≠ some m.key) →
         n < s.slots.slots.length → (s.slot n).forget = false →
         exec .blankSlotWriteEnd s = .next { s with
           pool := { s.pool with workA := none },
           slots := { s.slots with
             slots := s.slots.slots.set n { s.slot n with state := .ready, age := s.slots.use },
             use := min 4294967295 (s.slots.use + 1) },
           portA := s.portA.answered ⟨.ok, .slot n⟩ })

/-- R24, R36, R37: SET_CLASS and DESIGNATE. -/
def Obligations.ClassAndDesignationRequests : Prop :=
  (∀ (s : State) (n : Nat) (c : Cls),
     s.Ready .a → s.staging.watch = none →
       (n ≤ 23 → (s.slot n).state ≠ .empty → ¬(c = .pinned ∧ (s.slot n).cls ≠ some .pinned ∧ 8 ≤ s.pinned) →
          exec (.setClass (freshFrame .a) (.fields ⟨n, c⟩)) s = .next { s.refusedWith .a .ok with
            slots := { s.slots with
              slots := s.slots.slots.set n { s.slot n with cls := some c },
              rest := if c ≠ .pinned ∧ s.slots.rest = some n then none else s.slots.rest,
              empty := if c ≠ .pinned ∧ s.slots.empty = some n then none else s.slots.empty } })
       ∧ (n ≤ 23 → (s.slot n).state ≠ .empty → c = .pinned → (s.slot n).cls ≠ some .pinned → 8 ≤ s.pinned →
            exec (.setClass (freshFrame .a) (.fields ⟨n, c⟩)) s = .next (s.refusedWith .a .refusedState))
       ∧ (n ≤ 23 → (s.slot n).state = .empty →
            exec (.setClass (freshFrame .a) (.fields ⟨n, c⟩)) s = .next (s.refusedWith .a .refusedState))
       ∧ (23 < n → exec (.setClass (freshFrame .a) (.fields ⟨n, c⟩)) s = .next (s.refusedWith .a .badArgument)))
  ∧ (∀ (s : State) (n : Nat),
       s.Ready .a →
         exec (.designate (freshFrame .a) (.fields ⟨.rest, none⟩)) s = .next { s.refusedWith .a .ok with slots := { s.slots with rest := none } }
         ∧ exec (.designate (freshFrame .a) (.fields ⟨.empty, none⟩)) s = .next { s.refusedWith .a .ok with slots := { s.slots with empty := none } }
         ∧ (n ≤ 23 → (s.slot n).cls = some .pinned → (s.slot n).state = .ready →
              exec (.designate (freshFrame .a) (.fields ⟨.rest, some n⟩)) s = .next { s.refusedWith .a .ok with slots := { s.slots with rest := some n } }
              ∧ exec (.designate (freshFrame .a) (.fields ⟨.empty, some n⟩)) s = .next { s.refusedWith .a .ok with slots := { s.slots with empty := some n } })
         ∧ ∀ d,
             (n ≤ 23 → ¬((s.slot n).cls = some .pinned ∧ (s.slot n).state = .ready) →
                exec (.designate (freshFrame .a) (.fields ⟨d, some n⟩)) s = .next (s.refusedWith .a .refusedState))
             ∧ (23 < n →
                  exec (.designate (freshFrame .a) (.fields ⟨d, some n⟩)) s = .next (s.refusedWith .a .badArgument)))

/-- R4, R25, R38: FORGET (the order in which it empties slots, which shows in the free list, is log 30). -/
def Obligations.ForgetEmptiesMatchingSlots : Prop :=
  ∀ (s : State) (x : ForgetArgs),
    s.Ready .a →
      (forgetInRange x = true → s.staging.watch = none →
         ∃ t,
           exec (.forget (freshFrame .a) (.fields x)) s = .next t
           ∧ t = { s with
               portA := t.portA, slots := { t.slots with use := s.slots.use },
               pool := { s.pool with owners := t.pool.owners, free := t.pool.free } }
           ∧ (∀ n,
                t.slot n =
                  if (s.slot n).matchesForget x = true ∧ s.hasRole n = false then
                    (match (s.slot n).state with | .ready => Slot.cleared false | .filling => Slot.cleared true | .verifying => { s.slot n with forget := true } | .empty => s.slot n)
                  else s.slot n)
           ∧ s.Released t (s.slotNumbers.filter (fun n => (s.slot n).matchesForget x && !s.hasRole n && decide ((s.slot n).state ≠ .verifying)))
           ∧ ∃ forgotten skipped,
               t.portA = s.portA.replied ⟨.ok, .forgot forgotten skipped⟩
               ∧ forgotten + skipped = s.slots.slots.countP (fun r => r.matchesForget x)
               ∧ skipped = s.slotNumbers.countP (fun n => (s.slot n).matchesForget x && s.hasRole n))
      ∧ (¬(1 ≤ x.book ∧ x.book ≤ 65535 ∧ ∀ a b, x.range = some (a, b) → a ≤ b ∧ b ≤ 16777215) →
           exec (.forget (freshFrame .a) (.fields x)) s = .next (s.refusedWith .a .badArgument))

/-- R27, R42, R43: what an eviction or a staging reclaim may take. -/
def Obligations.EvictionSparesProtectedSlots : Prop :=
  (∀ (s t : State) (x : OpenSlotArgs) (y : BlankSlotArgs) (m : Nat),
     s.Ready .a → (s.slot m).state ≠ .empty →
       (s.slot m).cls = some .pinned ∨ s.panel.shown = some m ∨ s.panel.target = some m
       ∨ (s.slot m).state = .verifying ∨ (s.slot m).state = .filling →
       (s.slotOfKey x.key ≠ some m → exec (.openSlot (freshFrame .a) (.fields x)) s = .next t → t.slot m = s.slot m)
       ∧ (s.slotOfKey y.key ≠ some m → exec (.blankSlot (freshFrame .a) (.fields y)) s = .next t →
            t.slot m = s.slot m))
  ∧ ∀ (s t : State) (x : PutBlockArgs) (m : Nat),
      s.Ready .r → (s.slot m).state ≠ .empty →
        (s.slot m).cls ≠ some .streamed ∨ s.panel.shown = some m ∨ s.panel.target = some m
        ∨ (s.slot m).state = .verifying →
        exec (.putBlock (freshFrame .r) (.fields x)) s = .next t →
        t.slot m = s.slot m

/-- R22, R23, R27, R28, R42, R67, R155, R156: the order in which an opening and a staging reclaim take their victims,
and what one victim comes to. -/
def Obligations.EvictionFollowsItsOrder : Prop :=
  (∀ (s t : State) (x : OpenSlotArgs) (y : BlankSlotArgs) (a b : Nat),
     s.Ready .a → a < s.slots.slots.length → b < s.slots.slots.length → (s.slot a).state = .ready →
       (s.slot b).state = .ready → s.panel.shown ≠ some a → s.panel.target ≠ some a →
       (((s.slot a).cls = some .streamed ∧ (s.slot b).cls = some .retained)
        ∨ (((s.slot a).cls = some .streamed ∨ (s.slot a).cls = some .retained) ∧ (s.slot b).cls = (s.slot a).cls
           ∧ (s.slot a).age < (s.slot b).age)) →
       (s.slotOfKey x.key ≠ some a → s.slotOfKey x.key ≠ some b →
          exec (.openSlot (freshFrame .a) (.fields x)) s = .next t → t.slot a = s.slot a →
          t.slot b = s.slot b)
       ∧ (s.slotOfKey y.key ≠ some a → s.slotOfKey y.key ≠ some b →
            exec (.blankSlot (freshFrame .a) (.fields y)) s = .next t → t.slot a = s.slot a →
            t.slot b = s.slot b))
  ∧ (∀ (s : State) (x : OpenSlotArgs) (v r k : Nat) (vk : PageKey),
       s.Ready .a → s.staging.watch = none → 1 ≤ x.key.book → x.key.book ≤ 65535 → x.key.page ≤ 16777215 →
         1 ≤ x.length → x.length ≤ 1048576 → k = (x.length + 16383) / 16384 → s.slotOfKey x.key = none →
         (x.cls = .pinned → s.pinned < 8) → v < s.slots.slots.length → (s.slot v).state = .ready →
         (s.slot v).key = some vk → s.panel.shown ≠ some v → s.panel.target ≠ some v →
         (((s.slot v).cls = some .streamed
           ∧ ∀ m < s.slots.slots.length,
               m ≠ v → (s.slot m).state = .ready → (s.slot m).cls = some .streamed → s.panel.shown ≠ some m →
                 s.panel.target ≠ some m →
                 (s.slot v).age < (s.slot m).age)
          ∨ ((s.slot v).cls = some .retained
             ∧ (∀ m < s.slots.slots.length,
                  (s.slot m).state = .ready → (s.slot m).cls = some .streamed →
                    s.panel.shown = some m ∨ s.panel.target = some m)
             ∧ ∀ m < s.slots.slots.length,
                 m ≠ v → (s.slot m).state = .ready → (s.slot m).cls = some .retained → s.panel.shown ≠ some m →
                   s.panel.target ≠ some m →
                   (s.slot v).age < (s.slot m).age)) →
         ((∀ m < s.slots.slots.length, (s.slot m).state ≠ .empty) ∨ s.pool.free.length < k) →
         k ≤ s.pool.free.length + (s.heldBy [v]).length →
         ((r = v ∧ ∀ m < s.slots.slots.length, (s.slot m).state ≠ .empty) ∨ s.FreeRecord r) →
         ∃ u y : State,
           s.Released u [v]
           ∧ u = { s with
               pool := { s.pool with free := u.pool.free, owners := u.pool.owners },
               slots := { s.slots with
                 slots := s.slots.slots.set v (Slot.cleared false), rest := u.slots.rest, empty := u.slots.empty } }
           ∧ y = { u with
               portA := s.portA.replied ⟨.ok, .opened r (u.pool.free.take k)⟩,
               pool := { u.pool with free := u.pool.free.drop k, owners := y.pool.owners },
               slots := { u.slots with
                 use := min 4294967295 (s.slots.use + 1),
                 slots := u.slots.slots.set r {
                   state := .filling, key := some x.key, cls := some x.cls, extents := u.pool.free.take k,
                   declared := x.length, written := 0, reservation := true, fullRefresh := x.fullRefresh,
                   edge := x.edge, age := s.slots.use, forget := false, lost := false } } }
           ∧ (∀ e,
                y.pool.owners[e]? =
                  if e ∈ u.pool.free.take k ∧ e < u.pool.owners.length then some (.slot r) else u.pool.owners[e]?)
           ∧ exec (.openSlot (freshFrame .a) (.fields x)) s =
               .next (if s.panel.shownKey.map PageKey.book = some vk.book then y.refill else y))
  ∧ (∀ (s : State) (x : PutBlockArgs) (st : Stream),
       s.Ready .r → s.NoWake .refillWanted → s.head.alarm = none → s.staging.watch = none →
         (x.stream = 1 ∨ x.stream = 2) → 1 ≤ x.payload.length → x.payload.length ≤ 4096 →
         s.staging.stream x.stream = some st → st.state = .open → st.exhausted = false → x.sequence = st.next →
         (x.first = true ↔ x.sequence = 0) →
         (∀ n,
            st.total = some n →
              st.accepted + x.payload.length ≤ n ∧ (x.last = true → st.accepted + x.payload.length = n)) →
         s.pool.free = [] → s.staging.ring.length < s.params.stagingFloor →
         (s.staging.write = none ∨ ∃ w, s.staging.write = some w ∧ 16384 < w.offset + x.payload.length) →
         ((∀ m < s.slots.slots.length,
               (s.slot m).cls = some .streamed → (s.slot m).state = .ready ∨ (s.slot m).state = .filling →
                 s.panel.shown = some m ∨ s.panel.target = some m) →
            exec (.putBlock (freshFrame .r) (.fields x)) s = .next (s.refusedWith .r .full))
         ∧ (∀ (v e : Nat) (rest : List Nat) (vk : PageKey) (pl past : RingPos) (es : List Nat),
              v < s.slots.slots.length → (s.slot v).key = some vk → (s.slot v).cls = some .streamed →
                s.panel.shown ≠ some v → s.panel.target ≠ some v →
                (((s.slot v).state = .ready
                  ∧ ∀ m < s.slots.slots.length,
                      m ≠ v → (s.slot m).state = .ready → (s.slot m).cls = some .streamed →
                        s.panel.shown ≠ some m → s.panel.target ≠ some m →
                        (s.slot v).age < (s.slot m).age)
                 ∨ ((s.slot v).state = .filling
                    ∧ (∀ m < s.slots.slots.length,
                         (s.slot m).state = .ready → (s.slot m).cls = some .streamed →
                           s.panel.shown = some m ∨ s.panel.target = some m)
                    ∧ ∀ m < s.slots.slots.length,
                        m ≠ v → (s.slot m).state = .filling → (s.slot m).cls = some .streamed →
                          s.panel.shown ≠ some m → s.panel.target ≠ some m →
                          (s.slot v).age < (s.slot m).age)) →
                s.heldBy [v] = e :: rest →
                (((s.staging.write = none ∨ ∃ w, s.staging.write = some w ∧ w.offset = 16384) ∧ pl = ⟨e, 0⟩
                  ∧ past = ⟨e, x.payload.length⟩ ∧ es = [e])
                 ∨ (∃ w pre,
                      s.staging.write = some w ∧ w.offset < 16384 ∧ s.staging.ring = pre ++ [w.extent]
                      ∧ w.extent ∉ pre ∧ pl = w
                      ∧ past = ⟨e, w.offset + x.payload.length - 16384⟩ ∧ es = [w.extent, e])) →
                ∃ u y : State,
                  s.Released u [v]
                  ∧ u = { s with
                      pool := { s.pool with free := u.pool.free, owners := u.pool.owners },
                      slots := { s.slots with
                        slots := s.slots.slots.set v (Slot.cleared (decide ((s.slot v).state = .filling))),
                        rest := u.slots.rest, empty := u.slots.empty } }
                  ∧ y = { u with
                      portR := s.portR.working,
                      pool := { u.pool with
                        free := rest, owners := u.pool.owners.set e .staging,
                        workR := some ⟨.putBlock, .staging, es, pl.offset, pl.offset + x.payload.length, x.payload, [],
                          false⟩ },
                      staging := { s.staging with
                        ring := s.staging.ring ++ [e], write := some past,
                        writing := some ⟨x.stream, x.sequence, x.first, x.last, x.payload.length, pl⟩ } }
                  ∧ exec (.putBlock (freshFrame .r) (.fields x)) s =
                      .next (if s.panel.shownKey.map PageKey.book = some vk.book then y.refill else y)))

/-- R51, R53 to R56, R58 to R62, R78: TURN, a GOTO taken at once by the IDLE engine, and a run of STEP entries taken
when a miss wait expires. That a collapsed run has the origin of its first entry is the model's reading (log 17). -/
def Obligations.TurnIsQueuedAndTaken : Prop :=
  (∀ (s : State) (x : TurnArgs),
     s.Ready .a →
       ((∃ k, x.kind = .goto k ∧ ¬(1 ≤ k.book ∧ k.book ≤ 65535 ∧ k.page ≤ 16777215)) →
          exec (.turn (freshFrame .a) (.fields x)) s = .next (s.refusedWith .a .badArgument))
       ∧ ((∀ k, x.kind = .goto k → 1 ≤ k.book ∧ k.book ≤ 65535 ∧ k.page ≤ 16777215) → s.Settled →
            (8 ≤ s.turn.queue.length →
               exec (.turn (freshFrame .a) (.fields x)) s = .next { s.refusedWith .a .full with
                 notices := { s.notices with ap := s.notices.ap.modify 15 (fun n => n.raised (.turnOverrun .portA x.kind)) } })
            ∧ (s.turn.queue.length < 8 → s.turn.engine ≠ .idle →
                 exec (.turn (freshFrame .a) (.fields x)) s = .next { s.refusedWith .a .ok with
                   turn := { s.turn with queue := s.turn.queue ++ [⟨.portA, x.kind, x.mode, none⟩] } })))
  ∧ (∀ (s : State) (k : PageKey) (m : TurnMode),
       s.Ready .a → s.Settled → s.turn.engine = .idle → s.turn.queue = [] → s.bs.power = .run →
         s.bs.battery ≠ .critical → 1 ≤ k.book → k.book ≤ 65535 → k.page ≤ 16777215 → s.panel.shownKey ≠ some k →
         (∀ n,
            s.slotOfKey k = some n → (s.slot n).state = .ready → s.panel.wave = .valid → s.staging.watch = none →
              ∃ mode,
                mode =
                  (if s.params.ghostLimit ≤ s.panel.ghost ∨ s.panel.fidelity = .unknown ∨ (s.slot n).fullRefresh = true then
                     UpdMode.full
                   else if s.params.modeOf m = .grey ∧ s.bs.battery = .low ∧ s.params.lowBatteryFast = true then
                     UpdMode.fast
                   else s.params.modeOf m)
                ∧ exec (.turn (freshFrame .a) (.fields ⟨.goto k, m⟩)) s = .next { s.refusedWith .a .ok with
                    turn := { s.turn with turn := some ⟨k, m, mode, .portA, none⟩, engine := .updating },
                    panel := { s.panel with
                      target := some n, holdTimer := none,
                      update := some ⟨n, mode, .planning, none, none, 0, false, false, none⟩ },
                    pool := { s.pool with feed := ⟨0, 0, 0, true, false⟩ } })
         ∧ (s.slotOfKey k = none →
              exec (.turn (freshFrame .a) (.fields ⟨.goto k, m⟩)) s = .next { s.refusedWith .a .ok with
                turn := { s.turn with
                  engine := .waitingPage, miss := some ⟨k, m, .portA, none, s.now, s.now + s.params.missWaitS * 1000⟩ },
                notices := { s.notices with ap := s.notices.ap.modify 1 (fun n => n.raised (.turnMiss k)) } }))
  ∧ (∀ (s : State) (m : Miss) (run rest : List Entry) (d : Int) (y : State),
       s.turn.miss = some m → s.bs.ap = .on → s.bs.power = .run ∨ s.bs.power = .apStopping → s.Quiet →
         s.turn.queue = run ++ rest → run ≠ [] → (∀ e ∈ run, ∃ dir, e.kind = .step dir) →
         (∀ e, rest.head? = some e → ∃ k, e.kind = .goto k) →
         d =
           (run.countP (fun e => decide (e.kind = .step .plus)) : Int) - run.countP (fun e => decide (e.kind = .step .minus)) →
         y = { s with
           now := max s.now m.timer, turn := { s.turn with miss := none, engine := .idle, queue := rest },
           notices := { s.notices with
             ap := s.notices.ap.modify 14 (fun n => n.raised (.turnAbandoned (some m.key) .missTimeout)) } } →
         (rest = [] → s.bs.battery = .critical →
            exec .missWaitExpiry s = .next { y with
              notices := { y.notices with ap := y.notices.ap.modify 14 (fun n => n.raised (.turnAbandoned none .battery)) } })
         ∧ (rest = [] → s.bs.battery ≠ .critical → d = 0 ∨ s.panel.shownKey = none →
              exec .missWaitExpiry s = .next y)
         ∧ ∀ sk,
             s.panel.shownKey = some sk → s.bs.battery ≠ .critical → d ≠ 0 →
               (∀ n,
                  rest = [] → s.panel.shown = some n →
                    ((s.slot n).edge = some .last ∧ 0 < d) ∨ ((s.slot n).edge = some .first ∧ d < 0) →
                    exec .missWaitExpiry s = .next { y with
                      notices := { y.notices with
                        ap := y.notices.ap.modify 16 (fun n => n.raised (.bookEdge sk (if 0 < d then .plus else .minus))) } })
               ∧ ∀ (pg : Nat) (org : Origin) (md : TurnMode),
                   (∀ n,
                        s.panel.shown = some n →
                          ¬((s.slot n).edge = some .last ∧ 0 < d) ∧ ¬((s.slot n).edge = some .first ∧ d < 0)) →
                     (pg : Int) = max 0 (min 16777215 (sk.page + d)) → run.head?.map Entry.origin = some org →
                     (if ∃ e ∈ run, e.mode = .full then md = .full else run.getLast?.map Entry.mode = some md) →
                     (rest = [] → pg = sk.page → exec .missWaitExpiry s = .next y)
                     ∧ (pg ≠ sk.page → s.slotOfKey ⟨sk.book, pg⟩ = none →
                          exec .missWaitExpiry s = .next { y with
                            turn := { y.turn with
                              engine := .waitingPage,
                              miss := some ⟨⟨sk.book, pg⟩, md, org, none, y.now, y.now + s.params.missWaitS * 1000⟩ },
                            notices := { y.notices with
                              ap := y.notices.ap.modify 1 (fun n => n.raised (.turnMiss ⟨sk.book, pg⟩)) } })
                     ∧ (∀ n,
                          pg ≠ sk.page → s.slotOfKey ⟨sk.book, pg⟩ = some n → (s.slot n).state ≠ .ready →
                            exec .missWaitExpiry s = .next { y with
                              turn := { y.turn with
                                engine := .waitingPage,
                                miss := some ⟨⟨sk.book, pg⟩, md, org, none, y.now, y.now + s.params.missWaitS * 1000⟩ } })
                     ∧ (∀ n,
                          rest = [] → pg ≠ sk.page → s.slotOfKey ⟨sk.book, pg⟩ = some n →
                            (s.slot n).state = .ready → s.panel.wave ≠ .valid →
                            exec .missWaitExpiry s = .next { y with
                              notices := { y.notices with
                                ap := y.notices.ap.modify 14 (fun n => n.raised (.turnAbandoned (some ⟨sk.book, pg⟩) .noWaveform)) } })
                     ∧ ∀ n mode,
                         pg ≠ sk.page → s.slotOfKey ⟨sk.book, pg⟩ = some n → (s.slot n).state = .ready →
                           s.panel.wave = .valid →
                           mode =
                             (if s.params.ghostLimit ≤ s.panel.ghost ∨ s.panel.fidelity = .unknown ∨ (s.slot n).fullRefresh = true then
                                UpdMode.full
                              else if s.params.modeOf md = .grey ∧ s.bs.battery = .low ∧ s.params.lowBatteryFast = true then
                                UpdMode.fast
                              else s.params.modeOf md) →
                           exec .missWaitExpiry s = .next { y with
                             turn := { y.turn with turn := some ⟨⟨sk.book, pg⟩, md, mode, org, none⟩, engine := .updating },
                             panel := { s.panel with
                               target := some n, holdTimer := none,
                               update := some ⟨n, mode, .planning, none, none, 0, false, false, none⟩ },
                             pool := { s.pool with feed := ⟨0, 0, 0, true, false⟩ } })

/-- R66, R67: the refill want, computed after an update and after an eviction from the shown book. That no page past
16,777,215, the largest page number, is wanted is the model's choice (log 17). -/
def Obligations.RefillWantsMissingPages : Prop :=
  ∀ s : State,
    (s.panel.shownKey = none → s.refill = s)
    ∧ ∀ k,
        s.panel.shownKey = some k → s.NoWake .refillWanted →
          ∃ w : List Nat,
            w.Pairwise (· < ·)
            ∧ (∀ p,
                 p ∈ w ↔ p ≠ k.page ∧ k.page ≤ p + s.params.behind ∧ p ≤ k.page + s.params.ahead ∧ p ≤ 16777215
                 ∧ (∀ x ∈ s.slots.slots,
                      x.state ≠ .empty → ∀ q, x.key = some ⟨k.book, q⟩ → x.edge = some .last → p ≤ q)
                 ∧ (∀ x ∈ s.slots.slots,
                      x.state ≠ .empty → ∀ q, x.key = some ⟨k.book, q⟩ → x.edge = some .first → q ≤ p)
                 ∧ (∀ x ∈ s.slots.slots, x.state ≠ .empty → x.key ≠ some ⟨k.book, p⟩))
            ∧ s.refill = { s with
                turn := { s.turn with want := some ⟨k.book, w⟩ },
                notices := (if w = [] then
                   s.notices
                 else { s.notices with ap := s.notices.ap.modify 2 (fun n => n.raised (.refillWanted ⟨k.book, w⟩)) }) }

/-- R46, R48, R49, R51: SET_KEY_ROUTE, a raw edge of a key, and the expiry of a hold or repeat timer (on a full queue
TURN_OVERRUN comes first, log 17). -/
def Obligations.KeyRoutesEdgesAndRepeats : Prop :=
  ((∀ (s : State) (n : Nat) (r : Route),
      s.Ready .a →
        (∀ k : Key,
           n = k.val →
             exec (.setKeyRoute (freshFrame .a) (.fields ⟨n, r⟩)) s = .next { s.refusedWith .a .ok with
               turn := { s.turn with
                 routes := s.turn.routes.set n r,
                 keys := if s.routeOf k = r then
                   s.turn.keys
                 else s.turn.keys.set n { s.key k with hold := .idle, holdTimer := none, repeatTimer := none } } })
        ∧ (4 ≤ n → exec (.setKeyRoute (freshFrame .a) (.fields ⟨n, r⟩)) s = .next (s.refusedWith .a .badArgument)))
   ∧ (∀ (s : State) (k : Key) (level : Bool),
        s.rawKey k ≠ level →
          (s.bs.power ≠ .depleted → level ≠ (s.key k).pressed →
             exec (.keyRawEdge k level) s = .next { s with
               pins := { s.pins with keys := s.pins.keys.set k.val level },
               turn := { s.turn with
                 keys := s.turn.keys.set k.val { s.key k with
                   candidate := some s.now, debounce := some (s.now + s.params.debounceMs) } } })
          ∧ (s.bs.power ≠ .depleted → level = (s.key k).pressed →
               exec (.keyRawEdge k level) s = .next { s with
                 pins := { s.pins with keys := s.pins.keys.set k.val level },
                 turn := { s.turn with keys := s.turn.keys.set k.val { s.key k with candidate := none, debounce := none } } })
          ∧ (s.bs.power = .depleted →
               exec (.keyRawEdge k level) s = .next { s with pins := { s.pins with keys := s.pins.keys.set k.val level } })))
  ∧ (∀ (s u : State) (k : Key) (d : Nat) (c : Instr),
       s.Quiet → s.turn.engine ≠ .idle → s.bs.ap = .on →
         (c = .holdTimerExpiry k ∧ (s.key k).holdTimer = some d
          ∨ c = .repeatTimerExpiry k ∧ (s.key k).repeatTimer = some d) →
         u = { s with
           now := max s.now d,
           turn := { s.turn with
             keys := s.turn.keys.set k.val { s.key k with
               hold := .repeating, holdTimer := none, repeatTimer := some (max s.now d + s.params.repeatMs) } } } →
         (s.turn.queue.length < 8 → (∀ e ∈ s.turn.queue, e.origin ≠ .repeated) →
            exec c s = .next { u with
              turn := { u.turn with queue := s.turn.queue ++ [⟨.repeated, .step (s.key k).dir, .auto, none⟩] } })
         ∧ (s.turn.queue.length < 8 → (∃ e ∈ s.turn.queue, e.origin = .repeated) → exec c s = .next u)
         ∧ (8 ≤ s.turn.queue.length →
              exec c s = .next { u with
                notices := { s.notices with
                  ap := s.notices.ap.modify 15 (fun n => n.raised (.turnOverrun .repeated (.step (s.key k).dir))) } }))

/-- R46 to R48, R51, R54 to R58, R61, R62, R106, R107: the debounce timer of a key expires. -/
def Obligations.KeyEdgeAccepted : Prop :=
  (∀ (s : State) (k : Key) (d : Nat),
     (s.key k).debounce = some d → s.Settled → s.bs.power = .run → s.bs.ap = .on → k.val < s.turn.keys.length →
       (s.rawKey k = false →
          exec (.keyDebounceExpiry k) s = .next { s with
            now := max s.now d,
            turn := { s.turn with
              keys := s.turn.keys.set k.val { s.key k with
                pressed := false, edgeTime := (s.key k).candidate.getD (max s.now d), candidate := none,
                debounce := none, hold := .idle, holdTimer := none, repeatTimer := none } } })
       ∧ (∀ dir,
            s.rawKey k = true → s.routeOf k = (if dir = .plus then .next else .prev) → s.turn.engine ≠ .idle →
              s.turn.queue.length < 8 →
              exec (.keyDebounceExpiry k) s = .next { s with
                now := max s.now d,
                turn := { s.turn with
                  queue := s.turn.queue ++ [⟨.key, .step dir, .auto, none⟩],
                  keys := s.turn.keys.set k.val { s.key k with
                    pressed := true, edgeTime := (s.key k).candidate.getD (max s.now d), candidate := none,
                    debounce := none, hold := .held, holdTimer := some (max s.now d + s.params.holdMs), dir := dir } } })
       ∧ (s.rawKey k = true → (s.routeOf k = .power ∨ s.routeOf k = .noticeOnly ∨ s.routeOf k = .none) →
            ∃ t,
              exec (.keyDebounceExpiry k) s = .next t
              ∧ t = { s with
                  now := max s.now d, notices := t.notices,
                  turn := { s.turn with
                    keys := s.turn.keys.set k.val { s.key k with
                      pressed := true, edgeTime := (s.key k).candidate.getD (max s.now d), candidate := none,
                      debounce := none } } }
              ∧ (s.routeOf k = .power →
                   t.notices = { s.notices with ap := s.notices.ap.modify 0 (fun n => n.raised (.powerKey .run)) })
              ∧ (s.routeOf k = .noticeOnly →
                   t.notices = { s.notices with ap := s.notices.ap.modify 12 (fun n => n.raised (.key k.val)) })
              ∧ (s.routeOf k = .none → t.notices = s.notices)))
  ∧ (∀ (s : State) (k : Key) (d : Nat),
       (s.key k).debounce = some d → s.Settled → s.bs.power = .run → s.bs.ap = .on → k.val < s.turn.keys.length →
         s.rawKey k = true →
         (∀ y tgt,
            s.routeOf k = .light →
              y = { s with
                now := max s.now d,
                turn := { s.turn with
                  keys := s.turn.keys.set k.val { s.key k with
                    pressed := true, edgeTime := (s.key k).candidate.getD (max s.now d), candidate := none,
                    debounce := none } } } →
              tgt = (if 0 < s.light.target then 0 else s.light.remembered) →
              (s.light.fading = true → exec (.keyDebounceExpiry k) s = .next y)
              ∧ (s.light.fading = false →
                   exec (.keyDebounceExpiry k) s = .next { y with
                     light := { s.light with
                       remembered := (if 0 < s.light.target then s.light.target else s.light.remembered), target := tgt,
                       rampTimer := (if s.light.alarmHold = true then
                          s.light.rampTimer
                        else if tgt = s.light.applied then
                          none
                        else if s.light.rampTimer = none then some (max s.now d + s.params.rampMs) else s.light.rampTimer) } }))
         ∧ (∀ dir y,
              s.routeOf k = (if dir = .plus then .next else .prev) →
                y = { s with
                  now := max s.now d,
                  turn := { s.turn with
                    keys := s.turn.keys.set k.val { s.key k with
                      pressed := true, edgeTime := (s.key k).candidate.getD (max s.now d), candidate := none,
                      debounce := none, hold := .held, holdTimer := some (max s.now d + s.params.holdMs), dir := dir } } } →
                (8 ≤ s.turn.queue.length →
                   exec (.keyDebounceExpiry k) s = .next { y with
                     notices := { s.notices with
                       ap := s.notices.ap.modify 15 (fun n => n.raised (.turnOverrun .key (.step dir))) } })
                ∧ (s.turn.engine = .idle → s.turn.queue = [] → s.bs.battery = .critical →
                     exec (.keyDebounceExpiry k) s = .next { y with
                       notices := { s.notices with
                         ap := s.notices.ap.modify 14 (fun n => n.raised (.turnAbandoned none .battery)) } })
                ∧ (s.turn.engine = .idle → s.turn.queue = [] → s.bs.battery ≠ .critical →
                     (s.panel.shownKey = none → exec (.keyDebounceExpiry k) s = .next y)
                     ∧ (∀ sk,
                          s.panel.shownKey = some sk →
                            (∀ n,
                               s.panel.shown = some n →
                                 (s.slot n).edge = (if dir = .plus then some .last else some .first) →
                                 exec (.keyDebounceExpiry k) s = .next { y with
                                   notices := { s.notices with
                                     ap := s.notices.ap.modify 16 (fun x => x.raised (.bookEdge sk dir)) } })
                            ∧ (∀ pg,
                                 (∀ n,
                                      s.panel.shown = some n →
                                        (s.slot n).edge ≠ (if dir = .plus then some .last else some .first)) →
                                   pg = (if dir = .plus then min 16777215 (sk.page + 1) else sk.page - 1) →
                                   sk.page ≤ 16777215 →
                                   (pg = sk.page → exec (.keyDebounceExpiry k) s = .next y)
                                   ∧ (pg ≠ sk.page → s.slotOfKey ⟨sk.book, pg⟩ = none →
                                        exec (.keyDebounceExpiry k) s = .next { y with
                                          turn := { y.turn with
                                            engine := .waitingPage,
                                            miss := some ⟨⟨sk.book, pg⟩, .auto, .key, none, max s.now d,
                                              max s.now d + s.params.missWaitS * 1000⟩ },
                                          notices := { s.notices with
                                            ap := s.notices.ap.modify 1 (fun x => x.raised (.turnMiss ⟨sk.book, pg⟩)) } })
                                   ∧ (∀ n mode,
                                        pg ≠ sk.page → s.slotOfKey ⟨sk.book, pg⟩ = some n →
                                          (s.slot n).state = .ready → s.panel.wave = .valid →
                                          s.staging.watch = none →
                                          mode =
                                            (if s.params.ghostLimit ≤ s.panel.ghost ∨ s.panel.fidelity = .unknown ∨ (s.slot n).fullRefresh = true then
                                               UpdMode.full
                                             else if s.params.modeOf .auto = .grey ∧ s.bs.battery = .low ∧ s.params.lowBatteryFast = true then
                                               UpdMode.fast
                                             else s.params.modeOf .auto) →
                                          exec (.keyDebounceExpiry k) s = .next { y with
                                            turn := { y.turn with
                                              turn := some ⟨⟨sk.book, pg⟩, .auto, mode, .key, none⟩,
                                              engine := .updating },
                                            panel := { s.panel with
                                              target := some n, holdTimer := none,
                                              update := some ⟨n, mode, .planning, none, none, 0, false, false, none⟩ },
                                            pool := { s.pool with feed := ⟨0, 0, 0, true, false⟩ } }))))))

/-- R141, R142, R144, R145, R167, R172: a wake requested by a notice and by a POWER key, and how it is served. That
the AP is powered as DEEP is left, before the memory reports its exit, is the model's reading (log 38). -/
def Obligations.WakesAreRequestedAndServed : Prop :=
  ((∀ (s y : State) (src : Source) (d : Detail),
      y = { s with notices := { s.notices with ap := s.notices.ap.modify src.idx (fun n => n.raised d) } } →
        (s.NoWake src → s.raise src d = y)
        ∧ (∀ z,
             ¬s.NoWake src → z = { y with notices := { y.notices with wakeOut := true } } →
               ((s.bs.depleting = true ∨ s.bs.power = .run ∨ s.bs.power = .depleted
                   ∨ (s.bs.power = .doze ∧ s.bs.ap = .requested)) →
                  s.raise src d = z)
               ∧ (s.bs.depleting = false → s.bs.power = .apStopping ∨ s.bs.power = .enteringDeep →
                    s.raise src d = { z with bs := { s.bs with heldWake := true } })
               ∧ (s.bs.depleting = false → s.bs.power = .doze → s.bs.ap = .off →
                    (s.head.alarm = none →
                       s.head.panel.grant + s.head.radio.grant + s.params.apMW ≤ s.head.ceiling →
                       s.raise src d = z.apUp)
                    ∧ (s.head.alarm.isSome = true → s.raise src d = z.apWaiting .unjudged))
               ∧ (s.bs.depleting = false → s.bs.power = .deep → s.bs.resumeKey = none →
                    s.pool.mode = .selfRefresh → s.head.alarm = none →
                    s.head.panel.grant + s.head.radio.grant + s.params.apMW ≤ s.head.ceiling →
                    s.raise src d = z.outOfDeep.apUp)))
   ∧ ∀ s : State,
       s.bs.power ≠ .deep → s.bs.power ≠ .depleted →
         exec .touchIntFall s =
           .next (s.raise .touch (.touch (if (s.noticeAt 11).pending then min 255 ((s.noticeAt 11).count + 1) else 1))))
  ∧ (∀ (s y : State) (k : Key) (d : Nat),
       (s.key k).debounce = some d → k.val < s.turn.keys.length → s.rawKey k = true → s.routeOf k = .power →
         s.bs.depleting = false → s.staging.watch = none →
         y = { s.noted .powerKey (.powerKey s.bs.power) with
           now := max s.now d,
           turn := { s.turn with
             keys := s.turn.keys.set k.val { s.key k with
               pressed := true, edgeTime := (s.key k).candidate.getD (max s.now d), candidate := none, debounce := none } } } →
         (s.Settled → s.bs.power = .apStopping ∨ s.bs.power = .enteringDeep →
            exec (.keyDebounceExpiry k) s = .next { y with bs := { s.bs with heldWake := true } })
         ∧ (s.bs.power = .doze → s.bs.stage = none → s.NoTake →
              (s.bs.ap = .requested →
                 exec (.keyDebounceExpiry k) s = .next { y with
                   bs := { s.bs with deferTimer := none, idleTimer := some (max s.now d + s.params.dozeIdleMin * 60000) } })
              ∧ (s.bs.ap = .off → s.head.alarm = none →
                   s.head.panel.grant + s.head.radio.grant + s.params.apMW ≤ s.head.ceiling →
                   exec (.keyDebounceExpiry k) s = .next y.apUp)
              ∧ (s.bs.ap = .off → s.head.alarm.isSome = true →
                   exec (.keyDebounceExpiry k) s = .next { y.apWaiting .unjudged with
                     bs := { s.bs with
                       ap := .requested, deferTimer := none,
                       idleTimer := some (max s.now d + s.params.dozeIdleMin * 60000) } })
              ∧ (∀ g,
                   s.bs.ap = .off → s.head.alarm = none →
                     s.head.ceiling < s.head.panel.grant + s.head.radio.grant + s.params.apMW →
                     s.head.active = none → s.head.panelWait = none → s.head.parked = none → y.NoWake .noHeadroom →
                     g = min s.head.light.demand (s.head.ceiling - s.head.loads) →
                     exec (.keyDebounceExpiry k) s = .next { y with
                       light := s.litBy g,
                       head := { s.head with
                         ap := { s.head.ap with demand := s.params.apMW }, apWait := some .judged,
                         light := ⟨s.head.light.demand, g⟩ },
                       notices := { y.notices with
                         ap := y.notices.ap.modify 18 (fun n => n.raised (.noHeadroom .ap s.params.apMW s.head.ceiling)) },
                       bs := { s.bs with
                         ap := .requested, deferTimer := none,
                         idleTimer := some (max s.now d + s.params.dozeIdleMin * 60000) } }))
         ∧ (∀ z,
              s.bs.power = .deep → s.bs.ap = .off → s.bs.stage = none → s.pool.mode = .selfRefresh →
                z = y.outOfDeep →
                (s.bs.resumeKey = none → s.NoTake → s.head.alarm = none →
                   s.head.panel.grant + s.head.radio.grant + s.params.apMW ≤ s.head.ceiling →
                   exec (.keyDebounceExpiry k) s = .next z.apUp)
                ∧ (∀ rk,
                     s.bs.resumeKey = some rk → s.turn.engine ≠ .idle → s.turn.queue.length < 8 →
                       s.head.alarm.isSome = true →
                       exec (.keyDebounceExpiry k) s = .next { z.apWaiting .unjudged with
                         turn := { y.turn with queue := ⟨.sleep, .goto rk, .auto, some .resume⟩ :: s.turn.queue },
                         bs := { s.bs with
                           power := .doze, ap := .requested, resumeKey := none, deferTimer := none,
                           idleTimer := some (max s.now d + s.params.dozeIdleMin * 60000) } })
                ∧ (∀ rk n mode,
                     s.bs.resumeKey = some rk → s.turn.engine = .idle → s.turn.queue = [] → s.head.alarm = none →
                       s.head.panel.grant + s.head.radio.grant + s.params.apMW ≤ s.head.ceiling →
                       s.bs.battery ≠ .critical → s.panel.shownKey ≠ some rk → s.slotOfKey rk = some n →
                       (s.slot n).state = .ready → s.panel.wave = .valid →
                       mode =
                         (if s.params.ghostLimit ≤ s.panel.ghost ∨ s.panel.fidelity = .unknown ∨ (s.slot n).fullRefresh = true then
                            UpdMode.full
                          else if s.params.modeOf .auto = .grey ∧ s.bs.battery = .low ∧ s.params.lowBatteryFast = true then
                            UpdMode.fast
                          else s.params.modeOf .auto) →
                       exec (.keyDebounceExpiry k) s = .next { z.apUp with
                         bs := { z.apUp.bs with resumeKey := none },
                         turn := { y.turn with turn := some ⟨rk, .auto, mode, .sleep, some .resume⟩, engine := .updating },
                         panel := { s.panel with
                           target := some n, holdTimer := none,
                           update := some ⟨n, mode, .planning, none, none, 0, false, false, none⟩ },
                         pool := { z.pool with feed := ⟨0, 0, 0, true, false⟩ } })))

/-- R32, R35, R50, R59, R61, R78: the touch line, the miss wait timer, and a miss wait ended by its page becoming
READY. -/
def Obligations.TouchAndMissWaitRaise : Prop :=
  ((∀ s : State,
      s.bs.ap = .on → s.bs.power ≠ .deep → s.bs.power ≠ .depleted →
        exec .touchIntFall s = .next { s with
          notices := { s.notices with
            ap := s.notices.ap.modify 11 (fun n => n.raised (.touch (if (s.noticeAt 11).pending then min 255 ((s.noticeAt 11).count + 1) else 1))) } })
   ∧ (∀ s : State, s.bs.power = .deep ∨ s.bs.power = .depleted → exec .touchIntFall s = .next s)
   ∧ ∀ (s : State) (m : Miss),
       s.turn.miss = some m → s.bs.ap = .on → s.Quiet → s.turn.queue = [] →
         exec .missWaitExpiry s = .next { s with
           now := max s.now m.timer, turn := { s.turn with miss := none, engine := .idle },
           notices := { s.notices with
             ap := s.notices.ap.modify 14 (fun n => n.raised (.turnAbandoned (some m.key) .missTimeout)) } })
  ∧ (∀ (s y : State) (n : Nat) (m : Miss) (mode : UpdMode),
       s.turn.miss = some m → s.turn.engine = .waitingPage → n < s.slots.slots.length →
         (s.slot n).key = some m.key → (s.slot n).forget = false → s.Quiet → s.bs.battery ≠ .critical →
         s.panel.wave = .valid →
         mode =
           (if s.params.ghostLimit ≤ s.panel.ghost ∨ s.panel.fidelity = .unknown ∨ (s.slot n).fullRefresh = true then
              UpdMode.full
            else if s.params.modeOf m.mode = .grey ∧ s.bs.battery = .low ∧ s.params.lowBatteryFast = true then
              UpdMode.fast
            else s.params.modeOf m.mode) →
         y = { s with
           slots := { s.slots with
             slots := s.slots.slots.set n { s.slot n with state := .ready, age := s.slots.use },
             use := min 4294967295 (s.slots.use + 1) },
           turn := { s.turn with
             miss := none, engine := .updating, turn := some ⟨m.key, m.mode, mode, m.origin, m.purpose⟩ },
           panel := { s.panel with
             target := some n, holdTimer := none,
             update := some ⟨n, mode, .planning, none, none, 0, false, false, none⟩ },
           pool := { s.pool with feed := ⟨0, 0, 0, true, false⟩ } } →
         (∀ c rest,
            s.pool.scans = c :: rest → c.slot = n → (c.len ≤ c.pos ∨ c.check.stopped = true) →
              c.check.result = none →
              exec .verifyScanEnd s = .next { y with pool := { y.pool with scans := rest } })
         ∧ (∀ w,
              s.pool.workA = some w → w.kind = .blankSlot n → w.stop ≤ w.pos → s.portA.held = none →
                exec .blankSlotWriteEnd s = .next { y with pool := { y.pool with workA := none }, portA := s.portA.answered ⟨.ok, .slot n⟩ }))

/-- R72 to R74, R184: WAVEFORM_WRITE, WAVEFORM_COMMIT and the ends of their work, and the commit check. The commit
reads the whole store in order, and an ABSENT store stays ABSENT while it is checked (log 9). -/
def Obligations.WaveformStoreIsWrittenAndCommitted : Prop :=
  ((∀ (s : State) (x : WaveformWriteArgs),
      s.Ready .a →
        (1 ≤ x.payload.length → x.payload.length ≤ 4096 → x.offset + x.payload.length ≤ 131072 →
           (s.panel.update = none →
              exec (.waveformWrite (freshFrame .a) (.fields x)) s = .next { s.workingOn .a with
                panel := { s.panel with wave := .loading },
                pool := { s.pool with
                  workA := some ⟨.waveformWrite, .waveform, [504, 505, 506, 507, 508, 509, 510, 511], x.offset,
                    x.offset + x.payload.length, x.payload, [], false⟩ } })
           ∧ (s.panel.update.isSome = true →
                exec (.waveformWrite (freshFrame .a) (.fields x)) s = .next (s.refusedWith .a .inUse)))
        ∧ (¬(1 ≤ x.payload.length ∧ x.payload.length ≤ 4096 ∧ x.offset + x.payload.length ≤ 131072) →
             exec (.waveformWrite (freshFrame .a) (.fields x)) s = .next (s.refusedWith .a .badArgument)))
   ∧ (∀ s : State,
        s.Ready .a →
          (s.panel.wave = .valid →
             exec (.waveformCommit (freshFrame .a) (.fields ())) s = .next (s.refusedWith .a .ok))
          ∧ (s.panel.wave ≠ .valid →
               exec (.waveformCommit (freshFrame .a) (.fields ())) s = .next { s.workingOn .a with
                 pool := { s.pool with
                   workA := some ⟨.waveformCommit, .waveform, [504, 505, 506, 507, 508, 509, 510, 511], 0, 131072, [], [],
                     false⟩ } }))
   ∧ ∀ (s : State) (w : Work),
       s.pool.workA = some w → w.stop ≤ w.pos → s.portA.held = none →
         (w.kind = .waveformWrite →
            exec .waveformWriteEnd s = .next { s with pool := { s.pool with workA := none }, portA := s.portA.answered (Answer.plain .ok) })
         ∧ (w.kind = .waveformCommit → s.pool.mem.checkWaves = none →
              exec .waveformCommitEnd s = .next { s with
                pool := { s.pool with workA := none }, panel := { s.panel with wave := .valid },
                portA := s.portA.answered (Answer.plain .ok) })
         ∧ (∀ f,
              w.kind = .waveformCommit → s.pool.mem.checkWaves = some f →
                exec .waveformCommitEnd s = .next { s with
                  pool := { s.pool with workA := none },
                  panel := { s.panel with wave := .absent, commitFail := some f },
                  portA := s.portA.answered ⟨.badArgument, .commitFail f⟩ }))
  ∧ (∀ m : Memory,
       (∀ w, m.frameCount w = (m.read (8257536 + w)).toNat)
       ∧ (∀ w f t k,
            m.driveCode w f t k =
              (m.read (8257536 + (1024 + 4096 * w + ((f * 16 + t) * 64 + k) / 4))).toNat / 4 ^ (((f * 16 + t) * 64 + k) % 4) % 4)
       ∧ (m.checkWaves = none ↔ ∀ w < 24, m.WaveGood w)
       ∧ ∀ (mode : UpdMode) (band w : Nat),
           w = (match mode with | .full => 0 | .grey => 8 | .fast => 16) + band →
             (m.checkWaves = some ⟨mode, band, .frameCount⟩ ↔ band < 8 ∧ (∀ v < w, m.WaveGood v)
              ∧ ¬(1 ≤ m.frameCount w ∧ m.frameCount w ≤ 63))
             ∧ ∀ f t k,
                 m.checkWaves = some ⟨mode, band, .driveCode f t k⟩ ↔ band < 8 ∧ (∀ v < w, m.WaveGood v)
                 ∧ 1 ≤ m.frameCount w ∧ m.frameCount w ≤ 63 ∧ f < 16 ∧ t < 16 ∧ k < m.frameCount w
                 ∧ ¬m.DriveGood w f t k
                 ∧ ∀ f' < 16,
                     ∀ t' < 16,
                       ∀ k' < m.frameCount w,
                         (f' * 16 + t') * 64 + k' < (f * 16 + t) * 64 + k → m.DriveGood w f' t' k')

/-- R76, R78: the temperature read of a planning. -/
def Obligations.TemperatureReadChoosesBand : Prop :=
  ∀ (s : State) (u : Update),
    s.panel.update = some u → u.phase = .planning → u.tempRead = false → s.bs.ap = .on →
      (∀ r : Int,
         ∃ t,
           exec (.tempReadEnd (some r)) s = .next t
           ∧ t = { s with
               notices := t.notices,
               panel := { s.panel with
                 lastGood := some r, lastRead := some true, band := t.panel.band,
                 update := some { u with tempRead := true } } }
           ∧ (∃ b : Nat,
                t.panel.band = some b ∧ b ≤ 7
                ∧ (-10 ≤ r → r ≤ 69 → 10 * (b : Int) - 10 ≤ r ∧ r < 10 * (b : Int))
                ∧ (r < -10 → b = 0) ∧ (69 < r → b = 7)) ∧ (0 ≤ r → r ≤ 50 → t.notices = s.notices)
           ∧ (r < 0 ∨ 50 < r →
                t.notices = { s.notices with ap := s.notices.ap.modify 19 (fun n => n.raised (.tempRange r)) }))
      ∧ ∃ t,
          exec (.tempReadEnd none) s = .next t
          ∧ t = { s with
              panel := { s.panel with
                lastRead := some false, band := t.panel.band, update := some { u with tempRead := true } } }
          ∧ (s.panel.lastGood = none → t.panel.band = some 2)
          ∧ ∀ r,
              s.panel.lastGood = some r →
                ∃ b : Nat,
                  t.panel.band = some b ∧ b ≤ 7
                  ∧ (-10 ≤ r → r ≤ 69 → 10 * (b : Int) - 10 ≤ r ∧ r < 10 * (b : Int))
                  ∧ (r < -10 → b = 0) ∧ (69 < r → b = 7)

/-- R66, R79 to R87, R90, R104, R117: the end of planning in each rail state with AP ON and no demand waiting, and an
update demand below the hot grant with an AP power-up waiting. That the demand takes row_nJ and pix_pJ as they stand
at PLANNING_END is the model's choice (log 28). That an update planned while the rails are RISING takes the phase
RISING is R90 for a re-plan and otherwise the model's choice (log 29), as is a silent swap that leaves RISING rails to
their rise. -/
def Obligations.PlanningEndGoesToRailsOrEnds : Prop :=
  (∀ (s : State) (u v : Update) (x : Turn) (p : Plan) (r o : Nat),
     s.panel.update = some u → u.phase = .planning → u.tempRead = true → s.feedLeft = false → s.Quiet →
       s.bs.ap = .on → s.NoWaits → s.turn.queue = [] → s.turn.turn = some x → x.purpose = none → p = s.planOf u →
       v = { u with band := s.panel.band, plan := some p } → r = max 1 s.params.riseMW →
       o = s.head.ap.grant + s.head.radio.grant →
       (u.mode = .full → p.firstRow = 0 ∧ p.lastRow = 1599 ∧ p.changed = 1920000)
       ∧ p.demand =
           max 1 ((((p.lastRow - p.firstRow + 1) * s.params.rowNJ * 1000 + p.changed * s.params.pixPJ + 999999) / 1000000 + 11) / 12)
       ∧ p.duration = p.frames * 12
       ∧ (u.mode = .full ∨ p.changed ≠ 0 → p.demand ≤ s.params.ceilingMaxMW - s.params.reserveMW →
            (s.panel.rail = .off → o + r + min s.head.light.demand s.params.lightFloorMW ≤ s.head.ceiling →
               exec .planningEnd s = .next { s with
                 turn := { s.turn with engine := .updating },
                 panel := { s.panel with
                   rail := .rising, waitTimer := none, riseTimer := some (s.now + s.params.railRiseMs),
                   update := some { v with phase := .rising } },
                 light := s.litBy (min s.head.light.demand (s.head.ceiling - (s.head.ap.grant + r + s.head.radio.grant))),
                 head := { s.head with
                   panel := ⟨r, r⟩,
                   light := ⟨s.head.light.demand,
                     min s.head.light.demand (s.head.ceiling - (s.head.ap.grant + r + s.head.radio.grant))⟩ } })
            ∧ (s.panel.rail = .off → s.head.ceiling < o + r + min s.head.light.demand s.params.lightFloorMW →
                 exec .planningEnd s = .next { s with
                   turn := { s.turn with engine := .waitingPower },
                   panel := { s.panel with
                     waitTimer := some (s.now + s.params.powerWaitS * 1000),
                     update := some { v with phase := .riseWait } },
                   light := s.litBy (min s.head.light.demand (s.head.ceiling - s.head.loads)),
                   head := { s.head with
                     panel := ⟨r, s.head.panel.grant⟩, panelWait := some r,
                     light := ⟨s.head.light.demand, min s.head.light.demand (s.head.ceiling - s.head.loads)⟩ } })
            ∧ (s.panel.rail = .hot →
                 o + p.demand + min s.head.light.demand s.params.lightFloorMW ≤ s.head.ceiling →
                 exec .planningEnd s = .next { s with
                   turn := { s.turn with engine := .updating }, pool := { s.pool with feed := ⟨0, 0, 0, true, false⟩ },
                   panel := { s.panel with
                     rail := .driving, waitTimer := none,
                     update := some { v with phase := .driving, frame := 0, frameTimer := some (s.now + 12) } },
                   light := s.litBy (min s.head.light.demand (s.head.ceiling - (s.head.ap.grant + p.demand + s.head.radio.grant))),
                   head := { s.head with
                     panel := ⟨p.demand, p.demand⟩,
                     light := ⟨s.head.light.demand,
                       min s.head.light.demand (s.head.ceiling - (s.head.ap.grant + p.demand + s.head.radio.grant))⟩ } })
            ∧ (s.panel.rail = .hot →
                 s.head.ceiling < o + p.demand + min s.head.light.demand s.params.lightFloorMW →
                 exec .planningEnd s = .next { s with
                   turn := { s.turn with engine := .waitingPower },
                   panel := { s.panel with
                     waitTimer := some (s.now + s.params.powerWaitS * 1000),
                     update := some { v with phase := .driveWait } },
                   light := s.litBy (min s.head.light.demand (s.head.ceiling - s.head.loads)),
                   head := { s.head with
                     panel := ⟨p.demand, s.head.panel.grant⟩, panelWait := some p.demand,
                     light := ⟨s.head.light.demand, min s.head.light.demand (s.head.ceiling - s.head.loads)⟩ } })
            ∧ (s.panel.rail = .falling →
                 exec .planningEnd s = .next { s with panel := { s.panel with update := some { v with phase := .awaitRails } } })
            ∧ (s.panel.rail = .rising →
                 exec .planningEnd s = .next { s with panel := { s.panel with update := some { v with phase := .rising } } }))
       ∧ (u.mode = .full ∨ p.changed ≠ 0 → s.params.ceilingMaxMW - s.params.reserveMW < p.demand →
            (s.panel.rail = .hot → 0 < s.params.railHoldMs) →
            exec .planningEnd s = .next { s with
              turn := { s.turn with engine := .idle, turn := none },
              panel := { s.panel with
                target := none, update := none,
                holdTimer := if s.panel.rail = .hot then some (s.now + s.params.railHoldMs) else s.panel.holdTimer },
              notices := { s.notices with
                ap := s.notices.ap.modify 14 (fun n => n.raised (.turnAbandoned (some x.key) .noHeadroom)) } })
       ∧ (∀ k,
            u.mode ≠ .full → p.changed = 0 → (s.slot u.target).key = some k →
              (s.panel.rail = .hot → 0 < s.params.railHoldMs) →
              exec .planningEnd s =
                .next (State.refill { s with
                    turn := { s.turn with engine := .idle, turn := none },
                    notices := { s.notices with ap := s.notices.ap.modify 17 (fun n => n.raised (.updateDone k u.mode)) },
                    slots := { s.slots with
                      slots := s.slots.slots.set u.target { s.slot u.target with age := s.slots.use },
                      use := min 4294967295 (s.slots.use + 1) },
                    panel := { s.panel with
                      shown := some u.target, shownKey := some k, target := none, update := none,
                      fidelity := (if u.mode = .fast then .twoLevel else .exact),
                      holdTimer := if s.panel.rail = .hot then some (s.now + s.params.railHoldMs) else s.panel.holdTimer } })))
  ∧ (∀ (s : State) (u : Update) (n b : Nat) (rows : List (List Nat × List Nat)) (old new : Nat → Nat) (p : Plan),
       u.mode ≠ .full → s.panel.shown = some n → s.panel.band = some b →
         rows = (imageRows (s.imageOf n)).zip (imageRows (s.imageOf u.target)) →
         (∀ v, old v = if s.panel.fidelity = .twoLevel then (if v ≤ 7 then 0 else 15) else v) →
         (∀ v, new v = if u.mode = .fast then (if v ≤ 7 then 0 else 15) else v) → p = s.planOf u →
         p.changed = (rows.map (fun x => (x.1.zip x.2).countP (fun y => decide (old y.1 ≠ new y.2)))).sum
         ∧ p.frames = (s.pool.mem.read (504 * 16384 + ((if u.mode = .grey then 1 else 2) * 8 + b))).toNat
         ∧ (p.changed ≠ 0 →
              (∃ x, rows[p.firstRow]? = some x ∧ ∃ y ∈ x.1.zip x.2, old y.1 ≠ new y.2)
              ∧ (∃ x, rows[p.lastRow]? = some x ∧ ∃ y ∈ x.1.zip x.2, old y.1 ≠ new y.2)
              ∧ ∀ r x, rows[r]? = some x → r < p.firstRow ∨ p.lastRow < r → ∀ y ∈ x.1.zip x.2, old y.1 = new y.2))
  ∧ (∀ (s f : State) (u : Update) (x : Turn) (h g : Nat),
       s.panel.update = some u → u.phase = .planning → u.tempRead = true → s.feedLeft = false → s.Quiet →
         s.bs.ap = .on → s.NoWaits → s.turn.queue = [] → s.turn.turn = some x → x.purpose = none →
         s.panel.rail = .hot → s.params.railHoldMs = 0 → h = min (max 1 s.params.hotMW) s.head.panel.grant →
         g = min s.head.light.demand (s.head.ceiling - (s.head.ap.grant + h + s.head.radio.grant)) →
         f = { s with
           light := s.litBy g, head := { s.head with panel := ⟨h, h⟩, light := ⟨s.head.light.demand, g⟩ },
           turn := { s.turn with engine := .idle, turn := none },
           panel := { s.panel with
             rail := .falling, riseTimer := none, holdTimer := none, fallTimer := some (s.now + s.params.railFallMs),
             target := none, update := none } } →
         (u.mode = .full ∨ (s.planOf u).changed ≠ 0 →
            s.params.ceilingMaxMW - s.params.reserveMW < (s.planOf u).demand →
            exec .planningEnd s = .next { f with
              notices := { s.notices with
                ap := s.notices.ap.modify 14 (fun n => n.raised (.turnAbandoned (some x.key) .noHeadroom)) } })
         ∧ (∀ k,
              u.mode ≠ .full → (s.planOf u).changed = 0 → (s.slot u.target).key = some k →
                exec .planningEnd s =
                  .next (State.refill { f with
                      notices := { s.notices with ap := s.notices.ap.modify 17 (fun n => n.raised (.updateDone k u.mode)) },
                      slots := { s.slots with
                        slots := s.slots.slots.set u.target { s.slot u.target with age := s.slots.use },
                        use := min 4294967295 (s.slots.use + 1) },
                      panel := { f.panel with
                        shown := some u.target, shownKey := some k,
                        fidelity := (if u.mode = .fast then .twoLevel else .exact) } })))
  ∧ (∀ (s y : State) (u v : Update) (p : Plan) (g : Nat),
       s.panel.update = some u → u.phase = .planning → u.tempRead = true → s.feedLeft = false → s.Quiet →
         s.head.alarm = none → s.head.panelWait = none → s.head.parked = none → s.head.apWait = some .judged →
         s.head.ap.demand = s.params.apMW → s.panel.rail = .hot → p = s.planOf u →
         v = { u with band := s.panel.band, plan := some p } → (u.mode = .full ∨ p.changed ≠ 0) →
         p.demand ≤ s.params.ceilingMaxMW - s.params.reserveMW → p.demand < s.head.panel.grant →
         s.head.ap.grant + s.head.radio.grant + p.demand + min s.head.light.demand s.params.lightFloorMW ≤ s.head.ceiling →
         g = min s.head.light.demand (s.head.ceiling - (s.head.ap.grant + p.demand + s.head.radio.grant)) →
         y = { s with
           turn := { s.turn with engine := .updating }, pool := { s.pool with feed := ⟨0, 0, 0, true, false⟩ },
           panel := { s.panel with
             rail := .driving, waitTimer := none,
             update := some { v with phase := .driving, frame := 0, frameTimer := some (s.now + 12) } },
           light := s.litBy g, head := { s.head with panel := ⟨p.demand, p.demand⟩, light := ⟨s.head.light.demand, g⟩ } } →
         (p.demand + s.head.radio.grant + s.params.apMW ≤ s.head.ceiling → exec .planningEnd s = .next y.apUp)
         ∧ (s.head.ceiling < p.demand + s.head.radio.grant + s.params.apMW → exec .planningEnd s = .next y))

/-- R82 to R87, R104, R120: the rails and their timers. -/
def Obligations.RailsFollowTheirTimers : Prop :=
  ∀ (s : State) (d h g : Nat),
    s.Quiet → s.NoTake → h = min (max 1 s.params.hotMW) s.head.panel.grant →
      g = min s.head.light.demand (s.head.ceiling - (s.head.ap.grant + h + s.head.radio.grant)) →
      (s.panel.riseTimer = some d → s.panel.update = none → 0 < s.params.railHoldMs → s.NoWaits →
         exec .railRiseEnd s = .next { s with
           now := max s.now d, light := s.litBy g,
           head := { s.head with panel := ⟨h, h⟩, light := ⟨s.head.light.demand, g⟩ },
           panel := { s.panel with rail := .hot, riseTimer := none, holdTimer := some (max s.now d + s.params.railHoldMs) } })
      ∧ (∀ u p f,
           s.panel.riseTimer = some d → s.panel.update = some u → u.phase = .rising → u.plan = some p →
             s.NoWaits →
             s.head.ap.grant + s.head.radio.grant + p.demand + min s.head.light.demand s.params.lightFloorMW ≤ s.head.ceiling →
             f = min s.head.light.demand (s.head.ceiling - (s.head.ap.grant + p.demand + s.head.radio.grant)) →
             exec .railRiseEnd s = .next { s with
               now := max s.now d,
               light := State.litBy { s with light := s.litBy g, head := { s.head with light := ⟨s.head.light.demand, g⟩ } } f,
               turn := { s.turn with engine := .updating }, pool := { s.pool with feed := ⟨0, 0, 0, true, false⟩ },
               head := { s.head with panel := ⟨p.demand, p.demand⟩, panelWait := none, light := ⟨s.head.light.demand, f⟩ },
               panel := { s.panel with
                 rail := .driving, riseTimer := none, holdTimer := none, waitTimer := none,
                 update := some { u with phase := .driving, frame := 0, frameTimer := some (max s.now d + 12) } } })
      ∧ (s.panel.holdTimer = some d → s.NoWaits →
           exec .railHoldExpiry s = .next { s with
             now := max s.now d, light := s.litBy g,
             head := { s.head with panel := ⟨h, h⟩, light := ⟨s.head.light.demand, g⟩ },
             panel := { s.panel with
               rail := .falling, riseTimer := none, holdTimer := none,
               fallTimer := some (max s.now d + s.params.railFallMs) } })
      ∧ (∀ f,
           s.panel.fallTimer = some d → s.panel.update = none → s.NoWaits →
             f = min s.head.light.demand (s.head.ceiling - (s.head.ap.grant + 0 + s.head.radio.grant)) →
             exec .railFallEnd s = .next { s with
               now := max s.now d, light := s.litBy f,
               head := { s.head with panel := ⟨0, 0⟩, light := ⟨s.head.light.demand, f⟩ },
               panel := { s.panel with rail := .off, fallTimer := none } })
      ∧ (∀ x f,
           s.panel.waitTimer = some d → s.turn.turn = some x → x.purpose = none → s.bs.ap = .on →
             s.turn.queue = [] → s.panel.rail = .off → s.head.alarm = none → s.head.apWait = none →
             s.head.parked = none → f = min s.head.light.demand (s.head.ceiling - s.head.loads) →
             exec .powerWaitExpiry s = .next { s with
               now := max s.now d, light := s.litBy f,
               head := { s.head with
                 panel := ⟨s.head.panel.grant, s.head.panel.grant⟩, panelWait := none,
                 light := ⟨s.head.light.demand, f⟩ },
               panel := { s.panel with target := none, update := none, waitTimer := none },
               turn := { s.turn with turn := none, engine := .idle },
               notices := { s.notices with
                 ap := s.notices.ap.modify 14 (fun n => n.raised (.turnAbandoned (some x.key) .noHeadroom)) } })

/-- R66, R75, R79, R83, R88 to R92, R184: the frames of a drive (the order of an end's effects is log 15), the drive
each pixel receives in a frame, and the rail enables. -/
def Obligations.DriveFramesRunToTheirEnd : Prop :=
  (∀ (s : State) (u : Update) (p : Plan) (d : Nat),
     s.panel.update = some u → u.frameTimer = some d → u.plan = some p → s.Quiet →
       (u.stopping = false → u.frame + 1 < p.frames → s.NoTake →
          exec .frameEnd s = .next { s with
            now := max s.now d,
            panel := { s.panel with update := some { u with frame := u.frame + 1, frameTimer := some (max s.now d + 12) } },
            pool := { s.pool with feed := ⟨0, 0, 0, true, false⟩ } })
       ∧ (∀ x k h g,
            u.stopping = false → p.frames ≤ u.frame + 1 → s.turn.turn = some x → x.purpose = none →
              s.bs.ap = .on → s.turn.queue = [] → s.NoWaits → 0 < s.params.railHoldMs →
              (s.slot u.target).key = some k → h = min (max 1 s.params.hotMW) s.head.panel.grant →
              g = min s.head.light.demand (s.head.ceiling - (s.head.ap.grant + h + s.head.radio.grant)) →
              exec .frameEnd s =
                .next (State.refill { s with
                    now := max s.now d, light := s.litBy g,
                    notices := { s.notices with ap := s.notices.ap.modify 17 (fun n => n.raised (.updateDone k u.mode)) },
                    head := { s.head with panel := ⟨h, h⟩, light := ⟨s.head.light.demand, g⟩ },
                    turn := { s.turn with turn := none, engine := .idle },
                    panel := { s.panel with
                      shown := some u.target, shownKey := some k, target := none,
                      fidelity := (if u.mode = .fast then .twoLevel else .exact),
                      ghost := (if u.mode = .full then 0 else min 255 (s.panel.ghost + 1)), update := none,
                      rail := .hot, riseTimer := none, holdTimer := some (max s.now d + s.params.railHoldMs) },
                    slots := { s.slots with
                      slots := s.slots.slots.set u.target { s.slot u.target with age := s.slots.use },
                      use := min 4294967295 (s.slots.use + 1) } }))
       ∧ (∀ x c h,
            u.stopping = true → s.head.alarm = some c → s.turn.turn = some x → x.purpose = none → s.bs.ap = .on →
              h = min (max 1 s.params.hotMW) s.head.panel.grant →
              exec .frameEnd s =
                .next (State.refill { s with
                    now := max s.now d, light := s.litBy 0,
                    head := { s.head with panel := ⟨h, h⟩, light := ⟨s.head.light.demand, 0⟩ },
                    turn := { s.turn with turn := none, engine := .halted },
                    panel := { s.panel with
                      shown := some u.target, shownKey := (s.slot u.target).key, target := none, fidelity := .unknown,
                      update := none, rail := .falling, riseTimer := none, holdTimer := none,
                      fallTimer := some (max s.now d + s.params.railFallMs) },
                    slots := { s.slots with
                      slots := s.slots.slots.set u.target { s.slot u.target with age := s.slots.use },
                      use := min 4294967295 (s.slots.use + 1) } })))
  ∧ (∀ (s : State) (row col : Nat),
       (s.panel.update = none → s.pixelDrive row col = .none)
       ∧ ∀ u,
           s.panel.update = some u →
             (u.phase ≠ .driving → s.pixelDrive row col = .none)
             ∧ ∀ (p : Plan) (band new src dst code : Nat) (old : Option Nat),
                 u.phase = .driving → u.plan = some p → u.band = some band →
                   new = ((imageRows (s.imageOf u.target)).getD row []).getD col 0 →
                   old = s.panel.shown.map (fun n => ((imageRows (s.imageOf n)).getD row []).getD col 0) →
                   dst = (if u.mode = .fast then if new ≤ 7 then 0 else 15 else new) →
                   src =
                     (match old, s.panel.fidelity with | none, _ => dst | some _, .unknown => dst | some l, .exact => l | some l, .twoLevel => if l ≤ 7 then 0 else 15) →
                   code =
                     s.pool.mem.driveCode ((match u.mode with | .full => 0 | .grey => 8 | .fast => 16) + band) src dst u.frame →
                   (row < p.firstRow ∨ p.lastRow < row → s.pixelDrive row col = .none)
                   ∧ (p.firstRow ≤ row → row ≤ p.lastRow →
                        (u.mode ≠ .full → src = dst → s.pixelDrive row col = .none)
                        ∧ (u.mode = .full ∨ src ≠ dst →
                             (code = 0 → s.pixelDrive row col = .none)
                             ∧ (code = 1 → s.pixelDrive row col = .toBlack)
                             ∧ (code = 2 → s.pixelDrive row col = .toWhite))))
  ∧ (∀ s : State,
       s.railsOn = true ↔ s.panel.rail = .rising ∨ s.panel.rail = .hot ∨ s.panel.rail = .driving
       ∨ s.panel.rail = .falling)

/-- R101 to R103: the total of a level on a curve, its split between the strings, its power, and the largest total a
grant allows. -/
def Obligations.LightPowerSplitsAndCaps : Prop :=
  ((∀ w f c t : Nat,
      w ≤ 64 →
        warmShare w t = t * w / 64 ∧ warmShare 64 t = t ∧ warmShare 0 t = 0 ∧ warmShare 32 t = t / 2
        ∧ lightPower w f c t * 1024 < t * w / 64 * f + (t - t * w / 64) * c + 1024
        ∧ t * w / 64 * f + (t - t * w / 64) * c ≤ lightPower w f c t * 1024 ∧ lightPower w f c 0 = 0
        ∧ lightPower w 0 0 t = 0
        ∧ ∀ u, t ≤ u → lightPower w f c t ≤ lightPower w f c u)
   ∧ ∀ w f c g r : Nat,
       fitTotal w f c g r ≤ r ∧ lightPower w f c (fitTotal w f c g r) ≤ g
       ∧ ∀ t, t ≤ r → lightPower w f c t ≤ g → t ≤ fitTotal w f c g r)
  ∧ (∀ (c : List Nat) (gap a b i t : Nat),
       c.length = 17 → c.Pairwise (· ≤ ·) → a ≤ 255 → i = a / 16 →
         t = c.getD i 0 + (c.getD (i + 1) 0 - c.getD i 0) * (a - 16 * i) / 16 →
         lightTotal c gap a = min t (1024 - 2 * gap) ∧ c.getD i 0 ≤ t ∧ t ≤ c.getD (i + 1) 0
         ∧ (a ≤ b → b ≤ 255 → lightTotal c gap a ≤ lightTotal c gap b) ∧ (c.getD 0 0 = 0 → lightTotal c gap 0 = 0)
         ∧ lightTotal ((List.range 17).map (fun k => 64 * k)) gap a = min (4 * a) (1024 - 2 * gap))

/-- R103 to R107: LIGHT_SET and a step of the ramp. -/
def Obligations.LightSetAndRampSteps : Prop :=
  (∀ (s : State) (x : LightSetArgs),
     s.Ready .a → s.NoWaits →
       ((255 < x.level ∨ ∃ w, x.warmth = some w ∧ 64 < w) →
          exec (.lightSet (freshFrame .a) (.fields x)) s = .next (s.refusedWith .a .badArgument))
       ∧ (x.level ≤ 255 → (x.warmth = none ∨ x.warmth = some s.light.warmth) → s.light.warmth ≤ 64 →
            exec (.lightSet (freshFrame .a) (.fields x)) s = .next { s.refusedWith .a .ok with
              light := { s.light with
                target := x.level,
                rampTimer := if s.light.alarmHold = true then
                  s.light.rampTimer
                else if x.level = s.light.applied then
                  none
                else if s.light.rampTimer = none then some (s.now + s.params.rampMs) else s.light.rampTimer } })
       ∧ (∀ w y g,
            x.level ≤ 255 → x.warmth = some w → w ≤ 64 → w ≠ s.light.warmth → s.lightComputes = true →
              y = { s with light := { s.light with warmth := w } } →
              g = min y.litDemand (s.head.ceiling - s.head.loads) →
              exec (.lightSet (freshFrame .a) (.fields x)) s = .next { s.refusedWith .a .ok with
                light := { y.litAnew g with
                  target := x.level,
                  rampTimer := if x.level = s.light.applied then
                    none
                  else if s.light.rampTimer = none then some (s.now + s.params.rampMs) else s.light.rampTimer },
                head := { s.head with light := ⟨y.litDemand, g⟩ } })
       ∧ (∀ w,
            x.level ≤ 255 → x.warmth = some w → w ≤ 64 → w ≠ s.light.warmth → s.lightComputes = false →
              exec (.lightSet (freshFrame .a) (.fields x)) s = .next { s.refusedWith .a .ok with
                light := { s.light with
                  warmth := w, target := x.level,
                  rampTimer := if s.light.alarmHold = true then
                    s.light.rampTimer
                  else if x.level = s.light.applied then
                    none
                  else if s.light.rampTimer = none then some (s.now + s.params.rampMs) else s.light.rampTimer } }))
  ∧ ∀ (s y : State) (d a g : Nat),
      s.light.rampTimer = some d → s.NoWaits →
        a = (if s.light.applied < s.light.target then s.light.applied + 1 else s.light.applied - 1) →
        y = { s with
          now := max s.now d,
          light := { s.light with
            applied := a, rampTimer := if a = s.light.target then none else some (max s.now d + s.params.rampMs) } } →
        g = min y.litDemand (s.head.ceiling - s.head.loads) →
        (s.lightComputes = true →
           exec .rampTimerExpiry s = .next { y with light := y.litAnew g, head := { s.head with light := ⟨y.litDemand, g⟩ } })
        ∧ (s.lightComputes = false → exec .rampTimerExpiry s = .next y)

/-- R97, R98, R100 to R102: LOAD_CURVE, a PWM period boundary and the strings in a period. -/
def Obligations.CurveLoadsAndPeriodsTakeBuffer : Prop :=
  ((∀ (s : State) (c : List Nat),
      s.Ready .a → s.NoWaits →
        (c.length = 17 → (∀ v ∈ c, v ≤ 1024) → c.head? = some 0 → c.Pairwise (· ≤ ·) →
           ∀ y g,
             y = { s with light := { s.light with curve := c } } →
               g = min y.litDemand (s.head.ceiling - s.head.loads) →
               (s.lightComputes = true →
                  exec (.loadCurve (freshFrame .a) (.fields ⟨c⟩)) s = .next { s.refusedWith .a .ok with
                    light := y.litAnew g, head := { s.head with light := ⟨y.litDemand, g⟩ } })
               ∧ (s.lightComputes = false →
                    exec (.loadCurve (freshFrame .a) (.fields ⟨c⟩)) s = .next { s.refusedWith .a .ok with light := { s.light with curve := c } }))
        ∧ (∀ (i : Nat),
             c.length = 17 → i < 17 → 1024 < c.getD i 0 → (∀ j < i, c.getD j 0 ≤ 1024) →
               exec (.loadCurve (freshFrame .a) (.fields ⟨c⟩)) s =
                 .next (s.replied .a ⟨.badArgument, .curveFault i .range⟩)))
   ∧ ∀ s : State,
       s.light.running = true → s.Quiet → s.NoTake →
         (∀ d,
            s.light.buffer = some d →
              exec .periodBoundary s = .next { s with light := { s.light with duty := d, buffer := none } })
         ∧ (s.light.buffer = none → exec .periodBoundary s = .next s))
  ∧ (∀ (s : State) (c : List Nat),
       s.Ready .a → c.length = 17 → (∀ v ∈ c, v ≤ 1024) →
         (c.getD 0 0 ≠ 0 →
            exec (.loadCurve (freshFrame .a) (.fields ⟨c⟩)) s =
              .next (s.replied .a ⟨.badArgument, .curveFault 0 .origin⟩))
         ∧ ∀ i,
             c.getD 0 0 = 0 → i < 16 → c.getD (i + 1) 0 < c.getD i 0 → (∀ j < i, c.getD j 0 ≤ c.getD (j + 1) 0) →
               exec (.loadCurve (freshFrame .a) (.fields ⟨c⟩)) s =
                 .next (s.replied .a ⟨.badArgument, .curveFault (i + 1) .order⟩))
  ∧ ((∀ (s : State) (n : Nat),
        (s.light.running = false → s.warmOut n = false ∧ s.coolOut n = false)
        ∧ (s.light.running = true →
             (s.warmOut n = true ↔ n < s.light.duty.warm)
             ∧ (s.coolOut n = true ↔ s.light.duty.warm + s.light.duty.gap ≤ n
                ∧ n < s.light.duty.warm + s.light.duty.gap + s.light.duty.cool))
        ∧ ¬(s.warmOut n = true ∧ s.coolOut n = true))
     ∧ ∀ w gap t : Nat,
         w ≤ 64 → gap ≤ 63 → t ≤ 1024 - 2 * gap →
           (splitTotal w gap t).warm + (splitTotal w gap t).cool = t ∧ (splitTotal w gap t).gap = gap
           ∧ (splitTotal w gap t).warm + (splitTotal w gap t).cool + 2 * (splitTotal w gap t).gap ≤ 1024)

/-- R104, R116, R121: TX_LEASE. What the NO_HEADROOM notice holds is log 21; that the limit test takes the idle share
of the RADIO grant for radio_idle_mW is the model's reading (log 35). -/
def Obligations.TxLeaseGrantedParkedOrRefused : Prop :=
  ∀ (s : State) (mW ms idle g f : Nat),
    s.Ready .r → idle = s.head.radio.grant - (s.head.active.map Lease.mW).getD 0 →
      g =
        min s.head.light.demand (s.head.ceiling - (s.head.ap.grant + s.head.panel.grant + (s.head.radio.grant + mW))) →
      f = min s.head.light.demand (s.head.ceiling - s.head.loads) →
      (¬(1 ≤ mW ∧ mW ≤ 3000 ∧ 10 ≤ ms ∧ ms ≤ 2000) →
         exec (.txLease (freshFrame .r) (.fields ⟨mW, ms⟩)) s = .next (s.refusedWith .r .badArgument))
      ∧ (1 ≤ mW → mW ≤ 3000 → 10 ≤ ms → ms ≤ 2000 →
           (s.head.alarm.isSome = true →
              exec (.txLease (freshFrame .r) (.fields ⟨mW, ms⟩)) s = .next (s.refusedWith .r .halted))
           ∧ (s.head.alarm = none → s.params.ceilingMaxMW - s.params.reserveMW < idle + mW → s.bs.ap = .on →
                exec (.txLease (freshFrame .r) (.fields ⟨mW, ms⟩)) s = .next { s.refusedWith .r .noHeadroom with
                  notices := { s.notices with
                    ap := s.notices.ap.modify 18 (fun n => n.raised (.noHeadroom .radio mW (s.params.ceilingMaxMW - s.params.reserveMW))) } })
           ∧ (s.head.alarm = none → idle + mW ≤ s.params.ceilingMaxMW - s.params.reserveMW →
                s.head.apWait = none → s.head.panelWait = none →
                (s.head.active = none →
                   s.head.loads + mW + min s.head.light.demand s.params.lightFloorMW ≤ s.head.ceiling →
                   exec (.txLease (freshFrame .r) (.fields ⟨mW, ms⟩)) s = .next { s.refusedWith .r .ok with
                     light := s.litBy g,
                     head := { s.head with
                       radio := ⟨s.head.radio.demand + mW, s.head.radio.grant + mW⟩,
                       active := some ⟨mW, ms, s.now, s.now + ms, .atOnce⟩, unreleased := none,
                       light := ⟨s.head.light.demand, g⟩ } })
                ∧ (s.head.active.isSome = true
                     ∨ s.head.ceiling < s.head.loads + mW + min s.head.light.demand s.params.lightFloorMW →
                     exec (.txLease (freshFrame .r) (.fields ⟨mW, ms⟩)) s = .next { s.refusedWith .r .accepted with
                       light := s.litBy f,
                       head := { s.head with parked := some ⟨mW, ms⟩, light := ⟨s.head.light.demand, f⟩ } })))

/-- R115, R118, R122 to R124, R127: TX_RELEASE, the lease expiry and the revocation of a lease. That a lease revoked
at the ceiling drop and a parked one cleared by the alarm of the same sample are two removals is the model's choice
(log 41). -/
def Obligations.LeaseEndsAtReleaseOrExpiry : Prop :=
  ((∀ (s : State) (l : Lease) (g : Nat),
      s.Ready .r → s.head.active = some l → s.NoWaits →
        g =
          min s.head.light.demand (s.head.ceiling - (s.head.ap.grant + s.head.panel.grant + (s.head.radio.grant - l.mW))) →
        exec (.txRelease (freshFrame .r) (.fields ())) s = .next { s.refusedWith .r .ok with
          light := s.litBy g,
          head := { s.head with
            active := none, unreleased := none, light := ⟨s.head.light.demand, g⟩,
            radio := ⟨s.head.radio.demand - l.mW, s.head.radio.grant - l.mW⟩ } })
   ∧ (∀ s : State,
        s.Ready .r → s.head.active = none →
          (s.head.unreleased.isSome = true →
             exec (.txRelease (freshFrame .r) (.fields ())) s = .next { s.refusedWith .r .late with head := { s.head with unreleased := none } })
          ∧ (s.head.unreleased = none →
               exec (.txRelease (freshFrame .r) (.fields ())) s = .next (s.refusedWith .r .refusedState)))
   ∧ (∀ (s : State) (l : Lease) (g : Nat),
        s.head.active = some l → s.NoWaits →
          g =
            min s.head.light.demand (s.head.ceiling - (s.head.ap.grant + s.head.panel.grant + (s.head.radio.grant - l.mW))) →
          exec .leaseExpiry s = .next { s with
            now := max s.now l.expiry, light := s.litBy g,
            head := { s.head with
              active := none, unreleased := some .expired, light := ⟨s.head.light.demand, g⟩,
              radio := ⟨s.head.radio.demand - l.mW, s.head.radio.grant - l.mW⟩ } }))
  ∧ ((∀ (s : State) (x : Sample) (voc imax ceiling : Nat) (l : Lease),
        voc = x.v + (if x.i < 0 then x.i.natAbs else 0) * s.params.resrMOhm / 1000 →
          imax = (if voc ≤ s.params.vcutMV then 0 else (voc - s.params.vcutMV) * 1000 / s.params.resrMOhm) →
          ceiling = min (imax * s.params.vcutMV / 1000) s.params.ceilingMaxMW - s.params.reserveMW →
          s.bs.power ≠ .depleted → s.head.sampled = true → s.head.alarm = none → s.head.active = some l →
          (ceiling < s.head.loads → exec (.batterySample x) s = exec (.batterySample x) (s.revoked l .ceiling))
          ∧ (s.head.loads ≤ ceiling → x.v < s.params.vcutMV → s.head.parked = none →
               exec (.batterySample x) s = exec (.batterySample x) (s.revoked l .alarm))
          ∧ (∀ p,
               s.head.loads ≤ ceiling → x.v < s.params.vcutMV → s.head.parked = some p →
                 exec (.batterySample x) s =
                   exec (.batterySample x) { s.revoked l .alarm with
                     head := { (s.revoked l .alarm).head with parked := none },
                     notices := if s.bs.radio then
                       { s.notices with rm := s.notices.rm.set 2 (some (.leaseRevoked l.mW .alarm .both)) }
                     else s.notices }))
     ∧ (∀ (s : State) (x : Sample) (p : ParkedLease),
          s.bs.power ≠ .depleted → s.head.sampled = true → s.head.alarm = none → s.head.active = none →
            s.head.parked = some p → x.v < s.params.vcutMV →
            exec (.batterySample x) s =
              exec (.batterySample x) { s with
                head := { s.head with parked := none },
                notices := if s.bs.radio then
                  { s.notices with rm := s.notices.rm.set 2 (some (.leaseRevoked p.mW .alarm .parked)) }
                else s.notices })
     ∧ (∀ (s z : State) (src : Source) (d : Detail) (l : Lease) (g : Nat),
          z = (s.noted src d).revoked l .ap → ¬s.NoWake src → s.bs.depleting = false → s.bs.power = .doze →
            s.bs.ap = .off → s.NoWaits → s.head.active = some l →
            s.head.ceiling < s.head.panel.grant + s.head.radio.grant + s.params.apMW →
            g =
              min s.head.light.demand (s.head.ceiling - (s.head.ap.grant + s.head.panel.grant + (s.head.radio.grant - l.mW))) →
            (s.head.panel.grant + (s.head.radio.grant - l.mW) + s.params.apMW ≤ s.head.ceiling →
               s.raise src d = z.apUp)
            ∧ (s.head.ceiling < s.head.panel.grant + (s.head.radio.grant - l.mW) + s.params.apMW →
                 z.NoWake .noHeadroom →
                 s.raise src d = { z.apWaiting .judged with
                   light := s.litBy g, head := { (z.apWaiting .judged).head with light := ⟨s.head.light.demand, g⟩ },
                   notices := { z.notices with
                     ap := z.notices.ap.modify 18 (fun n => n.raised (.noHeadroom .ap s.params.apMW s.head.ceiling)) } })))

/-- R125: TX_CANCEL. -/
def Obligations.TxCancelRemovesParkedLease : Prop :=
  ∀ s : State,
    s.Ready .r →
      (s.head.parked.isSome = true →
         exec (.txCancel (freshFrame .r) (.fields ())) s = .next { s.refusedWith .r .ok with head := { s.head with parked := none } })
      ∧ (∀ l,
           s.head.parked = none → s.head.active = some l → l.origin = .fromPark →
             exec (.txCancel (freshFrame .r) (.fields ())) s = .next (s.refusedWith .r .late))
      ∧ (s.head.parked = none → (s.head.active = none ∨ ∃ l, s.head.active = some l ∧ l.origin = .atOnce) →
           exec (.txCancel (freshFrame .r) (.fields ())) s = .next (s.refusedWith .r .refusedState))

/-- R109, R113, R129, R130: CLEAR_ALARM and the alarm's clear timer; the vcut they use is that of the last sample (log
35). -/
def Obligations.PowerAlarmClears : Prop :=
  ∀ (s y : State) (g : Nat),
    s.head.apWait = none → s.head.panelWait = none → s.head.parked = none → s.Quiet → s.turn.queue = [] →
      s.head.alarm.isSome = true →
      y = { s with
        light := { s.light with
          alarmHold := false,
          rampTimer := if s.light.running = false then
            s.light.rampTimer
          else if s.light.target = s.light.applied then
            none
          else if s.light.rampTimer = none then some (s.now + s.params.rampMs) else s.light.rampTimer } } →
      g = min s.head.light.demand (s.head.ceiling - s.head.loads) →
      (s.Ready .a → s.head.vcut ≤ s.head.v → s.head.loads ≤ s.head.ceiling →
         exec (.clearAlarm (freshFrame .a) (.fields ())) s = .next { s.refusedWith .a .ok with
           light := y.litBy g,
           turn := { s.turn with engine := (if s.turn.engine = .halted then .idle else s.turn.engine) },
           head := { s.head with alarm := none, clearTimer := none, light := ⟨s.head.light.demand, g⟩ } })
      ∧ (s.Ready .a → ¬(s.head.vcut ≤ s.head.v ∧ s.head.loads ≤ s.head.ceiling) →
           exec (.clearAlarm (freshFrame .a) (.fields ())) s =
             .next (s.replied .a ⟨.refusedState, .alarmStays s.head.v s.head.vcut s.head.loads s.head.ceiling⟩))
      ∧ (∀ d z,
           s.head.clearTimer = some d →
             z = { s with
               light := { s.light with
                 alarmHold := false,
                 rampTimer := if s.light.running = false then
                   s.light.rampTimer
                 else if s.light.target = s.light.applied then
                   none
                 else if s.light.rampTimer = none then some (max s.now d + s.params.rampMs) else s.light.rampTimer } } →
             exec .alarmClearTimerExpiry s = .next { s with
               now := max s.now d, light := State.litBy z g,
               turn := { s.turn with engine := (if s.turn.engine = .halted then .idle else s.turn.engine) },
               head := { s.head with alarm := none, clearTimer := none, light := ⟨s.head.light.demand, g⟩ } })

/-- R114 to R117, R134 to R138, R141, R144: a sample that raises no alarm. That the AP is powered as DEEP is left,
before the memory reports its exit, is the model's reading (log 38). -/
def Obligations.SampleSetsCeilingAndCharge : Prop :=
  ∀ (s y : State) (x : Sample) (voc imax capped pct q g : Nat) (k r r' : Int) (ch : Charger) (nb : Battery),
    voc = x.v + (if x.i < 0 then x.i.natAbs else 0) * s.params.resrMOhm / 1000 →
      imax = (if voc ≤ s.params.vcutMV then 0 else (voc - s.params.vcutMV) * 1000 / s.params.resrMOhm) →
      capped = min (imax * s.params.vcutMV / 1000) s.params.ceilingMaxMW →
      r = s.bs.r + x.i * (if s.bs.power = .deep then 4000 else 250) → k = Int.tdiv r 3600000 →
      (q, r') =
        (if (s.params.capacityMAh : Int) < s.bs.q + k then
           (s.params.capacityMAh, 0)
         else if (s.bs.q : Int) + k < 0 then (0, 0) else (((s.bs.q : Int) + k).toNat, r - k * 3600000)) →
      pct = q * 100 / s.params.capacityMAh →
      ch =
        (if s.pins.chgPresent = true ∧ s.pins.chgDone = true then .done else if 20 < x.i then .charging else .absent) →
      nb = s.bs.battery.next s.params pct capped (decide (ch ≠ .absent)) →
      g = min s.head.light.demand (capped - s.params.reserveMW - s.head.loads) → s.bs.power ≠ .depleted → s.Quiet →
      s.NoTake → s.NoWaits → s.head.sampled = true → s.params.vcutMV ≤ x.v →
      s.head.loads ≤ capped - s.params.reserveMW →
      y = { s with
        head := { s.head with
          v := x.v, i := x.i, capped := capped, ceiling := capped - s.params.reserveMW, vcut := s.params.vcutMV,
          light := ⟨s.head.light.demand, g⟩ },
        light := s.litBy g,
        bs := { s.bs with
          lastV := x.v, lastI := x.i, q := q, r := r', percent := pct, charger := ch, battery := nb,
          graceTimer := if nb = s.bs.battery then
            s.bs.graceTimer
          else if nb = .critical then some (s.now + s.params.critGraceS * 1000) else none },
        notices := { s.notices with
          ap := (if nb = s.bs.battery ∨ nb = .normal then
             s.notices.ap
           else if nb = .low then
             s.notices.ap.modify 6 (fun n => n.raised (.batteryLow pct q))
           else s.notices.ap.modify 7 (fun n => n.raised (.batteryCritical pct (if capped = 0 then .headroom else .percent) s.params.critGraceS))) } } →
      ((nb ≠ s.bs.battery → nb ≠ .normal → s.NoWake (if nb = .low then .batteryLow else .batteryCritical)) →
         exec (.batterySample x) s = .next y)
      ∧ (nb ≠ s.bs.battery → nb ≠ .normal → ¬s.NoWake (if nb = .low then .batteryLow else .batteryCritical) →
           s.bs.ap = .off → s.bs.depleting = false →
           s.head.panel.grant + s.head.radio.grant + s.params.apMW ≤ capped - s.params.reserveMW →
           (s.bs.power = .doze → exec (.batterySample x) s = .next y.apUp)
           ∧ (s.bs.power = .deep → s.bs.resumeKey = none → s.pool.mode = .selfRefresh →
                exec (.batterySample x) s = .next y.outOfDeep.apUp))

/-- R52, R64, R83, R91, R92, R108, R114, R118, R127, R128, R134 to R138: a sample that meets a cause of the power
alarm, with the engine IDLE and rails OFF, and, with AP ON, with an update in hand or a miss wait in progress. That
the cause is VOLTAGE also where the loads exceed the new ceiling is the model's (log 16). -/
def Obligations.LowVoltageSampleRaisesAlarm : Prop :=
  (∀ (s : State) (x : Sample) (voc imax capped pct q : Nat) (k r r' : Int) (ch : Charger) (nb : Battery) (c : AlarmCause) (ap : List Notice) (a y : State),
     voc = x.v + (if x.i < 0 then x.i.natAbs else 0) * s.params.resrMOhm / 1000 →
       imax = (if voc ≤ s.params.vcutMV then 0 else (voc - s.params.vcutMV) * 1000 / s.params.resrMOhm) →
       capped = min (imax * s.params.vcutMV / 1000) s.params.ceilingMaxMW →
       r = s.bs.r + x.i * (if s.bs.power = .deep then 4000 else 250) → k = Int.tdiv r 3600000 →
       (q, r') =
         (if (s.params.capacityMAh : Int) < s.bs.q + k then
            (s.params.capacityMAh, 0)
          else if (s.bs.q : Int) + k < 0 then (0, 0) else (((s.bs.q : Int) + k).toNat, r - k * 3600000)) →
       pct = q * 100 / s.params.capacityMAh →
       ch =
         (if s.pins.chgPresent = true ∧ s.pins.chgDone = true then
            .done
          else if 20 < x.i then .charging else .absent) →
       nb = s.bs.battery.next s.params pct capped (decide (ch ≠ .absent)) →
       ap = s.notices.ap.modify 8 (fun n => n.raised (.powerAlarm c x.v (capped - s.params.reserveMW))) →
       s.bs.power ≠ .depleted → s.Quiet → s.head.sampled = true → s.head.alarm = none →
       (x.v < s.params.vcutMV ∧ c = .voltage
        ∨ s.params.vcutMV ≤ x.v ∧ capped - s.params.reserveMW < s.head.loads ∧ c = .ceiling) →
       s.panel.update = none → s.panel.rail = .off → s.turn.engine = .idle → s.head.active = none →
       s.head.parked = none →
       a = { s with
         head := { s.head with
           v := x.v, i := x.i, capped := capped, ceiling := capped - s.params.reserveMW, vcut := s.params.vcutMV,
           light := ⟨0, 0⟩, alarm := some c, clearTimer := none },
         light := { s.light with
           duty := ⟨0, 0, s.light.duty.gap⟩, buffer := none, applied := 0, rampTimer := none, total := 0,
           alarmHold := true, capped := false },
         turn := { s.turn with engine := .halted },
         notices := { s.notices with ap := ap, wakeOut := if s.NoWake .powerAlarm then s.notices.wakeOut else true } } →
       ((s.NoWake .powerAlarm
         ∧ (nb ≠ s.bs.battery → nb ≠ .normal → s.NoWake (if nb = .low then .batteryLow else .batteryCritical))
         ∧ y = a)
        ∨ (¬s.NoWake .powerAlarm ∧ s.bs.ap = .off ∧ s.bs.depleting = false
           ∧ ((s.bs.power = .doze ∧ y = a.apWaiting .unjudged)
              ∨ (s.bs.power = .deep ∧ s.bs.resumeKey = none ∧ s.pool.mode = .selfRefresh
                 ∧ y = a.outOfDeep.apWaiting .unjudged)))) →
       exec (.batterySample x) s = .next { y with
         bs := { y.bs with
           lastV := x.v, lastI := x.i, q := q, r := r', percent := pct, charger := ch, battery := nb,
           graceTimer := if nb = s.bs.battery then
             s.bs.graceTimer
           else if nb = .critical then some (s.now + s.params.critGraceS * 1000) else none },
         notices := { y.notices with
           ap := (if nb = s.bs.battery ∨ nb = .normal then
              ap
            else if nb = .low then
              ap.modify 6 (fun n => n.raised (.batteryLow pct q))
            else ap.modify 7 (fun n => n.raised (.batteryCritical pct (if capped = 0 then .headroom else .percent) s.params.critGraceS))) } })
  ∧ (∀ (s : State) (x : Sample) (voc imax capped pct q : Nat) (k r r' : Int) (ch : Charger) (nb : Battery) (c : AlarmCause) (y : State),
       voc = x.v + (if x.i < 0 then x.i.natAbs else 0) * s.params.resrMOhm / 1000 →
         imax = (if voc ≤ s.params.vcutMV then 0 else (voc - s.params.vcutMV) * 1000 / s.params.resrMOhm) →
         capped = min (imax * s.params.vcutMV / 1000) s.params.ceilingMaxMW →
         r = s.bs.r + x.i * (if s.bs.power = .deep then 4000 else 250) → k = Int.tdiv r 3600000 →
         (q, r') =
           (if (s.params.capacityMAh : Int) < s.bs.q + k then
              (s.params.capacityMAh, 0)
            else if (s.bs.q : Int) + k < 0 then (0, 0) else (((s.bs.q : Int) + k).toNat, r - k * 3600000)) →
         pct = q * 100 / s.params.capacityMAh →
         ch =
           (if s.pins.chgPresent = true ∧ s.pins.chgDone = true then
              .done
            else if 20 < x.i then .charging else .absent) →
         nb = s.bs.battery.next s.params pct capped (decide (ch ≠ .absent)) → s.bs.power ≠ .depleted →
         s.bs.ap = .on → s.Quiet → s.head.sampled = true → s.head.alarm = none →
         (x.v < s.params.vcutMV ∧ c = .voltage
          ∨ s.params.vcutMV ≤ x.v ∧ capped - s.params.reserveMW < s.head.loads ∧ c = .ceiling) →
         s.head.active = none → s.head.parked = none →
         y = { s with
           head := { s.head with
             v := x.v, i := x.i, capped := capped, ceiling := capped - s.params.reserveMW, vcut := s.params.vcutMV,
             light := ⟨0, 0⟩, alarm := some c, clearTimer := none },
           light := { s.light with
             duty := ⟨0, 0, s.light.duty.gap⟩, buffer := none, applied := 0, rampTimer := none, total := 0,
             alarmHold := true, capped := false },
           bs := { s.bs with
             lastV := x.v, lastI := x.i, q := q, r := r', percent := pct, charger := ch, battery := nb,
             graceTimer := if nb = s.bs.battery then
               s.bs.graceTimer
             else if nb = .critical then some (s.now + s.params.critGraceS * 1000) else none } } →
         (∀ u l,
            s.panel.update = some u → u.phase = .driving → s.turn.engine = .updating →
              l = s.notices.ap.modify 8 (fun n => n.raised (.powerAlarm c x.v (capped - s.params.reserveMW))) →
              exec (.batterySample x) s = .next { y with
                panel := { s.panel with update := some { u with stopping := true } },
                notices := { s.notices with
                  ap := (if nb = s.bs.battery ∨ nb = .normal then
                     l
                   else if nb = .low then
                     l.modify 6 (fun n => n.raised (.batteryLow pct q))
                   else l.modify 7 (fun n => n.raised (.batteryCritical pct (if capped = 0 then .headroom else .percent) s.params.critGraceS))) } })
         ∧ ∀ (key : PageKey) (md : TurnMode) (org : Origin) (pp : Option Purpose) (es : List Entry) (l : List Notice) (rl : Rail) (pg : Allot) (rt ht ft : Option Nat),
             (∃ l0,
                  PlacedAtHead ⟨org, .goto key, md, pp⟩ s.turn.queue s.notices.ap es l0
                  ∧ l = l0.modify 8 (fun n => n.raised (.powerAlarm c x.v (capped - s.params.reserveMW)))) →
               ((s.panel.rail = .rising ∨ s.panel.rail = .hot) ∧ rl = .falling
                ∧ pg.demand = min (max 1 s.params.hotMW) s.head.panel.grant ∧ pg.grant = pg.demand
                ∧ rt = none ∧ ht = none ∧ ft = some (s.now + s.params.railFallMs)
                ∨ (s.panel.rail = .falling ∨ s.panel.rail = .off) ∧ rl = s.panel.rail
                  ∧ pg.demand = s.head.panel.grant ∧ pg.grant = s.head.panel.grant
                  ∧ rt = s.panel.riseTimer ∧ ht = s.panel.holdTimer ∧ ft = s.panel.fallTimer) →
               (∀ u t,
                  s.panel.update = some u → u.phase ≠ .driving →
                    s.turn.engine = .updating ∨ s.turn.engine = .waitingPower → s.turn.turn = some t → t.key = key →
                    t.asked = md → t.origin = org → t.purpose = pp →
                    exec (.batterySample x) s = .next { y with
                      turn := { s.turn with turn := none, engine := .halted, queue := es },
                      panel := { s.panel with
                        target := none, update := none, waitTimer := none, rail := rl, riseTimer := rt, holdTimer := ht,
                        fallTimer := ft },
                      head := { y.head with panel := pg, panelWait := none },
                      notices := { s.notices with
                        ap := (if nb = s.bs.battery ∨ nb = .normal then
                           l
                         else if nb = .low then
                           l.modify 6 (fun n => n.raised (.batteryLow pct q))
                         else l.modify 7 (fun n => n.raised (.batteryCritical pct (if capped = 0 then .headroom else .percent) s.params.critGraceS))) } })
               ∧ ∀ m,
                   s.panel.update = none → s.head.panel.demand = s.head.panel.grant →
                     s.turn.engine = .waitingPage → s.turn.miss = some m → m.key = key → m.mode = md →
                     m.origin = org → m.purpose = pp →
                     exec (.batterySample x) s = .next { y with
                       turn := { s.turn with miss := none, engine := .halted, queue := es },
                       panel := { s.panel with rail := rl, riseTimer := rt, holdTimer := ht, fallTimer := ft },
                       head := { y.head with panel := pg },
                       notices := { s.notices with
                         ap := (if nb = s.bs.battery ∨ nb = .normal then
                            l
                          else if nb = .low then
                            l.modify 6 (fun n => n.raised (.batteryLow pct q))
                          else l.modify 7 (fun n => n.raised (.batteryCritical pct (if capped = 0 then .headroom else .percent) s.params.critGraceS))) } })

/-- R115, R134, R139, R149: power-on with its first sample, and the restart samples of DEPLETED. That the waiting
commands stay is the model's choice (log 3). -/
def Obligations.PowerOnAndRestartBegin : Prop :=
  (∀ (s : State) (p : StartPins) (x : Sample) (voc imax capped : Nat),
     voc = x.v + (if x.i < 0 then x.i.natAbs else 0) * Params.defaults.resrMOhm / 1000 →
       imax =
         (if voc ≤ Params.defaults.vcutMV then
            0
          else (voc - Params.defaults.vcutMV) * 1000 / Params.defaults.resrMOhm) →
       capped = min (imax * Params.defaults.vcutMV / 1000) Params.defaults.ceilingMaxMW → -3000 ≤ x.i → x.i ≤ 3000 →
       Params.defaults.vcutMV ≤ x.v → Params.defaults.apMW ≤ capped - Params.defaults.reserveMW →
       ∀ c : Controller,
         c = Controller.start p.chgPresent p.chgDone →
           c.power = .run ∧ c.ap = .on ∧ c.radio = false ∧ c.q = 750 ∧ c.battery = .normal
           ∧ exec (.powerOn p x) s = .next { State.start ⟨[p.k0, p.k1, p.k2, p.k3], p.chgPresent, p.chgDone, p.awake⟩ with
               pending := s.pending,
               head := { Headroom.reset with
                 v := x.v, i := x.i, capped := capped, ceiling := capped - Params.defaults.reserveMW,
                 ap := ⟨Params.defaults.apMW, Params.defaults.apMW⟩, sampled := true },
               bs := { c with
                 lastV := x.v, lastI := x.i, r := x.i * 250, percent := 50,
                 charger := (if p.chgPresent = true ∧ p.chgDone = true then .done else if 20 < x.i then .charging else .absent) } })
  ∧ (∀ (s : State) (v : Nat) (x : Sample) (d : Nat),
       s.bs.restartTimer = some d →
         (v < s.params.restartMV →
            exec (.depletedRestartSample v x) s = .next { s with now := max s.now d, bs := { s.bs with restartTimer := some (max s.now d + 4000) } })
         ∧ (∀ p : StartPins,
              s.params.restartMV ≤ v → s.pins = ⟨[p.k0, p.k1, p.k2, p.k3], p.chgPresent, p.chgDone, p.awake⟩ →
                exec (.depletedRestartSample v x) s = exec (.powerOn p x) s))

/-- R141, R144, R147: SET_TIME, SET_ALARM, the time counter and the wake alarm. That the radio and the AP are powered
as DEEP is left, before the memory reports its exit, is the model's reading (log 38). -/
def Obligations.TimeAndAlarm : Prop :=
  (∀ s : State,
     s.Ready .a →
       (∀ t a,
          s.bs.alarm = some a → a ≤ t →
            exec (.setTime (freshFrame .a) (.fields ⟨t⟩)) s = .next { s.replied .a ⟨.ok, .timeSet true⟩ with bs := { s.bs with time := t, alarm := none } })
       ∧ (∀ t,
            (∀ a, s.bs.alarm = some a → t < a) →
              exec (.setTime (freshFrame .a) (.fields ⟨t⟩)) s = .next { s.replied .a ⟨.ok, .timeSet false⟩ with bs := { s.bs with time := t } })
       ∧ (∀ t,
            s.bs.time < t →
              exec (.setAlarm (freshFrame .a) (.fields ⟨some t⟩)) s = .next { s.refusedWith .a .ok with bs := { s.bs with alarm := some t } })
       ∧ (∀ t,
            t ≤ s.bs.time →
              exec (.setAlarm (freshFrame .a) (.fields ⟨some t⟩)) s = .next (s.refusedWith .a .badArgument))
       ∧ exec (.setAlarm (freshFrame .a) (.fields ⟨none⟩)) s = .next { s.refusedWith .a .ok with bs := { s.bs with alarm := none } })
  ∧ (∀ (s : State) (next : Nat),
       next = (if s.bs.time = 4294967295 then 0 else s.bs.time + 1) → s.bs.power ≠ .depleted → s.Quiet →
         s.NoTake →
         (s.bs.alarm ≠ some next → exec .timeCounterStep s = .next { s with bs := { s.bs with time := next } })
         ∧ (s.bs.alarm = some next → s.bs.power ≠ .deep → s.bs.ap = .on →
              exec .timeCounterStep s = .next { s with
                bs := { s.bs with time := next, alarm := none, outcome := some .firedAwake },
                notices := { s.notices with ap := s.notices.ap.modify 10 (fun n => n.raised (.wakeAlarm next none)) } })
         ∧ (s.bs.alarm = some next → s.bs.power = .deep → s.bs.battery ≠ .normal →
              exec .timeCounterStep s = .next { s with bs := { s.bs with time := next, alarm := none, outcome := some .skippedBattery } })
         ∧ (s.bs.alarm = some next → s.bs.power = .deep → s.bs.battery = .normal → s.bs.ap = .off →
              s.bs.radio = false → s.bs.resumeKey = none → s.pool.mode = .selfRefresh → s.head.alarm = none →
              s.head.ap.grant + s.head.panel.grant + s.params.radioIdleMW ≤ s.head.ceiling →
              ∀ z y g,
                z = { s with
                    light := { s.light with running := true, duty := ⟨0, 0, s.params.deadGap⟩, buffer := none } } →
                  g =
                    min s.head.light.demand (s.head.ceiling - (s.head.ap.grant + s.head.panel.grant + s.params.radioIdleMW)) →
                  y = { s with
                    light := State.litBy z g, pool := { s.pool with mode := .leaving },
                    head := { s.head with
                      radio := ⟨s.params.radioIdleMW, s.params.radioIdleMW⟩, light := ⟨s.head.light.demand, g⟩ },
                    bs := { s.bs with
                      time := next, alarm := none, outcome := some .firedDeep, radio := true, power := .doze,
                      idleTimer := some (s.now + s.params.dozeIdleMin * 60000) },
                    notices := { s.notices with
                      ap := s.notices.ap.modify 10 (fun n => n.raised (.wakeAlarm next (some true))) } } →
                  (s.NoWake .wakeAlarm → exec .timeCounterStep s = .next y)
                  ∧ (¬s.NoWake .wakeAlarm → s.bs.depleting = false →
                       s.head.panel.grant + s.params.radioIdleMW + s.params.apMW ≤ s.head.ceiling →
                       exec .timeCounterStep s = .next y.apUp)))

/-- R119, R126, R139, R146, R173, R177: RADIO_POWER and RADIO_SLEEP (what the NO_HEADROOM notice holds is log 21), and
the domain enables. -/
def Obligations.RadioDomainFollowsRequests : Prop :=
  (∀ s : State,
     s.Quiet → s.NoTake → s.NoWaits →
       (s.Ready .a →
          (s.bs.radio = true → exec (.radioPower (freshFrame .a) (.fields ⟨true⟩)) s = .next (s.refusedWith .a .ok))
          ∧ (s.bs.radio = false →
               exec (.radioPower (freshFrame .a) (.fields ⟨false⟩)) s = .next (s.refusedWith .a .ok))
          ∧ (s.bs.radio = false → s.head.ap.grant + s.head.panel.grant + s.params.radioIdleMW ≤ s.head.ceiling →
               exec (.radioPower (freshFrame .a) (.fields ⟨true⟩)) s = .next { s.refusedWith .a .ok with
                 light := s.litBy (min s.head.light.demand (s.head.ceiling - (s.head.ap.grant + s.head.panel.grant + s.params.radioIdleMW))),
                 bs := { s.bs with radio := true },
                 head := { s.head with
                   radio := ⟨s.params.radioIdleMW, s.params.radioIdleMW⟩,
                   light := ⟨s.head.light.demand,
                     min s.head.light.demand (s.head.ceiling - (s.head.ap.grant + s.head.panel.grant + s.params.radioIdleMW))⟩ } })
          ∧ (s.bs.radio = false → s.head.ceiling < s.head.ap.grant + s.head.panel.grant + s.params.radioIdleMW →
               s.bs.ap = .on →
               exec (.radioPower (freshFrame .a) (.fields ⟨true⟩)) s = .next { s.refusedWith .a .noHeadroom with
                 notices := { s.notices with
                   ap := s.notices.ap.modify 18 (fun n => n.raised (.noHeadroom .radio s.params.radioIdleMW s.head.ceiling)) } })
          ∧ (s.bs.radio = true →
               ∃ t,
                 exec (.radioPower (freshFrame .a) (.fields ⟨false⟩)) s = .next t
                 ∧ t.portA = (s.refusedWith .a .ok).portA ∧ t.portR = s.portR.domainOff
                 ∧ t.bs = { s.bs with radio := false }
                 ∧ t.head = { s.head with
                     radio := ⟨0, 0⟩, active := none, unreleased := none,
                     light := ⟨s.head.light.demand,
                       min s.head.light.demand (s.head.ceiling - (s.head.ap.grant + s.head.panel.grant))⟩ }
                 ∧ t.staging.anyOpen = false ∧ t.staging.queue = s.staging.queue
                 ∧ t.notices = { s.notices with rm := List.replicate 5 none }
                 ∧ t.light =
                     s.litBy (min s.head.light.demand (s.head.ceiling - (s.head.ap.grant + s.head.panel.grant)))
                 ∧ t.staging.watch = none ∧ t.staging.writing = s.staging.writing
                 ∧ t.pool = { s.pool with owners := t.pool.owners, free := t.pool.free }
                 ∧ s.RingKept t ∧ t.slots = s.slots ∧ t.turn = s.turn ∧ t.panel = s.panel
                 ∧ t.params = s.params ∧ t.shares = s.shares ∧ t.pins = s.pins ∧ t.now = s.now
                 ∧ t.pending = s.pending))
       ∧ (s.Ready .r → s.bs.radio = true →
            ∃ t,
              exec (.radioSleep (freshFrame .r) (.fields ())) s = .next t
              ∧ t.portR = { s.portR with
                  state := .waitingSync, buffer := [], busy := none, held := none, answer := none,
                  lastAnswer := some (Answer.plain .ok) } ∧ t.portA = s.portA ∧ t.bs = { s.bs with radio := false }
              ∧ t.head = { s.head with
                  radio := ⟨0, 0⟩, active := none, unreleased := none,
                  light := ⟨s.head.light.demand,
                    min s.head.light.demand (s.head.ceiling - (s.head.ap.grant + s.head.panel.grant))⟩ }
              ∧ t.staging.anyOpen = false ∧ t.staging.queue = s.staging.queue
              ∧ t.notices = { s.notices with rm := List.replicate 5 none }
              ∧ t.light =
                  s.litBy (min s.head.light.demand (s.head.ceiling - (s.head.ap.grant + s.head.panel.grant)))
              ∧ t.staging.watch = none ∧ t.staging.writing = s.staging.writing
              ∧ t.pool = { s.pool with owners := t.pool.owners, free := t.pool.free }
              ∧ s.RingKept t ∧ t.slots = s.slots ∧ t.turn = s.turn ∧ t.panel = s.panel
              ∧ t.params = s.params ∧ t.shares = s.shares ∧ t.pins = s.pins ∧ t.now = s.now
              ∧ t.pending = s.pending))
  ∧ (∀ s : State, (s.enAp = true ↔ s.bs.ap = .on) ∧ (s.enRadio = true ↔ s.bs.radio = true))

/-- R40, R41, R139, R140, R142: SLEEP, the fall of AWAKE and the AP off timer, to DOZE (the order in which the FILLING
slots are emptied, which shows in the free list, is log 30). -/
def Obligations.SleepStopsTheAp : Prop :=
  (∀ (s : State) (x : SleepTarget) (awake : Bool),
     s.Ready .a →
       (s.bs.power = .run → awake = true →
          exec (.sleep (freshFrame .a) (.fields ⟨x⟩) awake) s = .next { s.refusedWith .a .ok with
            pins := { s.pins with awake := true },
            bs := { s.bs with
              power := .apStopping, sleepTarget := some x, apOffTimer := some (s.now + s.params.apOffTimeoutS * 1000) } })
       ∧ (s.bs.power = .apStopping →
            exec (.sleep (freshFrame .a) (.fields ⟨x⟩) awake) s = .next { s.refusedWith .a .ok with
              pins := { s.pins with awake := awake }, bs := { s.bs with sleepTarget := some x } }))
  ∧ (∀ (s : State) (g : Nat),
       s.Quiet → s.NoTake → s.NoWaits → (∀ n ∈ s.notices.ap, n.pending = false) → s.bs.heldWake = false →
         s.bs.sleepTarget ≠ some .deep → s.bs.power = .apStopping →
         g = min s.head.light.demand (s.head.ceiling - (s.head.panel.grant + s.head.radio.grant)) →
         (∃ t,
            exec .awakeFall s = .next t
            ∧ t = { s with
                pins := { s.pins with awake := false },
                bs := { s.bs with
                  ap := .off, power := .doze, sleepTarget := none, apOffTimer := none,
                  idleTimer := some (s.now + s.params.dozeIdleMin * 60000) },
                head := { s.head with ap := ⟨0, 0⟩, light := ⟨s.head.light.demand, g⟩ }, light := s.litBy g,
                portA := s.portA.domainOff, slots := t.slots,
                pool := { s.pool with owners := t.pool.owners, free := t.pool.free } }
            ∧ (∀ n, t.slot n = if (s.slot n).state = .filling then Slot.cleared true else s.slot n)
            ∧ s.Released t (s.slotNumbers.filter (fun n => decide ((s.slot n).state = .filling))))
         ∧ (∀ d,
              s.bs.apOffTimer = some d →
                ∃ t,
                  exec .apOffTimerExpiry s = .next t
                  ∧ t = { s with
                      now := max s.now d,
                      bs := { s.bs with
                        ap := .off, power := .doze, sleepTarget := none, apOffTimer := none,
                        idleTimer := some (max s.now d + s.params.dozeIdleMin * 60000) },
                      head := { s.head with ap := ⟨0, 0⟩, light := ⟨s.head.light.demand, g⟩ }, light := s.litBy g,
                      portA := s.portA.domainOff, slots := t.slots,
                      pool := { s.pool with owners := t.pool.owners, free := t.pool.free } }
                  ∧ (∀ n, t.slot n = if (s.slot n).state = .filling then Slot.cleared true else s.slot n)
                  ∧ s.Released t (s.slotNumbers.filter (fun n => decide ((s.slot n).state = .filling)))))

/-- R14, R52, R54, R62, R65, R82, R89, R91, R110, R142, R143: the DOZE idle timer, the deferral, the REST entry and
its end report, the radio notice timer and self-refresh. That a report of the memory which was not asked for changes
nothing is log 4, what completes the fade log 23, that self-refresh is asked for over an unreported exit log 38, and
that a HALTED engine stays HALTED in DEEP log 39. -/
def Obligations.DeepEntryGoesStageByStage : Prop :=
  (∀ s : State,
     s.NoTake → s.bs.stage = none → s.staging.watch = none → s.slots.rest = none → s.bs.radio = true →
       (∀ d,
          s.bs.idleTimer = some d →
            ((s.bs.ap = .requested ∨ s.bs.depleting = true) →
               exec .dozeIdleExpiry s = .next { s with
                 now := max s.now d, bs := { s.bs with idleTimer := some (max s.now d + s.params.dozeIdleMin * 60000) } })
            ∧ (s.bs.ap = .off → s.bs.depleting = false → s.bs.deferTimer = none → 0 < s.params.deepDeferMin →
                 s.staging.anyOpen = true →
                 exec .dozeIdleExpiry s = .next { s with
                   now := max s.now d,
                   bs := { s.bs with idleTimer := none, deferTimer := some (max s.now d + s.params.deepDeferMin * 60000) } })
            ∧ (s.bs.ap = .off → s.bs.depleting = false → s.bs.deferTimer = none →
                 (s.params.deepDeferMin = 0 ∨ s.staging.anyOpen = false) →
                 exec .dozeIdleExpiry s = .next { s with
                   now := max s.now d,
                   light := { s.light with
                     fading := true, target := 0,
                     rampTimer := if s.light.alarmHold = true then
                       s.light.rampTimer
                     else if s.light.applied = 0 then
                       none
                     else if s.light.rampTimer = none then some (max s.now d + s.params.rampMs) else s.light.rampTimer },
                   notices := { s.notices with rm := s.notices.rm.set 4 (some (.powerOffSoon 1000)) },
                   bs := { s.bs with
                     power := .enteringDeep, idleTimer := none, deferTimer := none, resumeKey := s.panel.shownKey,
                     stage := some .fade, radioTimer := some (max s.now d + 1000) } }))
       ∧ (∀ d,
            s.bs.deferTimer = some d →
              ∃ t,
                exec .deferralExpiry s = .next t
                ∧ t = { s with
                    now := max s.now d,
                    light := { s.light with
                      fading := true, target := 0,
                      rampTimer := if s.light.alarmHold = true then
                        s.light.rampTimer
                      else if s.light.applied = 0 then
                        none
                      else if s.light.rampTimer = none then some (max s.now d + s.params.rampMs) else s.light.rampTimer },
                    pool := { s.pool with owners := t.pool.owners, free := t.pool.free },
                    staging := { s.staging with
                      stream1 := t.staging.stream1, stream2 := t.staging.stream2, ring := t.staging.ring,
                      write := t.staging.write },
                    notices := { s.notices with rm := s.notices.rm.set 4 (some (.powerOffSoon 1000)) },
                    bs := { s.bs with
                      power := .enteringDeep, idleTimer := none, deferTimer := none, resumeKey := s.panel.shownKey,
                      stage := some .fade, radioTimer := some (max s.now d + 1000) } }
                ∧ t.staging.anyOpen = false ∧ s.RingKept t))
  ∧ ((∀ (s : State) (d : Nat),
        s.bs.radioTimer = some d → s.bs.stage = some .fade → s.NoTake → s.bs.deferTimer = none →
          s.staging.watch = none →
          (s.fadeComplete = false →
             exec .radioNoticeExpiry s = .next { s with now := max s.now d, bs := { s.bs with radioTimer := none } })
          ∧ (s.fadeComplete = true → s.bs.radio = true → s.NoWaits → s.panel.rail = .off → s.turn.engine = .idle →
               ∃ t,
                 exec .radioNoticeExpiry s = .next t
                 ∧ t = { s with
                     now := max s.now d,
                     bs := { s.bs with radioTimer := none, radio := false, stage := some .selfRefresh },
                     pool := { s.pool with mode := .entering, owners := t.pool.owners, free := t.pool.free },
                     portR := s.portR.domainOff,
                     head := { s.head with
                       radio := ⟨0, 0⟩, active := none, unreleased := none,
                       light := ⟨s.head.light.demand,
                         min s.head.light.demand (s.head.ceiling - (s.head.ap.grant + s.head.panel.grant))⟩ },
                     light := s.litBy (min s.head.light.demand (s.head.ceiling - (s.head.ap.grant + s.head.panel.grant))),
                     staging := { s.staging with
                       stream1 := t.staging.stream1, stream2 := t.staging.stream2, ring := t.staging.ring,
                       write := t.staging.write, watch := none },
                     notices := { s.notices with rm := List.replicate 5 none } }
                 ∧ t.staging.anyOpen = false ∧ s.RingKept t))
     ∧ (∀ s : State,
          (s.pool.mode = .entering → s.bs.heldWake = false →
             exec .selfRefreshEntered s = .next { s with
               pool := { s.pool with mode := .selfRefresh },
               bs := { s.bs with power := .deep, stage := none, heldWake := false },
               light := { s.light with
                 target := 0, applied := 0, fading := false, buffer := none, duty := ⟨0, 0, s.light.duty.gap⟩,
                 running := false, rampTimer := none },
               turn := { s.turn with queue := [], keys := s.turn.keys.map KeyInput.stopHold } })
          ∧ (s.pool.mode ≠ .entering → exec .selfRefreshEntered s = .next s)
          ∧ (s.pool.mode = .leaving →
               exec .selfRefreshLeft s = .next { s with pool := { s.pool with mode := .active } })
          ∧ (s.pool.mode ≠ .leaving → exec .selfRefreshLeft s = .next s)))
  ∧ (∀ (s y : State) (d n : Nat) (k : PageKey) (e : Entry) (ap0 ap : List Notice) (qs : List Entry),
       s.bs.idleTimer = some d → s.bs.ap = .off → s.bs.depleting = false → s.bs.stage = none →
         s.bs.deferTimer = none → (s.params.deepDeferMin = 0 ∨ s.staging.anyOpen = false) → s.staging.watch = none →
         s.bs.radio = true → s.slots.rest = some n → (s.slot n).key = some k → s.NoWake .turnOverrun →
         s.NoWake .turnAbandoned → e = ⟨.sleep, .goto k, .full, some .rest⟩ →
         PlacedAtHead e s.turn.queue ap0 (e :: qs) ap →
         y = { s with
           now := max s.now d, turn := { s.turn with queue := e :: qs }, notices := { s.notices with ap := ap },
           bs := { s.bs with
             power := .enteringDeep, idleTimer := none, resumeKey := s.panel.shownKey, stage := some .restImage } } →
         (s.turn.engine ≠ .idle → s.turn.engine ≠ .waitingPage → ap0 = s.notices.ap →
            exec .dozeIdleExpiry s = .next y)
         ∧ ∀ z,
             (s.turn.engine = .idle ∧ ap0 = s.notices.ap ∧ z = { y with turn := { y.turn with queue := qs } }
                ∨ ∃ m,
                    s.turn.engine = .waitingPage ∧ s.turn.miss = some m
                    ∧ ap0 = s.notices.ap.modify 14 (fun x => x.raised (.turnAbandoned (some m.key) .sleep))
                    ∧ z = { y with turn := { y.turn with queue := qs, engine := .idle, miss := none } }) →
               ((∀ x, qs.head? = some x → x.origin ≠ .sleep) →
                  s.panel.shownKey = some k
                  ∨ (∀ j, s.slotOfKey k = some j → (s.slot j).state ≠ .ready ∨ s.panel.wave ≠ .valid) →
                  exec .dozeIdleExpiry s = .next z.warned)
               ∧ ∀ j,
                   s.panel.shownKey ≠ some k → s.slotOfKey k = some j → (s.slot j).state = .ready →
                     s.panel.wave = .valid →
                     exec .dozeIdleExpiry s = .next { z with
                       turn := { z.turn with turn := some ⟨k, .full, .full, .sleep, some .rest⟩, engine := .updating },
                       panel := { s.panel with
                         target := some j, holdTimer := none,
                         update := some ⟨j, .full, .planning, none, none, 0, false, false, none⟩ },
                       pool := { s.pool with feed := ⟨0, 0, 0, true, false⟩ } })
  ∧ (∀ (s : State) (x : Turn),
       s.turn.turn = some x → x.purpose = some .rest → s.bs.power = .enteringDeep → s.bs.stage = some .restImage →
         s.bs.deferTimer = none → s.staging.watch = none → s.bs.radio = true →
         (∀ e, s.turn.queue.head? = some e → e.origin ≠ .sleep) →
         (∀ d f,
            s.panel.waitTimer = some d → s.panel.rail = .off → s.head.alarm = none → s.head.apWait = none →
              s.head.parked = none → f = min s.head.light.demand (s.head.ceiling - s.head.loads) →
              exec .powerWaitExpiry s =
                .next (State.warned { s with
                    now := max s.now d, light := s.litBy f,
                    head := { s.head with
                      panel := ⟨s.head.panel.grant, s.head.panel.grant⟩, panelWait := none,
                      light := ⟨s.head.light.demand, f⟩ },
                    panel := { s.panel with target := none, update := none, waitTimer := none },
                    turn := { s.turn with turn := none, engine := .idle } }))
         ∧ ∀ (u : Update) (p : Plan) (d h : Nat),
             s.panel.update = some u → u.frameTimer = some d → u.plan = some p →
               h = min (max 1 s.params.hotMW) s.head.panel.grant →
               (∀ k g,
                  u.stopping = false → p.frames ≤ u.frame + 1 → s.NoWake .updateDone → s.NoWaits →
                    0 < s.params.railHoldMs → (s.slot u.target).key = some k →
                    g = min s.head.light.demand (s.head.ceiling - (s.head.ap.grant + h + s.head.radio.grant)) →
                    exec .frameEnd s =
                      .next (State.warned { s with
                          now := max s.now d, light := s.litBy g,
                          notices := { s.notices with ap := s.notices.ap.modify 17 (fun n => n.raised (.updateDone k u.mode)) },
                          head := { s.head with panel := ⟨h, h⟩, light := ⟨s.head.light.demand, g⟩ },
                          turn := { s.turn with turn := none, engine := .idle },
                          panel := { s.panel with
                            shown := some u.target, shownKey := some k, target := none,
                            fidelity := (if u.mode = .fast then .twoLevel else .exact),
                            ghost := (if u.mode = .full then 0 else min 255 (s.panel.ghost + 1)), update := none,
                            rail := .hot, riseTimer := none, holdTimer := some (max s.now d + s.params.railHoldMs) },
                          slots := { s.slots with
                            slots := s.slots.slots.set u.target { s.slot u.target with age := s.slots.use },
                            use := min 4294967295 (s.slots.use + 1) } }))
               ∧ (∀ c,
                    u.stopping = true → s.head.alarm = some c →
                      exec .frameEnd s =
                        .next (State.warned { s with
                            now := max s.now d, light := s.litBy 0,
                            head := { s.head with panel := ⟨h, h⟩, light := ⟨s.head.light.demand, 0⟩ },
                            turn := { s.turn with turn := none, engine := .halted },
                            panel := { s.panel with
                              shown := some u.target, shownKey := (s.slot u.target).key, target := none,
                              fidelity := .unknown, update := none, rail := .falling, riseTimer := none,
                              holdTimer := none, fallTimer := some (max s.now d + s.params.railFallMs) },
                            slots := { s.slots with
                              slots := s.slots.slots.set u.target { s.slot u.target with age := s.slots.use },
                              use := min 4294967295 (s.slots.use + 1) } })))

/-- R137, R149: a change of a charger line (that a line already at the level changes nothing is log 4). -/
def Obligations.ChargerLinesSetStateAndRestart : Prop :=
  ∀ (s : State) (line : ChgLine) (high : Bool),
    (s.pins.lineAt line = high → exec (.chargerLineChange line high) s = .next s)
    ∧ (s.bs.power = .depleted →
         exec (.chargerLineChange .present high) s =
           .next (if s.pins.chgPresent = high then
               s
             else { s with
               pins := { s.pins with chgPresent := high },
               bs := { s.bs with restartTimer := if high then some (s.now + 4000) else none } })
         ∧ exec (.chargerLineChange .done high) s = .next { s with pins := { s.pins with chgDone := high } })
    ∧ (s.pins.chgDone = false → s.pins.chgPresent = true → s.bs.power ≠ .depleted → s.bs.ap = .on → s.Quiet →
         s.NoTake →
         exec (.chargerLineChange .done true) s = .next { s with
           pins := { s.pins with chgDone := true },
           bs := { s.bs with charger := .done, q := s.params.capacityMAh, r := 0, percent := 100 },
           notices := { s.notices with ap := s.notices.ap.modify 9 (fun n => n.raised (.charger true true .done)) } })
    ∧ (s.pins.chgPresent ≠ high → s.bs.power ≠ .depleted → s.bs.ap = .on → s.Quiet → s.NoTake →
         ∃ c,
           c =
             (if high = true ∧ s.pins.chgDone = true then .done else if 20 < s.bs.lastI then .charging else .absent)
           ∧ exec (.chargerLineChange .present high) s = .next { s with
               pins := { s.pins with chgPresent := high }, bs := { s.bs with charger := c },
               notices := { s.notices with ap := s.notices.ap.modify 9 (fun n => n.raised (.charger high s.pins.chgDone c)) } })

/-- R15, R44, R52, R62, R65, R94, R131, R138, R148, R149, R166: the grace timer, the EMPTY entry and its end report,
and the depletion timer. That the slot, pool and arbiter records hold their reset values in DEPLETED is log 19. -/
def Obligations.DepletionComesToDepleted : Prop :=
  ((∀ (s : State) (d : Nat),
      s.bs.graceTimer = some d →
        (s.bs.charger ≠ .absent →
           exec .criticalGraceExpiry s = .next { s with
             now := max s.now d, bs := { s.bs with graceTimer := some (max s.now d + s.params.critGraceS * 1000) } })
        ∧ (s.bs.charger = .absent → s.bs.ap = .off → s.bs.radio = false → s.bs.depleting = false →
             s.slots.empty = none →
             ∃ t, exec .criticalGraceExpiry s = .next t ∧ s.EnteredDepleted (max s.now d) t))
   ∧ (∀ (s : State) (d : Nat),
        s.bs.depletionTimer = some d →
          ∃ t, exec .depletionTimerExpiry s = .next t ∧ s.EnteredDepleted (max s.now d) t))
  ∧ (∀ (s y : State) (d n : Nat) (k : PageKey) (e : Entry) (ap0 ap : List Notice) (qs : List Entry) (lt : LightUnit) (md : PoolMode),
       s.bs.graceTimer = some d → s.bs.charger = .absent → s.bs.ap = .off → s.bs.radio = false →
         s.bs.depleting = false → s.staging.watch = none → s.slots.empty = some n → (s.slot n).key = some k →
         s.NoWake .turnOverrun → s.NoWake .turnAbandoned → e = ⟨.sleep, .goto k, .full, some .empty⟩ →
         PlacedAtHead e s.turn.queue ap0 (e :: qs) ap →
         md =
           (if s.pool.mode = .entering then
              .active
            else if s.pool.mode = .selfRefresh then .leaving else s.pool.mode) →
         lt =
           (if s.bs.power = .deep then
              { s.light with fading := false, running := true, duty := ⟨0, 0, s.params.deadGap⟩, buffer := none }
            else { s.light with fading := false }) →
         y = { s with
           now := max s.now d, pool := { s.pool with mode := md }, light := lt,
           turn := { s.turn with queue := e :: qs }, notices := { s.notices with ap := ap },
           bs := { s.bs with
             power := .doze, idleTimer := none, graceTimer := none, depleting := true, stage := none,
             deferTimer := none, radioTimer := none, apOffTimer := none, sleepTarget := none,
             depletionTimer := some (max s.now d + 10000) } } →
         (s.turn.engine ≠ .idle → s.turn.engine ≠ .waitingPage → ap0 = s.notices.ap →
            exec .criticalGraceExpiry s = .next y)
         ∧ ∀ z,
             (s.turn.engine = .idle ∧ ap0 = s.notices.ap ∧ z = { y with turn := { y.turn with queue := qs } }
                ∨ ∃ m,
                    s.turn.engine = .waitingPage ∧ s.turn.miss = some m
                    ∧ ap0 = s.notices.ap.modify 14 (fun x => x.raised (.turnAbandoned (some m.key) .battery))
                    ∧ z = { y with turn := { y.turn with queue := qs, engine := .idle, miss := none } }) →
               (s.panel.shownKey = some k
                  ∨ (∀ j, s.slotOfKey k = some j → (s.slot j).state ≠ .ready ∨ s.panel.wave ≠ .valid) →
                  ∃ t, exec .criticalGraceExpiry s = .next t ∧ s.EnteredDepleted (max s.now d) t)
               ∧ ∀ j,
                   s.panel.shownKey ≠ some k → s.slotOfKey k = some j → (s.slot j).state = .ready →
                     s.panel.wave = .valid →
                     exec .criticalGraceExpiry s = .next { z with
                       turn := { z.turn with turn := some ⟨k, .full, .full, .sleep, some .empty⟩, engine := .updating },
                       panel := { s.panel with
                         target := some j, holdTimer := none,
                         update := some ⟨j, .full, .planning, none, none, 0, false, false, none⟩ },
                       pool := { s.pool with mode := md, feed := ⟨0, 0, 0, true, false⟩ } })
  ∧ (∀ (s : State) (x : Turn),
       s.turn.turn = some x → x.purpose = some .empty → s.bs.depleting = true →
         (∀ d,
            s.panel.waitTimer = some d → s.panel.rail = .off → s.head.alarm = none → s.head.apWait = none →
              s.head.parked = none →
              ∃ t, exec .powerWaitExpiry s = .next t ∧ s.EnteredDepleted (max s.now d) t)
         ∧ ∀ (u : Update) (p : Plan) (d : Nat),
             s.panel.update = some u → u.frameTimer = some d → u.plan = some p →
               (∀ k,
                  u.stopping = false → p.frames ≤ u.frame + 1 → s.NoWake .updateDone → s.NoWaits →
                    (s.slot u.target).key = some k →
                    ∃ t, exec .frameEnd s = .next t ∧ s.EnteredDepleted (max s.now d) t)
               ∧ (∀ c,
                    u.stopping = true → s.head.alarm = some c →
                      ∃ t, exec .frameEnd s = .next t ∧ s.EnteredDepleted (max s.now d) t))

/-- R153: OPEN_STREAM, with or without the power alarm. -/
def Obligations.OpenStreamTakesLowerFreeEntry : Prop :=
  ∀ (s : State) (tag : Nat) (total : Option Nat),
    s.Ready .r →
      (total = some 0 →
         exec (.openStream (freshFrame .r) (.fields ⟨tag, total⟩)) s = .next (s.refusedWith .r .badArgument))
      ∧ (total ≠ some 0 →
           (s.staging.stream1.isSome = true → s.staging.stream2.isSome = true →
              exec (.openStream (freshFrame .r) (.fields ⟨tag, total⟩)) s = .next (s.refusedWith .r .full))
           ∧ (s.staging.stream1 = none →
                exec (.openStream (freshFrame .r) (.fields ⟨tag, total⟩)) s = .next { s.replied .r ⟨.ok, .stream 1⟩ with
                  staging := { s.staging with stream1 := some ⟨.open, tag, 0, false, total, 0, none⟩ } })
           ∧ (s.staging.stream1.isSome = true → s.staging.stream2 = none →
                exec (.openStream (freshFrame .r) (.fields ⟨tag, total⟩)) s = .next { s.replied .r ⟨.ok, .stream 2⟩ with
                  staging := { s.staging with stream2 := some ⟨.open, tag, 0, false, total, 0, none⟩ } }))

/-- R155, R156, R158: PUT_BLOCK. -/
def Obligations.PutBlockIsJudgedAndPlaced : Prop :=
  ∀ (s : State) (x : PutBlockArgs),
    s.Ready .r →
      ((¬(x.stream = 1 ∨ x.stream = 2) ∨ x.payload.length = 0 ∨ 4096 < x.payload.length) →
         exec (.putBlock (freshFrame .r) (.fields x)) s = .next (s.refusedWith .r .badArgument))
      ∧ ((x.stream = 1 ∨ x.stream = 2) → 1 ≤ x.payload.length → x.payload.length ≤ 4096 →
           (s.head.alarm.isSome = true →
              exec (.putBlock (freshFrame .r) (.fields x)) s = .next (s.refusedWith .r .halted))
           ∧ (s.head.alarm = none → (∀ st, s.staging.stream x.stream = some st → st.state ≠ .open) →
                exec (.putBlock (freshFrame .r) (.fields x)) s = .next (s.refusedWith .r .refusedState))
           ∧ (∀ st,
                s.head.alarm = none → s.staging.stream x.stream = some st → st.state = .open →
                  ((st.exhausted = true ∨ x.sequence < st.next) →
                     exec (.putBlock (freshFrame .r) (.fields x)) s = .next (s.refusedWith .r .duplicate))
                  ∧ (st.exhausted = false → st.next < x.sequence →
                       exec (.putBlock (freshFrame .r) (.fields x)) s = .next (s.refusedWith .r .outOfOrder))
                  ∧ (st.exhausted = false → x.sequence = st.next → (x.first = true ↔ x.sequence ≠ 0) →
                       exec (.putBlock (freshFrame .r) (.fields x)) s = .next (s.refusedWith .r .badArgument))
                  ∧ (∀ n,
                       st.exhausted = false → x.sequence = st.next → (x.first = true ↔ x.sequence = 0) →
                         st.total = some n →
                         (n < st.accepted + x.payload.length ∨ (x.last = true ∧ st.accepted + x.payload.length < n)) →
                         exec (.putBlock (freshFrame .r) (.fields x)) s = .next (s.refusedWith .r .badArgument))
                  ∧ (st.exhausted = false → x.sequence = st.next → (x.first = true ↔ x.sequence = 0) →
                       (∀ n,
                          st.total = some n →
                            st.accepted + x.payload.length ≤ n
                            ∧ (x.last = true → st.accepted + x.payload.length = n)) →
                       (∀ w,
                          s.staging.write = some w → s.staging.ring ≠ [] → w.offset + x.payload.length ≤ 16384 →
                            s.staging.watch = none →
                            exec (.putBlock (freshFrame .r) (.fields x)) s = .next { s.workingOn .r with
                              staging := { s.staging with
                                write := some ⟨w.extent, w.offset + x.payload.length⟩,
                                writing := some ⟨x.stream, x.sequence, x.first, x.last, x.payload.length, w⟩ },
                              pool := { s.pool with
                                workR := some ⟨.putBlock, .staging, [w.extent], w.offset, w.offset + x.payload.length,
                                  x.payload, [], false⟩ } })
                       ∧ (∀ e rest,
                            s.staging.ring = [] → s.staging.write = none → s.pool.free = e :: rest →
                              0 < s.params.stagingMax → s.staging.watch = none →
                              exec (.putBlock (freshFrame .r) (.fields x)) s = .next { s.workingOn .r with
                                staging := { s.staging with
                                  ring := [e], write := some ⟨e, x.payload.length⟩,
                                  writing := some ⟨x.stream, x.sequence, x.first, x.last, x.payload.length, ⟨e, 0⟩⟩ },
                                pool := { s.pool with
                                  owners := s.pool.owners.set e .staging, free := rest,
                                  workR := some ⟨.putBlock, .staging, [e], 0, x.payload.length, x.payload, [], false⟩ } })
                       ∧ (∀ w pre e rest pl past es,
                            s.staging.write = some w → s.staging.ring = pre ++ [w.extent] → w.extent ∉ pre →
                              16384 < w.offset + x.payload.length → w.offset ≤ 16384 → s.pool.free = e :: rest →
                              s.staging.ring.length < s.params.stagingMax → s.staging.watch = none →
                              (w.offset = 16384 ∧ pl = ⟨e, 0⟩ ∧ past = ⟨e, x.payload.length⟩ ∧ es = [e]
                               ∨ w.offset < 16384 ∧ pl = w
                                 ∧ past = ⟨e, w.offset + x.payload.length - 16384⟩
                                 ∧ es = [w.extent, e]) →
                              exec (.putBlock (freshFrame .r) (.fields x)) s = .next { s.workingOn .r with
                                staging := { s.staging with
                                  ring := s.staging.ring ++ [e], write := some past,
                                  writing := some ⟨x.stream, x.sequence, x.first, x.last, x.payload.length, pl⟩ },
                                pool := { s.pool with
                                  owners := s.pool.owners.set e .staging, free := rest,
                                  workR := some ⟨.putBlock, .staging, es, pl.offset, pl.offset + x.payload.length,
                                    x.payload, [], false⟩ } })
                       ∧ ((∀ w, s.staging.write = some w → 16384 < w.offset + x.payload.length) →
                            (s.params.stagingMax ≤ s.staging.ring.length
                             ∧ s.params.stagingFloor ≤ s.params.stagingMax
                             ∨ s.pool.free = [] ∧ s.params.stagingFloor ≤ s.staging.ring.length) →
                            exec (.putBlock (freshFrame .r) (.fields x)) s = .next (s.refusedWith .r .full)))))

/-- R152, R157, R159 to R161: the end of a block's writing (log 7: the end is an event of its own). -/
def Obligations.BlockWriteEndJoinsOrGivesUp : Prop :=
  ∀ (s : State) (b : Block) (x y : Stream) (w : Work),
    s.pool.workR = some w → w.kind = .putBlock → w.stop ≤ w.pos → s.staging.writing = some b →
      s.staging.stream b.stream = some x → s.portR.held = none → s.Quiet → s.NoTake →
      y = { x with
        accepted := min 4294967295 (x.accepted + b.length),
        next := (if b.sequence = 4294967295 then 4294967295 else b.sequence + 1),
        exhausted := (x.exhausted || decide (b.sequence = 4294967295)) } →
      (x.state ≠ .aborted → b.last = false ∨ x.state = .closed → s.bs.ap = .on →
         exec .putBlockWriteEnd s = .next { s with
           staging := { s.staging.setStream b.stream (some y) with
             writing := none, queue := s.staging.queue ++ [b], idleTimer := some (s.now + s.params.idleS * 1000) },
           portR := s.portR.answered (Answer.plain .ok), pool := { s.pool with workR := none },
           notices := (if s.staging.bytes < s.params.triggerKib * 1024 ∧ s.params.triggerKib * 1024 ≤ s.staging.bytes + b.length then
              { s.notices with
                ap := s.notices.ap.modify 3 (fun n => n.raised (.staged (s.staging.bytes + b.length) (s.staging.queue.length + 1))) }
            else { s.notices with ap := s.notices.ap }) })
      ∧ (x.state = .open → b.last = true → s.bs.ap = .on →
           ∀ v ap,
             ap = s.notices.ap.modify 5 (fun n => n.raised (.streamEnd b.stream x.tag .complete y.accepted)) →
               v =
                 State.afterClose { s with
                   staging := { s.staging.setStream b.stream (some { y with state := .closed, reason := some .complete }) with
                     writing := none, queue := s.staging.queue ++ [b] } } →
               exec .putBlockWriteEnd s = .next { s with
                 staging := { v.staging with idleTimer := some (s.now + s.params.idleS * 1000) },
                 portR := s.portR.answered (Answer.plain .ok), pool := { v.pool with workR := none },
                 notices := (if s.staging.bytes < s.params.triggerKib * 1024 ∧ s.params.triggerKib * 1024 ≤ s.staging.bytes + b.length then
                    { s.notices with
                      ap := ap.modify 3 (fun n => n.raised (.staged (s.staging.bytes + b.length) (s.staging.queue.length + 1))) }
                  else { s.notices with ap := ap }) }
               ∧ v.staging.stream b.stream = some { y with state := .closed, reason := some .complete }
               ∧ v.staging.ring = s.staging.ring ∧ v.staging.write = s.staging.write
               ∧ v.pool.free = s.pool.free ∧ v.pool.owners = s.pool.owners)
      ∧ (x.state = .aborted →
           ∃ t,
             exec .putBlockWriteEnd s = .next t
             ∧ t =
                 State.tidyStaging { s with
                   staging := { s.staging with writing := none, write := some b.pos },
                   portR := s.portR.answered (Answer.plain .refusedState), pool := { s.pool with workR := none } }
             ∧ t.staging.stream b.stream =
                 (if s.staging.queue.any (fun c => decide (c.stream = b.stream)) then some x else none))

/-- R152, R157, R160 to R162: CLOSE_STREAM and ABORT_STREAM, and what is given back after a removal, a close or the
end of a block's writing. -/
def Obligations.StreamsCloseAndAbort : Prop :=
  (∀ (s : State) (id : Nat) (r : ClosedBy),
     s.Ready .r →
       (¬(id = 1 ∨ id = 2) →
          exec (.closeStream (freshFrame .r) (.fields ⟨id, r⟩)) s = .next (s.refusedWith .r .badArgument))
       ∧ ((id = 1 ∨ id = 2) →
            ((∀ x, s.staging.stream id = some x → x.state ≠ .open) →
               exec (.closeStream (freshFrame .r) (.fields ⟨id, r⟩)) s = .next (s.refusedWith .r .refusedState))
            ∧ (∀ x n,
                 s.staging.stream id = some x → x.state = .open → r = .complete → x.total = some n →
                   x.accepted < n →
                   exec (.closeStream (freshFrame .r) (.fields ⟨id, r⟩)) s = .next (s.refusedWith .r .badArgument))
            ∧ (∀ x,
                 s.staging.stream id = some x → x.state = .open →
                   (r = .failed ∨ ∀ n, x.total = some n → n ≤ x.accepted) → s.bs.ap = .on → s.Quiet → s.NoTake →
                   ∃ t c,
                     exec (.closeStream (freshFrame .r) (.fields ⟨id, r⟩)) s = .next t
                     ∧ c = (if r = .complete then CloseReason.complete else .failed)
                     ∧ t =
                         State.afterClose { s.refusedWith .r .ok with
                           staging := s.staging.setStream id (some { x with state := .closed, reason := some c }),
                           notices := { s.notices with
                             ap := s.notices.ap.modify 5 (fun n => n.raised (.streamEnd id x.tag c x.accepted)) } }
                     ∧ t.staging.stream id =
                         (if s.staging.hasBlock id then some { x with state := .closed, reason := some c } else none))))
  ∧ (∀ (s : State) (id : Nat),
       s.Ready .a →
         (¬(id = 1 ∨ id = 2) →
            exec (.abortStream (freshFrame .a) (.fields ⟨id⟩)) s = .next (s.refusedWith .a .badArgument))
         ∧ ((id = 1 ∨ id = 2) →
              ((∀ x, s.staging.stream id = some x → x.state = .aborted) →
                 exec (.abortStream (freshFrame .a) (.fields ⟨id⟩)) s = .next (s.refusedWith .a .refusedState))
              ∧ (∀ x gone,
                   s.staging.stream id = some x → x.state ≠ .aborted →
                     gone = s.staging.queue.filter (fun b => decide (b.stream = id)) → s.Quiet → s.NoTake →
                     ∃ t,
                       exec (.abortStream (freshFrame .a) (.fields ⟨id⟩)) s = .next t
                       ∧ t =
                           State.tidyStaging { s.replied .a ⟨.ok, .removed gone.length (gone.map Block.length).sum⟩ with
                             staging := { s.staging.setStream id (some { x with state := .aborted, reason := some .aborted }) with
                               queue := s.staging.queue.filter (fun b => decide (b.stream ≠ id)) },
                             notices := (if s.bs.radio then
                                { s.notices with rm := s.notices.rm.set 3 (some (.streamAborted id x.tag)) }
                              else s.notices) }
                       ∧ t.staging.stream id =
                           (if s.staging.isWriting id then
                              some { x with state := .aborted, reason := some .aborted }
                            else none))))
  ∧ (∀ (s t : State) (used : Nat → Bool),
       t = s.tidyStaging →
         (∀ e,
            used e =
              true ↔ (∃ b,
                  (b ∈ s.staging.queue ∨ s.staging.writing = some b)
                  ∧ (e = b.pos.extent ∨ 16384 < b.pos.offset + b.length ∧ s.staging.nextExtent b.pos.extent = some e))
            ∨ ∃ w, s.staging.write = some w ∧ w.extent = e) →
         t = { s with
           pool := { s.pool with owners := t.pool.owners, free := t.pool.free },
           staging := { s.staging with
             stream1 := t.staging.stream1, stream2 := t.staging.stream2, ring := t.staging.ring,
             write := t.staging.write, idleTimer := if s.staging.queue = [] then none else s.staging.idleTimer } }
         ∧ (∀ j,
              j = 1 ∨ j = 2 →
                t.staging.stream j =
                  if (s.staging.stream j).any (fun x => decide (x.state ≠ .open)) && !s.staging.hasBlock j then
                    none
                  else s.staging.stream j)
         ∧ (s.staging.queue = [] → s.staging.writing = none →
              (t.staging.stream1 = none → t.staging.stream2 = none → t.staging.ring = [] ∧ t.staging.write = none)
              ∧ (t.staging.stream1.isSome = true ∨ t.staging.stream2.isSome = true →
                   t.staging.ring =
                     s.staging.ring.filter (fun e => s.staging.write.any (fun w => decide (w.extent = e)))
                   ∧ t.staging.write = s.staging.write.map (fun w => { w with offset := 0 })))
         ∧ (s.staging.queue ≠ [] ∨ s.staging.writing.isSome = true →
              t.staging.ring = s.staging.ring.filter used ∧ t.staging.write = s.staging.write)
         ∧ ∀ out,
             out =
                 (s.staging.ring.filter (fun e => !t.staging.ring.contains e)).filter (fun e => decide (e < 504)) →
               t.pool.free = s.pool.free ++ out
               ∧ ∀ e,
                   t.pool.owners[e]? =
                     if e ∈ out then (s.pool.owners[e]?).map (fun _ => .free) else s.pool.owners[e]?)
  ∧ (∀ (s t : State) (out : List Nat),
       t = s.afterClose → out = s.staging.ring.filter (fun e => decide (e < 504)) →
         t = { s with
           pool := { s.pool with owners := t.pool.owners, free := t.pool.free },
           staging := { s.staging with
             stream1 := t.staging.stream1, stream2 := t.staging.stream2, ring := t.staging.ring,
             write := t.staging.write } }
         ∧ (∀ j,
              j = 1 ∨ j = 2 →
                t.staging.stream j =
                  if (s.staging.stream j).any (fun x => decide (x.state ≠ .open)) && !s.staging.hasBlock j then
                    none
                  else s.staging.stream j)
         ∧ (s.staging.queue = [] → s.staging.writing = none → t.staging.stream1 = none →
              t.staging.stream2 = none →
              t.staging.ring = [] ∧ t.staging.write = none ∧ t.pool.free = s.pool.free ++ out
              ∧ ∀ e,
                  t.pool.owners[e]? =
                    if e ∈ out then (s.pool.owners[e]?).map (fun _ => .free) else s.pool.owners[e]?)
         ∧ (s.staging.queue ≠ [] ∨ s.staging.writing.isSome = true ∨ t.staging.stream1.isSome = true
              ∨ t.staging.stream2.isSome = true →
              t.staging.ring = s.staging.ring ∧ t.staging.write = s.staging.write ∧ t.pool.free = s.pool.free
              ∧ t.pool.owners = s.pool.owners))

/-- R152, R155, R157, R160, R163: DRAIN of a block in one extent or two, and the end of its read. -/
def Obligations.DrainTakesOldestBlock : Prop :=
  (∀ s : State,
     s.Ready .a →
       (s.staging.queue = [] → exec (.drain (freshFrame .a) (.fields ())) s = .next (s.refusedWith .a .empty))
       ∧ (∀ b rest,
            s.staging.queue = b :: rest → b.pos.offset + b.length ≤ 16384 →
              exec (.drain (freshFrame .a) (.fields ())) s = .next { s.workingOn .a with
                pool := { s.pool with
                  workA := some ⟨.drain, .staging, [b.pos.extent], b.pos.offset, b.pos.offset + b.length, [], [], false⟩ } })
       ∧ (∀ b rest e,
            s.staging.queue = b :: rest → 16384 < b.pos.offset + b.length →
              s.staging.nextExtent b.pos.extent = some e →
              exec (.drain (freshFrame .a) (.fields ())) s = .next { s.workingOn .a with
                pool := { s.pool with
                  workA := some ⟨.drain, .staging, [b.pos.extent, e], b.pos.offset, b.pos.offset + b.length, [], [], false⟩ } }))
  ∧ (∀ (s : State) (b : Block) (rest : List Block) (x : Stream) (w : Work),
       s.pool.workA = some w → w.kind = .drain → w.stop ≤ w.pos → s.staging.queue = b :: rest →
         s.staging.stream b.stream = some x → s.portA.held = none → s.Quiet → s.NoTake →
         ∃ t,
           exec .drainEnd s = .next t
           ∧ t =
               State.tidyStaging { s with
                 staging := { s.staging with queue := rest },
                 portA := s.portA.answered ⟨.ok, .drained b x.tag rest.length w.got⟩,
                 pool := { s.pool with workA := none } }
           ∧ t.staging.stream b.stream =
               (if x.state ≠ .open ∧ rest.any (fun c => decide (c.stream = b.stream)) = false ∧ s.staging.isWriting b.stream = false then
                  none
                else some x))

/-- R42, R160, R165: WAIT_SPACE and the idle timer, and the space figure. -/
def Obligations.SpaceWatchAndIdleTimer : Prop :=
  (∀ (s : State) (n : Nat),
     (s.Ready .r →
        (¬(1 ≤ n ∧ n ≤ 4194304) →
           exec (.waitSpace (freshFrame .r) (.fields ⟨n⟩)) s = .next (s.refusedWith .r .badArgument))
        ∧ (1 ≤ n → n ≤ 4194304 → s.space < n →
             exec (.waitSpace (freshFrame .r) (.fields ⟨n⟩)) s = .next { s.refusedWith .r .ok with staging := { s.staging with watch := some n } })
        ∧ (1 ≤ n → n ≤ 4194304 → n ≤ s.space →
             exec (.waitSpace (freshFrame .r) (.fields ⟨n⟩)) s = .next { s.refusedWith .r .ok with
               staging := { s.staging with watch := none },
               notices := { s.notices with rm := s.notices.rm.set 0 (some (.space s.space)) } }))
     ∧ (∀ d,
          s.staging.idleTimer = some d → s.bs.ap = .on → s.Quiet → s.NoTake →
            (s.staging.bytes = 0 →
               exec .stagingIdleExpiry s = .next { s with now := max s.now d, staging := { s.staging with idleTimer := none } })
            ∧ (0 < s.staging.bytes →
                 exec .stagingIdleExpiry s = .next { s with
                   now := max s.now d, staging := { s.staging with idleTimer := none },
                   notices := { s.notices with
                     ap := s.notices.ap.modify 4 (fun x => x.raised (.staged s.staging.bytes s.staging.queue.length)) } })))
  ∧ (∀ (s : State) (u a page e : Nat),
       u = (if s.staging.ring = [] then 0 else (s.staging.write.map (fun w => 16384 - w.offset)).getD 0) →
         a = min (s.params.stagingMax - s.staging.ring.length) s.pool.free.length →
         page =
           ((List.range s.slots.slots.length).map (fun n => if (s.slot n).cls = some .streamed ∧ ((s.slot n).state = .ready ∨ (s.slot n).state = .filling) ∧ s.panel.shown ≠ some n ∧ s.panel.target ≠ some n then (s.slot n).extents.length else 0)).sum →
         e =
           (if a = s.pool.free.length ∧ s.staging.ring.length + a < s.params.stagingFloor then
              min (s.params.stagingFloor - s.staging.ring.length - a) page
            else 0) →
         s.space = u + 16384 * (a + e))

/-- R169, R170, R173: TAKE_NOTICE on both ports, and the two attention lines. That Port R ignores a named source is
the model's (log 22). -/
def Obligations.TakeNoticeTakesHighestSource : Prop :=
  ((∀ (s : State) (n : Nat),
      s.Ready .a →
        (¬(1 ≤ n ∧ n ≤ 20) →
           exec (.takeNotice (freshFrame .a) (.fields ⟨some n⟩)) s = .next (s.refusedWith .a .badArgument))
        ∧ (1 ≤ n → n ≤ 20 →
             ∀ x,
               s.notices.ap[n - 1]? = some x →
                 (x.pending = false →
                    exec (.takeNotice (freshFrame .a) (.fields ⟨some n⟩)) s = .next (s.replied .a ⟨.ok, .noNotice⟩))
                 ∧ (x.pending = true →
                      ∃ left,
                        left =
                          (s.notices.ap.set (n - 1) { x with pending := false, detail := none, count := 0 }).countP (fun y => y.pending && decide (1 ≤ y.level))
                        ∧ exec (.takeNotice (freshFrame .a) (.fields ⟨some n⟩)) s = .next { s.replied .a ⟨.ok, .notice n x.detail x.count left⟩ with
                            notices := { s.notices with
                              ap := s.notices.ap.set (n - 1) { x with pending := false, detail := none, count := 0 } } })))
   ∧ (∀ s : State,
        s.Ready .a →
          ((∀ x ∈ s.notices.ap, x.pending = true → x.level = 0) →
             exec (.takeNotice (freshFrame .a) (.fields ⟨none⟩)) s = .next (s.replied .a ⟨.ok, .noNotice⟩))
          ∧ (∀ k x,
               s.notices.ap[k]? = some x → x.pending = true → 1 ≤ x.level →
                 (∀ j y,
                    s.notices.ap[j]? = some y → j ≠ k → y.pending = true →
                      y.level < x.level
                      ∨ (y.level = x.level ∧ (y.priority < x.priority ∨ (y.priority = x.priority ∧ k < j)))) →
                 ∃ left,
                   left =
                     (s.notices.ap.set k { x with pending := false, detail := none, count := 0 }).countP (fun y => y.pending && decide (1 ≤ y.level))
                   ∧ exec (.takeNotice (freshFrame .a) (.fields ⟨none⟩)) s = .next { s.replied .a ⟨.ok, .notice (k + 1) x.detail x.count left⟩ with
                       notices := { s.notices with
                         ap := s.notices.ap.set k { x with pending := false, detail := none, count := 0 } } }))
   ∧ (∀ (s : State) (src : Option Nat),
        s.Ready .r →
          ((∀ x ∈ s.notices.rm, x = none) →
             exec (.takeNotice (freshFrame .r) (.fields ⟨src⟩)) s = .next (s.replied .r ⟨.ok, .noNotice⟩))
          ∧ (∀ pre d post,
               s.notices.rm = pre ++ some d :: post → (∀ x ∈ pre, x = none) →
                 exec (.takeNotice (freshFrame .r) (.fields ⟨src⟩)) s = .next { s.replied .r ⟨.ok, .rmNotice (pre.length + 1) d (post.countP Option.isSome)⟩ with
                   notices := { s.notices with rm := pre ++ none :: post } })))
  ∧ (∀ s : State,
       (s.attnALow = true ↔ s.bs.ap = .on ∧ ∃ n ∈ s.notices.ap, n.pending = true ∧ 1 ≤ n.level)
       ∧ (s.attnRLow = true ↔ s.bs.radio = true ∧ ∃ d, some d ∈ s.notices.rm))

/-- R168, R171: SET_NOTICE_LEVEL and CLEAR_NOTICES. -/
def Obligations.NoticeSettingsAndClears : Prop :=
  ∀ s : State,
    s.Ready .a →
      (∀ n l p,
         (¬(1 ≤ n ∧ n ≤ 20) ∨ 7 < l ∨ 7 < p) →
           exec (.setNoticeLevel (freshFrame .a) (.fields ⟨n, l, p⟩)) s = .next (s.refusedWith .a .badArgument))
      ∧ (∀ n l p,
           (n = 8 ∨ n = 9) → l ≤ 7 → p ≤ 7 →
             exec (.setNoticeLevel (freshFrame .a) (.fields ⟨n, l, p⟩)) s = .next (s.refusedWith .a .refusedState))
      ∧ (∀ n l p,
           1 ≤ n → n ≤ 20 → n ≠ 8 → n ≠ 9 → l ≤ 7 → p ≤ 7 →
             exec (.setNoticeLevel (freshFrame .a) (.fields ⟨n, l, p⟩)) s = .next { s.refusedWith .a .ok with
               notices := { s.notices with ap := s.notices.ap.modify (n - 1) (fun x => { x with level := l, priority := p }) } })
      ∧ (∀ l,
           ¬(1 ≤ l.length ∧ l.length ≤ 20 ∧ (∀ n ∈ l, 1 ≤ n ∧ n ≤ 20) ∧ l.Nodup) →
             exec (.clearNotices (freshFrame .a) (.fields ⟨some l⟩)) s = .next (s.refusedWith .a .badArgument))
      ∧ (∀ o l,
           (o = some l ∧ 1 ≤ l.length ∧ l.length ≤ 20 ∧ (∀ n ∈ l, 1 ≤ n ∧ n ≤ 20) ∧ l.Nodup)
             ∨ (o = none ∧ l = [1, 2, 3, 4, 5, 6, 7, 8, 9, 10, 11, 12, 13, 14, 15, 16, 17, 18, 19, 20]) →
             ∃ t,
               exec (.clearNotices (freshFrame .a) (.fields ⟨o⟩)) s = .next t
               ∧ t = { s.replied .a ⟨.ok, .cleared (l.countP (fun n => (s.notices.ap[n - 1]?).any Notice.pending))⟩ with
                   notices := { s.notices with ap := t.notices.ap } }
               ∧ ∀ k,
                   t.notices.ap[k]? =
                     (s.notices.ap[k]?).map (fun x => if k + 1 ∈ l then { x with pending := false, detail := none, count := 0 } else x))
end

