-- ==== Sys2Proof/Laws/Image.lean ====
section
/-!
SUPPORT. The bytes of a page image: what the check of R20 finds once a span has ended it or gone on, and what the level
bytes of a LITERAL do to the check and to the decoding.
-/

namespace Sys2Proof.Machine

/-- The check over a first byte and the rest. -/
theorem ImageCheck.feed_cons (c : ImageCheck) (b : Byte) (l : List Byte) : c.feed (b :: l) = (c.step b).feed l := rfl

/-- The check over bytes in two pieces. -/
theorem ImageCheck.feed_append (c : ImageCheck) (l m : List Byte) : c.feed (l ++ m) = (c.feed l).feed m := by
  simp [ImageCheck.feed]

/-- A check that has failed stays as it is, whatever follows (R20). -/
theorem ImageCheck.feed_failed (row col : Nat) (f : ImageFault) (l : List Byte) :
    ImageCheck.feed ⟨row, col, .failed f⟩ l = ⟨row, col, .failed f⟩ := by
  induction l with
  | nil => rfl
  | cons b l ih => exact ih

/-- The result of a check that fails is its reason, whatever follows (R20). -/
theorem ImageCheck.result_fail (c : ImageCheck) (f : ImageFault) (l : List Byte) : ((c.fail f).feed l).result = some f := by
  unfold ImageCheck.fail; rw [ImageCheck.feed_failed]; rfl

/-- What comes of `n` pixels and the bytes behind them (R16, R20). -/
theorem ImageCheck.result_pixels (row col n : Nat) (ph : SpanPhase) (l : List Byte) :
    ((ImageCheck.pixels ⟨row, col, ph⟩ n).feed l).result =
      if 1600 ≤ row then some .rowCount
      else if 1200 < col + n then some .rowLength
      else if col + n = 1200 then imageFault (row + 1) 0 l else imageFault row (col + n) l := by
  unfold ImageCheck.pixels
  simp only [Config.rows, Config.columns]
  split
  · exact ImageCheck.result_fail _ _ _
  · split
    · exact ImageCheck.result_fail _ _ _
    · split <;> rfl

/-- The level bytes of a LITERAL of `n` pixels end it (R17, R183). -/
theorem ImageCheck.feed_literal (row col n : Nat) : ∀ (left : Nat) (levels : List Byte), levels.length = left → 1 ≤ left →
    ImageCheck.feed ⟨row, col, .literal n left⟩ levels = ImageCheck.pixels ⟨row, col, .literal n 1⟩ n
  | _, [], h, h1 => by simp at h; omega
  | left, b :: l, h, h1 => by
    rw [ImageCheck.feed_cons]
    simp only [ImageCheck.step]
    by_cases hl : left ≤ 1
    · have : left = 1 := by omega
      subst this
      have : l = [] := by simpa using h
      subst this
      simp [ImageCheck.feed]
    · rw [if_neg hl]
      exact ImageCheck.feed_literal row col n (left - 1) l (by simp at h; omega) (by omega)

/-- The level bytes of a LITERAL that stays in its row give its pixels, the high half of each byte first (R16, R17). -/
theorem ImageDecode.foldl_literal (rows : List (List Nat)) : ∀ (levels : List Byte) (left : Nat) (cur : List Nat), 1 ≤ left →
    levels.length = (left + 1) / 2 → cur.length + left ≤ 1200 →
    levels.foldl ImageDecode.step ⟨rows, cur, .literal left⟩ =
      ImageDecode.pixels ⟨rows, cur, .start⟩ ((levels.flatMap (fun x => [x.toNat / 16, x.toNat % 16])).take left) .start
  | [], left, _, h1, h2, _ => by simp at h2; omega
  | b :: l, left, cur, h1, h2, h3 => by
    rw [List.foldl_cons]
    simp only [ImageDecode.step]
    by_cases hl : left ≤ 2
    · have : l = [] := by
        cases l with
        | nil => rfl
        | cons => simp at h2; omega
      subst this
      rw [if_pos hl]
      rcases (by omega : left = 1 ∨ left = 2) with rfl | rfl <;> simp [literalLevels, ImageDecode.pixels]
    · obtain ⟨k, rfl⟩ : ∃ k, left = k + 2 := ⟨left - 2, by omega⟩
      have e : ImageDecode.pixels ⟨rows, cur, .literal (k + 2)⟩ (literalLevels b (k + 2)) (.literal k)
          = ⟨rows, cur ++ [b.toNat / 16, b.toNat % 16], .literal k⟩ := by
        unfold ImageDecode.pixels literalLevels
        dsimp only
        rw [if_neg (by simp [Config.columns]; omega)]
        simp
      rw [if_neg hl, show k + 2 - 2 = k by omega, e,
        ImageDecode.foldl_literal rows l k _ (by omega) (by simp at h2; omega) (by simp; omega)]
      simp [ImageDecode.pixels]

end Sys2Proof.Machine
end

