-- ==== Sys2Proof/Laws/Memory.lean ====
section
/-!
SUPPORT. The attached memory: a read after a write, and the canonical form kept by every operation.
-/

namespace Sys2Proof.Machine

theorem Memory.wfFrom_mono {m : Memory} {a b : Nat} (h : a ≤ b) (hw : Memory.wfFrom b m = true) :
    Memory.wfFrom a m = true := by
  cases m with
  | nil => rfl
  | cons c m =>
    obtain ⟨k, v⟩ := c
    simp only [Memory.wfFrom, Bool.and_eq_true, decide_eq_true_eq] at hw ⊢
    exact ⟨⟨by omega, hw.1.2⟩, hw.2⟩

/-- Below the lowest listed address every byte reads 0. -/
theorem Memory.read_below {m : Memory} {lo a : Nat} (hw : Memory.wfFrom lo m = true) (h : a < lo) :
    Memory.read m a = 0#8 := by
  induction m generalizing lo with
  | nil => rfl
  | cons c m ih =>
    obtain ⟨k, v⟩ := c
    simp only [Memory.wfFrom, Bool.and_eq_true, decide_eq_true_eq] at hw
    have hk : k ≠ a := by omega
    simp only [Memory.read, hk, if_false]
    exact ih hw.2 (by omega)

/-- A byte written is the byte read, in a memory of canonical form. -/
theorem Memory.read_write_same {m : Memory} {lo : Nat} (hw : Memory.wfFrom lo m = true) (a : Nat) (b : Byte) :
    Memory.read (Memory.write m a b) a = b := by
  induction m generalizing lo with
  | nil => by_cases hb : b = 0#8 <;> simp [Memory.write, Memory.read, hb]
  | cons c m ih =>
    obtain ⟨k, v⟩ := c
    simp only [Memory.wfFrom, Bool.and_eq_true, decide_eq_true_eq] at hw
    simp only [Memory.write]
    split
    · next h => simp only [Memory.read, show k ≠ a by omega, if_false]; exact ih hw.2
    · split
      · next h =>
        subst h
        split
        · next hb => subst hb; exact Memory.read_below hw.2 (by omega)
        · simp [Memory.read]
      · next h1 h2 =>
        split
        · next hb =>
          subst hb
          simp only [Memory.read, h2, if_false]
          exact Memory.read_below hw.2 (by omega)
        · simp [Memory.read]

/-- A write leaves every other byte as it was. -/
theorem Memory.read_write_other (m : Memory) {a x : Nat} (b : Byte) (h : x ≠ a) :
    Memory.read (Memory.write m a b) x = Memory.read m x := by
  induction m with
  | nil => by_cases hb : b = 0#8 <;> simp [Memory.write, Memory.read, hb, h.symm]
  | cons c m ih =>
    obtain ⟨k, v⟩ := c
    simp only [Memory.write]
    split
    · simp only [Memory.read]; split
      · rfl
      · exact ih
    · split
      · next hk => subst hk; split <;> simp [Memory.read, h.symm]
      · split
        · rfl
        · simp only [Memory.read, h.symm, if_false]

theorem Memory.wfFrom_write {m : Memory} {lo a : Nat} (b : Byte) (hw : Memory.wfFrom lo m = true) (h : lo ≤ a) :
    Memory.wfFrom lo (Memory.write m a b) = true := by
  induction m generalizing lo with
  | nil => by_cases hb : b = 0#8 <;> simp [Memory.write, Memory.wfFrom, hb, h]
  | cons c m ih =>
    obtain ⟨k, v⟩ := c
    simp only [Memory.wfFrom, Bool.and_eq_true, decide_eq_true_eq] at hw
    simp only [Memory.write]
    split
    · simp only [Memory.wfFrom, Bool.and_eq_true, decide_eq_true_eq]
      exact ⟨hw.1, ih hw.2 (by omega)⟩
    · split
      · next hk =>
        subst hk
        split
        · exact Memory.wfFrom_mono (by omega) hw.2
        · next hb => simp [Memory.wfFrom, hb, hw.2, h]
      · split
        · simp [Memory.wfFrom, hw.1.1, hw.1.2, hw.2]
        · next h1 h2 hb =>
          have hk : a + 1 ≤ k := by omega
          simp [Memory.wfFrom, hb, hw.1.2, hw.2, h, hk]

/-- Writing one byte keeps the canonical form. -/
theorem Memory.wf_write {m : Memory} (a : Nat) (b : Byte) (hw : Memory.wf m = true) :
    Memory.wf (Memory.write m a b) = true := Memory.wfFrom_write b hw (Nat.zero_le a)

/-- Writing bytes keeps the canonical form. -/
theorem Memory.wf_writeBytes {m : Memory} (a : Nat) (bs : List Byte) (hw : Memory.wf m = true) :
    Memory.wf (Memory.writeBytes m a bs) = true := by
  induction bs generalizing m a with
  | nil => exact hw
  | cons b bs ih => exact ih (a + 1) (Memory.wf_write a b hw)

/-- Writing bytes leaves every byte outside their span as it was. -/
theorem Memory.read_writeBytes_other (m : Memory) (a : Nat) (bs : List Byte) {x : Nat}
    (h : x < a ∨ a + bs.length ≤ x) : Memory.read (Memory.writeBytes m a bs) x = Memory.read m x := by
  induction bs generalizing m a with
  | nil => rfl
  | cons b bs ih =>
    simp only [List.length_cons] at h
    rw [Memory.writeBytes, ih _ _ (by omega), Memory.read_write_other _ _ (by omega)]

/-- A work's chunk keeps the canonical form. -/
theorem Work.wf_stored (w : Work) {m : Memory} (hw : Memory.wf m = true) : Memory.wf (w.stored m) = true := by
  unfold Work.stored
  split
  · exact Memory.wf_writeBytes _ _ hw
  · exact hw

/-- A chunk of a port's work keeps the canonical form (what `Pool.workChunk` does to memory). -/
theorem Pool.wf_workChunk (p : Pool) (w : Work) (hw : Memory.wf p.mem = true) : Memory.wf (p.workChunk w).2 = true := by
  unfold Pool.workChunk
  dsimp only
  split
  · exact Work.wf_stored w hw
  · exact hw

/-- The memory right after reset has the canonical form. -/
theorem Memory.wf_reset : Memory.wf State.reset.pool.mem = true := rfl

/-- A grant keeps the canonical form of the memory. -/
theorem State.wf_grantChunk (s : State) (hw : Memory.wf s.pool.mem = true) : Memory.wf s.grantChunk.pool.mem = true := by
  unfold State.grantChunk
  split
  · split
    · next r _ =>
      cases r <;> simp only [State.chunkFor] <;> split <;> first | exact hw | exact Pool.wf_workChunk _ _ hw
    · exact hw
  · exact hw

end Sys2Proof.Machine
end

