-- ==== Sys2Proof/Laws/PerInstr.lean ====
section
/-!
SUPPORT. One law per command, about the command as syntax: a well-formed request's frame is its four header bytes and at
most 4,200 bytes of body (R175, R182).
-/

namespace Sys2Proof.Laws

/-- The frame of a well-formed command's request, if it carries one, is four bytes longer than its body and the body is at
most 4,200 bytes. -/
def FrameLength.Statement (i : Instr) : Prop :=
  i.wf = true → ∀ q, requestOf i = some q →
    (encodeFrame q).length = 4 + (encodeBody q).length ∧ (encodeBody q).length ≤ Config.bodyMax

/-- A number's bytes are as many as its width. -/
theorem leBytes_length (w n : Nat) : (Machine.leBytes w n).length = w := by
  induction w generalizing n with
  | zero => rfl
  | succ w ih => simp [Machine.leBytes, ih]

/-- A frame is four bytes longer than its body. -/
theorem encodeFrame_length (q : Req) : (encodeFrame q).length = 4 + (encodeBody q).length := by
  simp only [encodeFrame, List.length_cons, List.length_append, leBytes_length]

/-- The law for a command whose body fits its frame. -/
theorem frameLength_of_body {α : Type} (q : α → Req) (b : Body α) (h : bodyFits q b = true) (r : Req)
    (hr : bodyRequest q b = some r) :
    (encodeFrame r).length = 4 + (encodeBody r).length ∧ (encodeBody r).length ≤ Config.bodyMax := by
  cases b with
  | malformed => simp [bodyRequest] at hr
  | fields x =>
    simp only [bodyRequest, Option.some.injEq] at hr
    subst hr
    simp only [bodyFits, reqFits, Bool.and_eq_true, decide_eq_true_eq] at h
    exact ⟨encodeFrame_length _, h.2⟩


theorem FrameLength.powerOn (pins : StartPins) (first : Sample) : FrameLength.Statement (.powerOn pins first) := fun _ _ h => nomatch h
theorem FrameLength.depletedRestartSample (v : Nat) (first : Sample) : FrameLength.Statement (.depletedRestartSample v first) := fun _ _ h => nomatch h
theorem FrameLength.chipSelectRelease (p : Port) : FrameLength.Statement (.chipSelectRelease p) := fun _ _ h => nomatch h
theorem FrameLength.windowIgnored (p : Port) (bytes : List Byte) : FrameLength.Statement (.windowIgnored p bytes) := fun _ _ h => nomatch h
theorem FrameLength.frameDiscarded (p : Port) : FrameLength.Statement (.frameDiscarded p) := fun _ _ h => nomatch h
theorem FrameLength.unknownRequest (f : Frame) (code : Nat) : FrameLength.Statement (.unknownRequest f code) := fun _ _ h => nomatch h
theorem FrameLength.identify (f : Frame) (b : Body Unit) : FrameLength.Statement (.identify f b) := fun h r hr => frameLength_of_body _ b h r hr
theorem FrameLength.resetPort (f : Frame) (b : Body Unit) : FrameLength.Statement (.resetPort f b) := fun h r hr => frameLength_of_body _ b h r hr
theorem FrameLength.takeNotice (f : Frame) (b : Body TakeNoticeArgs) : FrameLength.Statement (.takeNotice f b) := fun h r hr => frameLength_of_body _ b h r hr
theorem FrameLength.setParam (f : Frame) (b : Body SetParamArgs) : FrameLength.Statement (.setParam f b) := fun h r hr => frameLength_of_body _ b h r hr
theorem FrameLength.getParam (f : Frame) (b : Body GetParamArgs) : FrameLength.Statement (.getParam f b) := fun h r hr => frameLength_of_body _ b h r hr
theorem FrameLength.share (f : Frame) (b : Body ShareArgs) : FrameLength.Statement (.share f b) := fun h r hr => frameLength_of_body _ b h r hr
theorem FrameLength.readShared (f : Frame) (b : Body ReadSharedArgs) : FrameLength.Statement (.readShared f b) := fun h r hr => frameLength_of_body _ b h r hr
theorem FrameLength.openSlot (f : Frame) (b : Body OpenSlotArgs) : FrameLength.Statement (.openSlot f b) := fun h r hr => frameLength_of_body _ b h r hr
theorem FrameLength.writeSlot (f : Frame) (b : Body WriteSlotArgs) : FrameLength.Statement (.writeSlot f b) := fun h r hr => frameLength_of_body _ b h r hr
theorem FrameLength.writeSlotEnd : FrameLength.Statement (.writeSlotEnd) := fun _ _ h => nomatch h
theorem FrameLength.commitSlot (f : Frame) (b : Body SlotArgs) : FrameLength.Statement (.commitSlot f b) := fun h r hr => frameLength_of_body _ b h r hr
theorem FrameLength.verifyScanEnd : FrameLength.Statement (.verifyScanEnd) := fun _ _ h => nomatch h
theorem FrameLength.cancelSlot (f : Frame) (b : Body SlotArgs) : FrameLength.Statement (.cancelSlot f b) := fun h r hr => frameLength_of_body _ b h r hr
theorem FrameLength.blankSlot (f : Frame) (b : Body BlankSlotArgs) : FrameLength.Statement (.blankSlot f b) := fun h r hr => frameLength_of_body _ b h r hr
theorem FrameLength.blankSlotWriteEnd : FrameLength.Statement (.blankSlotWriteEnd) := fun _ _ h => nomatch h
theorem FrameLength.setClass (f : Frame) (b : Body SetClassArgs) : FrameLength.Statement (.setClass f b) := fun h r hr => frameLength_of_body _ b h r hr
theorem FrameLength.designate (f : Frame) (b : Body DesignateArgs) : FrameLength.Statement (.designate f b) := fun h r hr => frameLength_of_body _ b h r hr
theorem FrameLength.forget (f : Frame) (b : Body ForgetArgs) : FrameLength.Statement (.forget f b) := fun h r hr => frameLength_of_body _ b h r hr
theorem FrameLength.listSlots (f : Frame) (b : Body Unit) : FrameLength.Statement (.listSlots f b) := fun h r hr => frameLength_of_body _ b h r hr
theorem FrameLength.turn (f : Frame) (b : Body TurnArgs) : FrameLength.Statement (.turn f b) := fun h r hr => frameLength_of_body _ b h r hr
theorem FrameLength.setKeyRoute (f : Frame) (b : Body SetKeyRouteArgs) : FrameLength.Statement (.setKeyRoute f b) := fun h r hr => frameLength_of_body _ b h r hr
theorem FrameLength.turnStatus (f : Frame) (b : Body Unit) : FrameLength.Statement (.turnStatus f b) := fun h r hr => frameLength_of_body _ b h r hr
theorem FrameLength.keyRawEdge (k : Key) (pressed : Bool) : FrameLength.Statement (.keyRawEdge k pressed) := fun _ _ h => nomatch h
theorem FrameLength.keyDebounceExpiry (k : Key) : FrameLength.Statement (.keyDebounceExpiry k) := fun _ _ h => nomatch h
theorem FrameLength.holdTimerExpiry (k : Key) : FrameLength.Statement (.holdTimerExpiry k) := fun _ _ h => nomatch h
theorem FrameLength.repeatTimerExpiry (k : Key) : FrameLength.Statement (.repeatTimerExpiry k) := fun _ _ h => nomatch h
theorem FrameLength.touchIntFall : FrameLength.Statement (.touchIntFall) := fun _ _ h => nomatch h
theorem FrameLength.missWaitExpiry : FrameLength.Statement (.missWaitExpiry) := fun _ _ h => nomatch h
theorem FrameLength.waveformWrite (f : Frame) (b : Body WaveformWriteArgs) : FrameLength.Statement (.waveformWrite f b) := fun h r hr => frameLength_of_body _ b h r hr
theorem FrameLength.waveformWriteEnd : FrameLength.Statement (.waveformWriteEnd) := fun _ _ h => nomatch h
theorem FrameLength.waveformCommit (f : Frame) (b : Body Unit) : FrameLength.Statement (.waveformCommit f b) := fun h r hr => frameLength_of_body _ b h r hr
theorem FrameLength.waveformCommitEnd : FrameLength.Statement (.waveformCommitEnd) := fun _ _ h => nomatch h
theorem FrameLength.panelStatus (f : Frame) (b : Body Unit) : FrameLength.Statement (.panelStatus f b) := fun h r hr => frameLength_of_body _ b h r hr
theorem FrameLength.tempReadEnd (reading : Option Int) : FrameLength.Statement (.tempReadEnd reading) := fun _ _ h => nomatch h
theorem FrameLength.planningEnd : FrameLength.Statement (.planningEnd) := fun _ _ h => nomatch h
theorem FrameLength.railRiseEnd : FrameLength.Statement (.railRiseEnd) := fun _ _ h => nomatch h
theorem FrameLength.powerWaitExpiry : FrameLength.Statement (.powerWaitExpiry) := fun _ _ h => nomatch h
theorem FrameLength.frameEnd : FrameLength.Statement (.frameEnd) := fun _ _ h => nomatch h
theorem FrameLength.railHoldExpiry : FrameLength.Statement (.railHoldExpiry) := fun _ _ h => nomatch h
theorem FrameLength.railFallEnd : FrameLength.Statement (.railFallEnd) := fun _ _ h => nomatch h
theorem FrameLength.lightSet (f : Frame) (b : Body LightSetArgs) : FrameLength.Statement (.lightSet f b) := fun h r hr => frameLength_of_body _ b h r hr
theorem FrameLength.loadCurve (f : Frame) (b : Body LoadCurveArgs) : FrameLength.Statement (.loadCurve f b) := fun h r hr => frameLength_of_body _ b h r hr
theorem FrameLength.lightState (f : Frame) (b : Body Unit) : FrameLength.Statement (.lightState f b) := fun h r hr => frameLength_of_body _ b h r hr
theorem FrameLength.rampTimerExpiry : FrameLength.Statement (.rampTimerExpiry) := fun _ _ h => nomatch h
theorem FrameLength.periodBoundary : FrameLength.Statement (.periodBoundary) := fun _ _ h => nomatch h
theorem FrameLength.clearAlarm (f : Frame) (b : Body Unit) : FrameLength.Statement (.clearAlarm f b) := fun h r hr => frameLength_of_body _ b h r hr
theorem FrameLength.headroomStatus (f : Frame) (b : Body Unit) : FrameLength.Statement (.headroomStatus f b) := fun h r hr => frameLength_of_body _ b h r hr
theorem FrameLength.batterySample (x : Sample) : FrameLength.Statement (.batterySample x) := fun _ _ h => nomatch h
theorem FrameLength.alarmClearTimerExpiry : FrameLength.Statement (.alarmClearTimerExpiry) := fun _ _ h => nomatch h
theorem FrameLength.txLease (f : Frame) (b : Body TxLeaseArgs) : FrameLength.Statement (.txLease f b) := fun h r hr => frameLength_of_body _ b h r hr
theorem FrameLength.txRelease (f : Frame) (b : Body Unit) : FrameLength.Statement (.txRelease f b) := fun h r hr => frameLength_of_body _ b h r hr
theorem FrameLength.txCancel (f : Frame) (b : Body Unit) : FrameLength.Statement (.txCancel f b) := fun h r hr => frameLength_of_body _ b h r hr
theorem FrameLength.leaseExpiry : FrameLength.Statement (.leaseExpiry) := fun _ _ h => nomatch h
theorem FrameLength.sleep (f : Frame) (b : Body SleepArgs) (awake : Bool) : FrameLength.Statement (.sleep f b awake) := fun h r hr => frameLength_of_body _ b h r hr
theorem FrameLength.awakeFall : FrameLength.Statement (.awakeFall) := fun _ _ h => nomatch h
theorem FrameLength.apOffTimerExpiry : FrameLength.Statement (.apOffTimerExpiry) := fun _ _ h => nomatch h
theorem FrameLength.dozeIdleExpiry : FrameLength.Statement (.dozeIdleExpiry) := fun _ _ h => nomatch h
theorem FrameLength.deferralExpiry : FrameLength.Statement (.deferralExpiry) := fun _ _ h => nomatch h
theorem FrameLength.radioNoticeExpiry : FrameLength.Statement (.radioNoticeExpiry) := fun _ _ h => nomatch h
theorem FrameLength.selfRefreshEntered : FrameLength.Statement (.selfRefreshEntered) := fun _ _ h => nomatch h
theorem FrameLength.radioPower (f : Frame) (b : Body RadioPowerArgs) : FrameLength.Statement (.radioPower f b) := fun h r hr => frameLength_of_body _ b h r hr
theorem FrameLength.radioSleep (f : Frame) (b : Body Unit) : FrameLength.Statement (.radioSleep f b) := fun h r hr => frameLength_of_body _ b h r hr
theorem FrameLength.setTime (f : Frame) (b : Body SetTimeArgs) : FrameLength.Statement (.setTime f b) := fun h r hr => frameLength_of_body _ b h r hr
theorem FrameLength.setAlarm (f : Frame) (b : Body SetAlarmArgs) : FrameLength.Statement (.setAlarm f b) := fun h r hr => frameLength_of_body _ b h r hr
theorem FrameLength.timeCounterStep : FrameLength.Statement (.timeCounterStep) := fun _ _ h => nomatch h
theorem FrameLength.chargerLineChange (line : ChgLine) (high : Bool) : FrameLength.Statement (.chargerLineChange line high) := fun _ _ h => nomatch h
theorem FrameLength.criticalGraceExpiry : FrameLength.Statement (.criticalGraceExpiry) := fun _ _ h => nomatch h
theorem FrameLength.depletionTimerExpiry : FrameLength.Statement (.depletionTimerExpiry) := fun _ _ h => nomatch h
theorem FrameLength.batteryStatus (f : Frame) (b : Body Unit) : FrameLength.Statement (.batteryStatus f b) := fun h r hr => frameLength_of_body _ b h r hr
theorem FrameLength.sleepStatus (f : Frame) (b : Body Unit) : FrameLength.Statement (.sleepStatus f b) := fun h r hr => frameLength_of_body _ b h r hr
theorem FrameLength.openStream (f : Frame) (b : Body OpenStreamArgs) : FrameLength.Statement (.openStream f b) := fun h r hr => frameLength_of_body _ b h r hr
theorem FrameLength.putBlock (f : Frame) (b : Body PutBlockArgs) : FrameLength.Statement (.putBlock f b) := fun h r hr => frameLength_of_body _ b h r hr
theorem FrameLength.putBlockWriteEnd : FrameLength.Statement (.putBlockWriteEnd) := fun _ _ h => nomatch h
theorem FrameLength.closeStream (f : Frame) (b : Body CloseStreamArgs) : FrameLength.Statement (.closeStream f b) := fun h r hr => frameLength_of_body _ b h r hr
theorem FrameLength.waitSpace (f : Frame) (b : Body WaitSpaceArgs) : FrameLength.Statement (.waitSpace f b) := fun h r hr => frameLength_of_body _ b h r hr
theorem FrameLength.abortStream (f : Frame) (b : Body StreamArgs) : FrameLength.Statement (.abortStream f b) := fun h r hr => frameLength_of_body _ b h r hr
theorem FrameLength.drain (f : Frame) (b : Body Unit) : FrameLength.Statement (.drain f b) := fun h r hr => frameLength_of_body _ b h r hr
theorem FrameLength.drainEnd : FrameLength.Statement (.drainEnd) := fun _ _ h => nomatch h
theorem FrameLength.stagingStatus (f : Frame) (b : Body Unit) : FrameLength.Statement (.stagingStatus f b) := fun h r hr => frameLength_of_body _ b h r hr
theorem FrameLength.stagingIdleExpiry : FrameLength.Statement (.stagingIdleExpiry) := fun _ _ h => nomatch h
theorem FrameLength.peekNotices (f : Frame) (b : Body Unit) : FrameLength.Statement (.peekNotices f b) := fun h r hr => frameLength_of_body _ b h r hr
theorem FrameLength.clearNotices (f : Frame) (b : Body ClearNoticesArgs) : FrameLength.Statement (.clearNotices f b) := fun h r hr => frameLength_of_body _ b h r hr
theorem FrameLength.setNoticeLevel (f : Frame) (b : Body SetNoticeLevelArgs) : FrameLength.Statement (.setNoticeLevel f b) := fun h r hr => frameLength_of_body _ b h r hr
theorem FrameLength.chunkGrant : FrameLength.Statement (.chunkGrant) := fun _ _ h => nomatch h
theorem FrameLength.panelFeedBurst (src : FeedSource) (roomAfter : Bool) : FrameLength.Statement (.panelFeedBurst src roomAfter) := fun _ _ h => nomatch h
theorem FrameLength.selfRefreshLeft : FrameLength.Statement (.selfRefreshLeft) := fun _ _ h => nomatch h

end Sys2Proof.Laws
end

