-- ==== Sys2Proof/Laws/State.lean ====
section
/-!
SUPPORT. What each named update of the state leaves as it was, field by field, so that no later proof unfolds a record
update.
-/

namespace Sys2Proof.Machine

@[simp] theorem State.setPort_params (s : State) (p : Port) (u : PortUnit) : (s.setPort p u).params = s.params := by cases p <;> rfl
@[simp] theorem State.setPort_pool (s : State) (p : Port) (u : PortUnit) : (s.setPort p u).pool = s.pool := by cases p <;> rfl
@[simp] theorem State.setPort_slots (s : State) (p : Port) (u : PortUnit) : (s.setPort p u).slots = s.slots := by cases p <;> rfl
@[simp] theorem State.setPort_turn (s : State) (p : Port) (u : PortUnit) : (s.setPort p u).turn = s.turn := by cases p <;> rfl
@[simp] theorem State.setPort_panel (s : State) (p : Port) (u : PortUnit) : (s.setPort p u).panel = s.panel := by cases p <;> rfl
@[simp] theorem State.setPort_light (s : State) (p : Port) (u : PortUnit) : (s.setPort p u).light = s.light := by cases p <;> rfl
@[simp] theorem State.setPort_head (s : State) (p : Port) (u : PortUnit) : (s.setPort p u).head = s.head := by cases p <;> rfl
@[simp] theorem State.setPort_bs (s : State) (p : Port) (u : PortUnit) : (s.setPort p u).bs = s.bs := by cases p <;> rfl
@[simp] theorem State.setPort_staging (s : State) (p : Port) (u : PortUnit) : (s.setPort p u).staging = s.staging := by cases p <;> rfl
@[simp] theorem State.setPort_notices (s : State) (p : Port) (u : PortUnit) : (s.setPort p u).notices = s.notices := by cases p <;> rfl
@[simp] theorem State.setPort_shares (s : State) (p : Port) (u : PortUnit) : (s.setPort p u).shares = s.shares := by cases p <;> rfl
@[simp] theorem State.setPort_pins (s : State) (p : Port) (u : PortUnit) : (s.setPort p u).pins = s.pins := by cases p <;> rfl
@[simp] theorem State.setPort_now (s : State) (p : Port) (u : PortUnit) : (s.setPort p u).now = s.now := by cases p <;> rfl
@[simp] theorem State.setPort_pending (s : State) (p : Port) (u : PortUnit) : (s.setPort p u).pending = s.pending := by cases p <;> rfl

@[simp] theorem State.give_params (s : State) (p : Port) (a : Answer) : (s.give p a).params = s.params := by cases p <;> rfl
@[simp] theorem State.give_pool (s : State) (p : Port) (a : Answer) : (s.give p a).pool = s.pool := by cases p <;> rfl
@[simp] theorem State.give_slots (s : State) (p : Port) (a : Answer) : (s.give p a).slots = s.slots := by cases p <;> rfl
@[simp] theorem State.give_turn (s : State) (p : Port) (a : Answer) : (s.give p a).turn = s.turn := by cases p <;> rfl
@[simp] theorem State.give_panel (s : State) (p : Port) (a : Answer) : (s.give p a).panel = s.panel := by cases p <;> rfl
@[simp] theorem State.give_light (s : State) (p : Port) (a : Answer) : (s.give p a).light = s.light := by cases p <;> rfl
@[simp] theorem State.give_head (s : State) (p : Port) (a : Answer) : (s.give p a).head = s.head := by cases p <;> rfl
@[simp] theorem State.give_bs (s : State) (p : Port) (a : Answer) : (s.give p a).bs = s.bs := by cases p <;> rfl
@[simp] theorem State.give_staging (s : State) (p : Port) (a : Answer) : (s.give p a).staging = s.staging := by cases p <;> rfl
@[simp] theorem State.give_notices (s : State) (p : Port) (a : Answer) : (s.give p a).notices = s.notices := by cases p <;> rfl
@[simp] theorem State.give_shares (s : State) (p : Port) (a : Answer) : (s.give p a).shares = s.shares := by cases p <;> rfl
@[simp] theorem State.give_pins (s : State) (p : Port) (a : Answer) : (s.give p a).pins = s.pins := by cases p <;> rfl
@[simp] theorem State.give_now (s : State) (p : Port) (a : Answer) : (s.give p a).now = s.now := by cases p <;> rfl
@[simp] theorem State.give_pending (s : State) (p : Port) (a : Answer) : (s.give p a).pending = s.pending := by cases p <;> rfl

@[simp] theorem State.say_params (s : State) (p : Port) (c : Status) : (s.say p c).params = s.params := by cases p <;> rfl
@[simp] theorem State.say_pool (s : State) (p : Port) (c : Status) : (s.say p c).pool = s.pool := by cases p <;> rfl
@[simp] theorem State.say_slots (s : State) (p : Port) (c : Status) : (s.say p c).slots = s.slots := by cases p <;> rfl
@[simp] theorem State.say_turn (s : State) (p : Port) (c : Status) : (s.say p c).turn = s.turn := by cases p <;> rfl
@[simp] theorem State.say_panel (s : State) (p : Port) (c : Status) : (s.say p c).panel = s.panel := by cases p <;> rfl
@[simp] theorem State.say_light (s : State) (p : Port) (c : Status) : (s.say p c).light = s.light := by cases p <;> rfl
@[simp] theorem State.say_head (s : State) (p : Port) (c : Status) : (s.say p c).head = s.head := by cases p <;> rfl
@[simp] theorem State.say_bs (s : State) (p : Port) (c : Status) : (s.say p c).bs = s.bs := by cases p <;> rfl
@[simp] theorem State.say_staging (s : State) (p : Port) (c : Status) : (s.say p c).staging = s.staging := by cases p <;> rfl
@[simp] theorem State.say_notices (s : State) (p : Port) (c : Status) : (s.say p c).notices = s.notices := by cases p <;> rfl
@[simp] theorem State.say_shares (s : State) (p : Port) (c : Status) : (s.say p c).shares = s.shares := by cases p <;> rfl
@[simp] theorem State.say_pins (s : State) (p : Port) (c : Status) : (s.say p c).pins = s.pins := by cases p <;> rfl
@[simp] theorem State.say_now (s : State) (p : Port) (c : Status) : (s.say p c).now = s.now := by cases p <;> rfl
@[simp] theorem State.say_pending (s : State) (p : Port) (c : Status) : (s.say p c).pending = s.pending := by cases p <;> rfl

@[simp] theorem State.tell_params (s : State) (p : Port) (b : AnswerBody) : (s.tell p b).params = s.params := by cases p <;> rfl
@[simp] theorem State.tell_pool (s : State) (p : Port) (b : AnswerBody) : (s.tell p b).pool = s.pool := by cases p <;> rfl
@[simp] theorem State.tell_slots (s : State) (p : Port) (b : AnswerBody) : (s.tell p b).slots = s.slots := by cases p <;> rfl
@[simp] theorem State.tell_turn (s : State) (p : Port) (b : AnswerBody) : (s.tell p b).turn = s.turn := by cases p <;> rfl
@[simp] theorem State.tell_panel (s : State) (p : Port) (b : AnswerBody) : (s.tell p b).panel = s.panel := by cases p <;> rfl
@[simp] theorem State.tell_light (s : State) (p : Port) (b : AnswerBody) : (s.tell p b).light = s.light := by cases p <;> rfl
@[simp] theorem State.tell_head (s : State) (p : Port) (b : AnswerBody) : (s.tell p b).head = s.head := by cases p <;> rfl
@[simp] theorem State.tell_bs (s : State) (p : Port) (b : AnswerBody) : (s.tell p b).bs = s.bs := by cases p <;> rfl
@[simp] theorem State.tell_staging (s : State) (p : Port) (b : AnswerBody) : (s.tell p b).staging = s.staging := by cases p <;> rfl
@[simp] theorem State.tell_notices (s : State) (p : Port) (b : AnswerBody) : (s.tell p b).notices = s.notices := by cases p <;> rfl
@[simp] theorem State.tell_shares (s : State) (p : Port) (b : AnswerBody) : (s.tell p b).shares = s.shares := by cases p <;> rfl
@[simp] theorem State.tell_pins (s : State) (p : Port) (b : AnswerBody) : (s.tell p b).pins = s.pins := by cases p <;> rfl
@[simp] theorem State.tell_now (s : State) (p : Port) (b : AnswerBody) : (s.tell p b).now = s.now := by cases p <;> rfl
@[simp] theorem State.tell_pending (s : State) (p : Port) (b : AnswerBody) : (s.tell p b).pending = s.pending := by cases p <;> rfl

@[simp] theorem State.setWork_params (s : State) (p : Port) (w : Option Work) : (s.setWork p w).params = s.params := by cases p <;> rfl
@[simp] theorem State.setWork_slots (s : State) (p : Port) (w : Option Work) : (s.setWork p w).slots = s.slots := by cases p <;> rfl
@[simp] theorem State.setWork_turn (s : State) (p : Port) (w : Option Work) : (s.setWork p w).turn = s.turn := by cases p <;> rfl
@[simp] theorem State.setWork_panel (s : State) (p : Port) (w : Option Work) : (s.setWork p w).panel = s.panel := by cases p <;> rfl
@[simp] theorem State.setWork_light (s : State) (p : Port) (w : Option Work) : (s.setWork p w).light = s.light := by cases p <;> rfl
@[simp] theorem State.setWork_head (s : State) (p : Port) (w : Option Work) : (s.setWork p w).head = s.head := by cases p <;> rfl
@[simp] theorem State.setWork_bs (s : State) (p : Port) (w : Option Work) : (s.setWork p w).bs = s.bs := by cases p <;> rfl
@[simp] theorem State.setWork_staging (s : State) (p : Port) (w : Option Work) : (s.setWork p w).staging = s.staging := by cases p <;> rfl
@[simp] theorem State.setWork_notices (s : State) (p : Port) (w : Option Work) : (s.setWork p w).notices = s.notices := by cases p <;> rfl
@[simp] theorem State.setWork_portA (s : State) (p : Port) (w : Option Work) : (s.setWork p w).portA = s.portA := by cases p <;> rfl
@[simp] theorem State.setWork_portR (s : State) (p : Port) (w : Option Work) : (s.setWork p w).portR = s.portR := by cases p <;> rfl
@[simp] theorem State.setWork_shares (s : State) (p : Port) (w : Option Work) : (s.setWork p w).shares = s.shares := by cases p <;> rfl
@[simp] theorem State.setWork_pins (s : State) (p : Port) (w : Option Work) : (s.setWork p w).pins = s.pins := by cases p <;> rfl
@[simp] theorem State.setWork_now (s : State) (p : Port) (w : Option Work) : (s.setWork p w).now = s.now := by cases p <;> rfl
@[simp] theorem State.setWork_pending (s : State) (p : Port) (w : Option Work) : (s.setWork p w).pending = s.pending := by cases p <;> rfl

@[simp] theorem State.setSlot_params (s : State) (n : Nat) (x : Slot) : (s.setSlot n x).params = s.params := rfl
@[simp] theorem State.setSlot_pool (s : State) (n : Nat) (x : Slot) : (s.setSlot n x).pool = s.pool := rfl
@[simp] theorem State.setSlot_turn (s : State) (n : Nat) (x : Slot) : (s.setSlot n x).turn = s.turn := rfl
@[simp] theorem State.setSlot_panel (s : State) (n : Nat) (x : Slot) : (s.setSlot n x).panel = s.panel := rfl
@[simp] theorem State.setSlot_light (s : State) (n : Nat) (x : Slot) : (s.setSlot n x).light = s.light := rfl
@[simp] theorem State.setSlot_head (s : State) (n : Nat) (x : Slot) : (s.setSlot n x).head = s.head := rfl
@[simp] theorem State.setSlot_bs (s : State) (n : Nat) (x : Slot) : (s.setSlot n x).bs = s.bs := rfl
@[simp] theorem State.setSlot_staging (s : State) (n : Nat) (x : Slot) : (s.setSlot n x).staging = s.staging := rfl
@[simp] theorem State.setSlot_notices (s : State) (n : Nat) (x : Slot) : (s.setSlot n x).notices = s.notices := rfl
@[simp] theorem State.setSlot_portA (s : State) (n : Nat) (x : Slot) : (s.setSlot n x).portA = s.portA := rfl
@[simp] theorem State.setSlot_portR (s : State) (n : Nat) (x : Slot) : (s.setSlot n x).portR = s.portR := rfl
@[simp] theorem State.setSlot_shares (s : State) (n : Nat) (x : Slot) : (s.setSlot n x).shares = s.shares := rfl
@[simp] theorem State.setSlot_pins (s : State) (n : Nat) (x : Slot) : (s.setSlot n x).pins = s.pins := rfl
@[simp] theorem State.setSlot_now (s : State) (n : Nat) (x : Slot) : (s.setSlot n x).now = s.now := rfl
@[simp] theorem State.setSlot_pending (s : State) (n : Nat) (x : Slot) : (s.setSlot n x).pending = s.pending := rfl

@[simp] theorem State.release_params (s : State) (es : List Nat) : (s.release es).params = s.params := rfl
@[simp] theorem State.release_slots (s : State) (es : List Nat) : (s.release es).slots = s.slots := rfl
@[simp] theorem State.release_turn (s : State) (es : List Nat) : (s.release es).turn = s.turn := rfl
@[simp] theorem State.release_panel (s : State) (es : List Nat) : (s.release es).panel = s.panel := rfl
@[simp] theorem State.release_light (s : State) (es : List Nat) : (s.release es).light = s.light := rfl
@[simp] theorem State.release_head (s : State) (es : List Nat) : (s.release es).head = s.head := rfl
@[simp] theorem State.release_bs (s : State) (es : List Nat) : (s.release es).bs = s.bs := rfl
@[simp] theorem State.release_staging (s : State) (es : List Nat) : (s.release es).staging = s.staging := rfl
@[simp] theorem State.release_notices (s : State) (es : List Nat) : (s.release es).notices = s.notices := rfl
@[simp] theorem State.release_portA (s : State) (es : List Nat) : (s.release es).portA = s.portA := rfl
@[simp] theorem State.release_portR (s : State) (es : List Nat) : (s.release es).portR = s.portR := rfl
@[simp] theorem State.release_shares (s : State) (es : List Nat) : (s.release es).shares = s.shares := rfl
@[simp] theorem State.release_pins (s : State) (es : List Nat) : (s.release es).pins = s.pins := rfl
@[simp] theorem State.release_now (s : State) (es : List Nat) : (s.release es).now = s.now := rfl
@[simp] theorem State.release_pending (s : State) (es : List Nat) : (s.release es).pending = s.pending := rfl

@[simp] theorem State.emptySlot_params (s : State) (n : Nat) (lost : Bool) : (s.emptySlot n lost).params = s.params := rfl
@[simp] theorem State.emptySlot_turn (s : State) (n : Nat) (lost : Bool) : (s.emptySlot n lost).turn = s.turn := rfl
@[simp] theorem State.emptySlot_panel (s : State) (n : Nat) (lost : Bool) : (s.emptySlot n lost).panel = s.panel := rfl
@[simp] theorem State.emptySlot_light (s : State) (n : Nat) (lost : Bool) : (s.emptySlot n lost).light = s.light := rfl
@[simp] theorem State.emptySlot_head (s : State) (n : Nat) (lost : Bool) : (s.emptySlot n lost).head = s.head := rfl
@[simp] theorem State.emptySlot_bs (s : State) (n : Nat) (lost : Bool) : (s.emptySlot n lost).bs = s.bs := rfl
@[simp] theorem State.emptySlot_staging (s : State) (n : Nat) (lost : Bool) : (s.emptySlot n lost).staging = s.staging := rfl
@[simp] theorem State.emptySlot_notices (s : State) (n : Nat) (lost : Bool) : (s.emptySlot n lost).notices = s.notices := rfl
@[simp] theorem State.emptySlot_portA (s : State) (n : Nat) (lost : Bool) : (s.emptySlot n lost).portA = s.portA := rfl
@[simp] theorem State.emptySlot_portR (s : State) (n : Nat) (lost : Bool) : (s.emptySlot n lost).portR = s.portR := rfl
@[simp] theorem State.emptySlot_shares (s : State) (n : Nat) (lost : Bool) : (s.emptySlot n lost).shares = s.shares := rfl
@[simp] theorem State.emptySlot_pins (s : State) (n : Nat) (lost : Bool) : (s.emptySlot n lost).pins = s.pins := rfl
@[simp] theorem State.emptySlot_now (s : State) (n : Nat) (lost : Bool) : (s.emptySlot n lost).now = s.now := rfl
@[simp] theorem State.emptySlot_pending (s : State) (n : Nat) (lost : Bool) : (s.emptySlot n lost).pending = s.pending := rfl

@[simp] theorem State.stamp_params (s : State) (n : Nat) : (s.stamp n).params = s.params := rfl
@[simp] theorem State.stamp_pool (s : State) (n : Nat) : (s.stamp n).pool = s.pool := rfl
@[simp] theorem State.stamp_turn (s : State) (n : Nat) : (s.stamp n).turn = s.turn := rfl
@[simp] theorem State.stamp_panel (s : State) (n : Nat) : (s.stamp n).panel = s.panel := rfl
@[simp] theorem State.stamp_light (s : State) (n : Nat) : (s.stamp n).light = s.light := rfl
@[simp] theorem State.stamp_head (s : State) (n : Nat) : (s.stamp n).head = s.head := rfl
@[simp] theorem State.stamp_bs (s : State) (n : Nat) : (s.stamp n).bs = s.bs := rfl
@[simp] theorem State.stamp_staging (s : State) (n : Nat) : (s.stamp n).staging = s.staging := rfl
@[simp] theorem State.stamp_notices (s : State) (n : Nat) : (s.stamp n).notices = s.notices := rfl
@[simp] theorem State.stamp_portA (s : State) (n : Nat) : (s.stamp n).portA = s.portA := rfl
@[simp] theorem State.stamp_portR (s : State) (n : Nat) : (s.stamp n).portR = s.portR := rfl
@[simp] theorem State.stamp_shares (s : State) (n : Nat) : (s.stamp n).shares = s.shares := rfl
@[simp] theorem State.stamp_pins (s : State) (n : Nat) : (s.stamp n).pins = s.pins := rfl
@[simp] theorem State.stamp_now (s : State) (n : Nat) : (s.stamp n).now = s.now := rfl
@[simp] theorem State.stamp_pending (s : State) (n : Nat) : (s.stamp n).pending = s.pending := rfl

@[simp] theorem State.mapNotice_params (s : State) (k : Nat) (f : Notice → Notice) : (s.mapNotice k f).params = s.params := rfl
@[simp] theorem State.mapNotice_pool (s : State) (k : Nat) (f : Notice → Notice) : (s.mapNotice k f).pool = s.pool := rfl
@[simp] theorem State.mapNotice_slots (s : State) (k : Nat) (f : Notice → Notice) : (s.mapNotice k f).slots = s.slots := rfl
@[simp] theorem State.mapNotice_turn (s : State) (k : Nat) (f : Notice → Notice) : (s.mapNotice k f).turn = s.turn := rfl
@[simp] theorem State.mapNotice_panel (s : State) (k : Nat) (f : Notice → Notice) : (s.mapNotice k f).panel = s.panel := rfl
@[simp] theorem State.mapNotice_light (s : State) (k : Nat) (f : Notice → Notice) : (s.mapNotice k f).light = s.light := rfl
@[simp] theorem State.mapNotice_head (s : State) (k : Nat) (f : Notice → Notice) : (s.mapNotice k f).head = s.head := rfl
@[simp] theorem State.mapNotice_bs (s : State) (k : Nat) (f : Notice → Notice) : (s.mapNotice k f).bs = s.bs := rfl
@[simp] theorem State.mapNotice_staging (s : State) (k : Nat) (f : Notice → Notice) : (s.mapNotice k f).staging = s.staging := rfl
@[simp] theorem State.mapNotice_portA (s : State) (k : Nat) (f : Notice → Notice) : (s.mapNotice k f).portA = s.portA := rfl
@[simp] theorem State.mapNotice_portR (s : State) (k : Nat) (f : Notice → Notice) : (s.mapNotice k f).portR = s.portR := rfl
@[simp] theorem State.mapNotice_shares (s : State) (k : Nat) (f : Notice → Notice) : (s.mapNotice k f).shares = s.shares := rfl
@[simp] theorem State.mapNotice_pins (s : State) (k : Nat) (f : Notice → Notice) : (s.mapNotice k f).pins = s.pins := rfl
@[simp] theorem State.mapNotice_now (s : State) (k : Nat) (f : Notice → Notice) : (s.mapNotice k f).now = s.now := rfl
@[simp] theorem State.mapNotice_pending (s : State) (k : Nat) (f : Notice → Notice) : (s.mapNotice k f).pending = s.pending := rfl

@[simp] theorem State.mark_params (s : State) (src : Source) (d : Detail) : (s.mark src d).params = s.params := rfl
@[simp] theorem State.mark_pool (s : State) (src : Source) (d : Detail) : (s.mark src d).pool = s.pool := rfl
@[simp] theorem State.mark_slots (s : State) (src : Source) (d : Detail) : (s.mark src d).slots = s.slots := rfl
@[simp] theorem State.mark_turn (s : State) (src : Source) (d : Detail) : (s.mark src d).turn = s.turn := rfl
@[simp] theorem State.mark_panel (s : State) (src : Source) (d : Detail) : (s.mark src d).panel = s.panel := rfl
@[simp] theorem State.mark_light (s : State) (src : Source) (d : Detail) : (s.mark src d).light = s.light := rfl
@[simp] theorem State.mark_head (s : State) (src : Source) (d : Detail) : (s.mark src d).head = s.head := rfl
@[simp] theorem State.mark_bs (s : State) (src : Source) (d : Detail) : (s.mark src d).bs = s.bs := rfl
@[simp] theorem State.mark_staging (s : State) (src : Source) (d : Detail) : (s.mark src d).staging = s.staging := rfl
@[simp] theorem State.mark_portA (s : State) (src : Source) (d : Detail) : (s.mark src d).portA = s.portA := rfl
@[simp] theorem State.mark_portR (s : State) (src : Source) (d : Detail) : (s.mark src d).portR = s.portR := rfl
@[simp] theorem State.mark_shares (s : State) (src : Source) (d : Detail) : (s.mark src d).shares = s.shares := rfl
@[simp] theorem State.mark_pins (s : State) (src : Source) (d : Detail) : (s.mark src d).pins = s.pins := rfl
@[simp] theorem State.mark_now (s : State) (src : Source) (d : Detail) : (s.mark src d).now = s.now := rfl
@[simp] theorem State.mark_pending (s : State) (src : Source) (d : Detail) : (s.mark src d).pending = s.pending := rfl

@[simp] theorem State.clearRm_params (s : State) : (s.clearRm).params = s.params := rfl
@[simp] theorem State.clearRm_pool (s : State) : (s.clearRm).pool = s.pool := rfl
@[simp] theorem State.clearRm_slots (s : State) : (s.clearRm).slots = s.slots := rfl
@[simp] theorem State.clearRm_turn (s : State) : (s.clearRm).turn = s.turn := rfl
@[simp] theorem State.clearRm_panel (s : State) : (s.clearRm).panel = s.panel := rfl
@[simp] theorem State.clearRm_light (s : State) : (s.clearRm).light = s.light := rfl
@[simp] theorem State.clearRm_head (s : State) : (s.clearRm).head = s.head := rfl
@[simp] theorem State.clearRm_bs (s : State) : (s.clearRm).bs = s.bs := rfl
@[simp] theorem State.clearRm_staging (s : State) : (s.clearRm).staging = s.staging := rfl
@[simp] theorem State.clearRm_portA (s : State) : (s.clearRm).portA = s.portA := rfl
@[simp] theorem State.clearRm_portR (s : State) : (s.clearRm).portR = s.portR := rfl
@[simp] theorem State.clearRm_shares (s : State) : (s.clearRm).shares = s.shares := rfl
@[simp] theorem State.clearRm_pins (s : State) : (s.clearRm).pins = s.pins := rfl
@[simp] theorem State.clearRm_now (s : State) : (s.clearRm).now = s.now := rfl
@[simp] theorem State.clearRm_pending (s : State) : (s.clearRm).pending = s.pending := rfl

@[simp] theorem State.withStaging_params (s : State) (g : Staging) : (s.withStaging g).params = s.params := rfl
@[simp] theorem State.withStaging_pool (s : State) (g : Staging) : (s.withStaging g).pool = s.pool := rfl
@[simp] theorem State.withStaging_slots (s : State) (g : Staging) : (s.withStaging g).slots = s.slots := rfl
@[simp] theorem State.withStaging_turn (s : State) (g : Staging) : (s.withStaging g).turn = s.turn := rfl
@[simp] theorem State.withStaging_panel (s : State) (g : Staging) : (s.withStaging g).panel = s.panel := rfl
@[simp] theorem State.withStaging_light (s : State) (g : Staging) : (s.withStaging g).light = s.light := rfl
@[simp] theorem State.withStaging_head (s : State) (g : Staging) : (s.withStaging g).head = s.head := rfl
@[simp] theorem State.withStaging_bs (s : State) (g : Staging) : (s.withStaging g).bs = s.bs := rfl
@[simp] theorem State.withStaging_notices (s : State) (g : Staging) : (s.withStaging g).notices = s.notices := rfl
@[simp] theorem State.withStaging_portA (s : State) (g : Staging) : (s.withStaging g).portA = s.portA := rfl
@[simp] theorem State.withStaging_portR (s : State) (g : Staging) : (s.withStaging g).portR = s.portR := rfl
@[simp] theorem State.withStaging_shares (s : State) (g : Staging) : (s.withStaging g).shares = s.shares := rfl
@[simp] theorem State.withStaging_pins (s : State) (g : Staging) : (s.withStaging g).pins = s.pins := rfl
@[simp] theorem State.withStaging_now (s : State) (g : Staging) : (s.withStaging g).now = s.now := rfl
@[simp] theorem State.withStaging_pending (s : State) (g : Staging) : (s.withStaging g).pending = s.pending := rfl

@[simp] theorem State.atTime_params (s : State) (t : Nat) : (s.atTime t).params = s.params := rfl
@[simp] theorem State.atTime_pool (s : State) (t : Nat) : (s.atTime t).pool = s.pool := rfl
@[simp] theorem State.atTime_slots (s : State) (t : Nat) : (s.atTime t).slots = s.slots := rfl
@[simp] theorem State.atTime_turn (s : State) (t : Nat) : (s.atTime t).turn = s.turn := rfl
@[simp] theorem State.atTime_panel (s : State) (t : Nat) : (s.atTime t).panel = s.panel := rfl
@[simp] theorem State.atTime_light (s : State) (t : Nat) : (s.atTime t).light = s.light := rfl
@[simp] theorem State.atTime_head (s : State) (t : Nat) : (s.atTime t).head = s.head := rfl
@[simp] theorem State.atTime_bs (s : State) (t : Nat) : (s.atTime t).bs = s.bs := rfl
@[simp] theorem State.atTime_staging (s : State) (t : Nat) : (s.atTime t).staging = s.staging := rfl
@[simp] theorem State.atTime_notices (s : State) (t : Nat) : (s.atTime t).notices = s.notices := rfl
@[simp] theorem State.atTime_portA (s : State) (t : Nat) : (s.atTime t).portA = s.portA := rfl
@[simp] theorem State.atTime_portR (s : State) (t : Nat) : (s.atTime t).portR = s.portR := rfl
@[simp] theorem State.atTime_shares (s : State) (t : Nat) : (s.atTime t).shares = s.shares := rfl
@[simp] theorem State.atTime_pins (s : State) (t : Nat) : (s.atTime t).pins = s.pins := rfl
@[simp] theorem State.atTime_pending (s : State) (t : Nat) : (s.atTime t).pending = s.pending := rfl

@[simp] theorem State.withPending_params (s : State) (q : List Instr) : (s.withPending q).params = s.params := rfl
@[simp] theorem State.withPending_pool (s : State) (q : List Instr) : (s.withPending q).pool = s.pool := rfl
@[simp] theorem State.withPending_slots (s : State) (q : List Instr) : (s.withPending q).slots = s.slots := rfl
@[simp] theorem State.withPending_turn (s : State) (q : List Instr) : (s.withPending q).turn = s.turn := rfl
@[simp] theorem State.withPending_panel (s : State) (q : List Instr) : (s.withPending q).panel = s.panel := rfl
@[simp] theorem State.withPending_light (s : State) (q : List Instr) : (s.withPending q).light = s.light := rfl
@[simp] theorem State.withPending_head (s : State) (q : List Instr) : (s.withPending q).head = s.head := rfl
@[simp] theorem State.withPending_bs (s : State) (q : List Instr) : (s.withPending q).bs = s.bs := rfl
@[simp] theorem State.withPending_staging (s : State) (q : List Instr) : (s.withPending q).staging = s.staging := rfl
@[simp] theorem State.withPending_notices (s : State) (q : List Instr) : (s.withPending q).notices = s.notices := rfl
@[simp] theorem State.withPending_portA (s : State) (q : List Instr) : (s.withPending q).portA = s.portA := rfl
@[simp] theorem State.withPending_portR (s : State) (q : List Instr) : (s.withPending q).portR = s.portR := rfl
@[simp] theorem State.withPending_shares (s : State) (q : List Instr) : (s.withPending q).shares = s.shares := rfl
@[simp] theorem State.withPending_pins (s : State) (q : List Instr) : (s.withPending q).pins = s.pins := rfl
@[simp] theorem State.withPending_now (s : State) (q : List Instr) : (s.withPending q).now = s.now := rfl

@[simp] theorem State.tick_params (s : State) : (s.tick).params = s.params := rfl
@[simp] theorem State.tick_pool (s : State) : (s.tick).pool = s.pool := rfl
@[simp] theorem State.tick_slots (s : State) : (s.tick).slots = s.slots := rfl
@[simp] theorem State.tick_turn (s : State) : (s.tick).turn = s.turn := rfl
@[simp] theorem State.tick_panel (s : State) : (s.tick).panel = s.panel := rfl
@[simp] theorem State.tick_light (s : State) : (s.tick).light = s.light := rfl
@[simp] theorem State.tick_head (s : State) : (s.tick).head = s.head := rfl
@[simp] theorem State.tick_bs (s : State) : (s.tick).bs = s.bs := rfl
@[simp] theorem State.tick_staging (s : State) : (s.tick).staging = s.staging := rfl
@[simp] theorem State.tick_notices (s : State) : (s.tick).notices = s.notices := rfl
@[simp] theorem State.tick_portA (s : State) : (s.tick).portA = s.portA := rfl
@[simp] theorem State.tick_portR (s : State) : (s.tick).portR = s.portR := rfl
@[simp] theorem State.tick_shares (s : State) : (s.tick).shares = s.shares := rfl
@[simp] theorem State.tick_pins (s : State) : (s.tick).pins = s.pins := rfl
@[simp] theorem State.tick_pending (s : State) : (s.tick).pending = s.pending := rfl

@[simp] theorem State.setKey_params (s : State) (k : Key) (x : KeyInput) : (s.setKey k x).params = s.params := rfl
@[simp] theorem State.setKey_pool (s : State) (k : Key) (x : KeyInput) : (s.setKey k x).pool = s.pool := rfl
@[simp] theorem State.setKey_slots (s : State) (k : Key) (x : KeyInput) : (s.setKey k x).slots = s.slots := rfl
@[simp] theorem State.setKey_panel (s : State) (k : Key) (x : KeyInput) : (s.setKey k x).panel = s.panel := rfl
@[simp] theorem State.setKey_light (s : State) (k : Key) (x : KeyInput) : (s.setKey k x).light = s.light := rfl
@[simp] theorem State.setKey_head (s : State) (k : Key) (x : KeyInput) : (s.setKey k x).head = s.head := rfl
@[simp] theorem State.setKey_bs (s : State) (k : Key) (x : KeyInput) : (s.setKey k x).bs = s.bs := rfl
@[simp] theorem State.setKey_staging (s : State) (k : Key) (x : KeyInput) : (s.setKey k x).staging = s.staging := rfl
@[simp] theorem State.setKey_notices (s : State) (k : Key) (x : KeyInput) : (s.setKey k x).notices = s.notices := rfl
@[simp] theorem State.setKey_portA (s : State) (k : Key) (x : KeyInput) : (s.setKey k x).portA = s.portA := rfl
@[simp] theorem State.setKey_portR (s : State) (k : Key) (x : KeyInput) : (s.setKey k x).portR = s.portR := rfl
@[simp] theorem State.setKey_shares (s : State) (k : Key) (x : KeyInput) : (s.setKey k x).shares = s.shares := rfl
@[simp] theorem State.setKey_pins (s : State) (k : Key) (x : KeyInput) : (s.setKey k x).pins = s.pins := rfl
@[simp] theorem State.setKey_now (s : State) (k : Key) (x : KeyInput) : (s.setKey k x).now = s.now := rfl
@[simp] theorem State.setKey_pending (s : State) (k : Key) (x : KeyInput) : (s.setKey k x).pending = s.pending := rfl

@[simp] theorem State.setPhase_params (s : State) (ph : Phase) : (s.setPhase ph).params = s.params := rfl
@[simp] theorem State.setPhase_pool (s : State) (ph : Phase) : (s.setPhase ph).pool = s.pool := rfl
@[simp] theorem State.setPhase_slots (s : State) (ph : Phase) : (s.setPhase ph).slots = s.slots := rfl
@[simp] theorem State.setPhase_turn (s : State) (ph : Phase) : (s.setPhase ph).turn = s.turn := rfl
@[simp] theorem State.setPhase_light (s : State) (ph : Phase) : (s.setPhase ph).light = s.light := rfl
@[simp] theorem State.setPhase_head (s : State) (ph : Phase) : (s.setPhase ph).head = s.head := rfl
@[simp] theorem State.setPhase_bs (s : State) (ph : Phase) : (s.setPhase ph).bs = s.bs := rfl
@[simp] theorem State.setPhase_staging (s : State) (ph : Phase) : (s.setPhase ph).staging = s.staging := rfl
@[simp] theorem State.setPhase_notices (s : State) (ph : Phase) : (s.setPhase ph).notices = s.notices := rfl
@[simp] theorem State.setPhase_portA (s : State) (ph : Phase) : (s.setPhase ph).portA = s.portA := rfl
@[simp] theorem State.setPhase_portR (s : State) (ph : Phase) : (s.setPhase ph).portR = s.portR := rfl
@[simp] theorem State.setPhase_shares (s : State) (ph : Phase) : (s.setPhase ph).shares = s.shares := rfl
@[simp] theorem State.setPhase_pins (s : State) (ph : Phase) : (s.setPhase ph).pins = s.pins := rfl
@[simp] theorem State.setPhase_now (s : State) (ph : Phase) : (s.setPhase ph).now = s.now := rfl
@[simp] theorem State.setPhase_pending (s : State) (ph : Phase) : (s.setPhase ph).pending = s.pending := rfl

@[simp] theorem State.withdrawPanel_params (s : State) : (s.withdrawPanel).params = s.params := rfl
@[simp] theorem State.withdrawPanel_pool (s : State) : (s.withdrawPanel).pool = s.pool := rfl
@[simp] theorem State.withdrawPanel_slots (s : State) : (s.withdrawPanel).slots = s.slots := rfl
@[simp] theorem State.withdrawPanel_turn (s : State) : (s.withdrawPanel).turn = s.turn := rfl
@[simp] theorem State.withdrawPanel_light (s : State) : (s.withdrawPanel).light = s.light := rfl
@[simp] theorem State.withdrawPanel_bs (s : State) : (s.withdrawPanel).bs = s.bs := rfl
@[simp] theorem State.withdrawPanel_staging (s : State) : (s.withdrawPanel).staging = s.staging := rfl
@[simp] theorem State.withdrawPanel_notices (s : State) : (s.withdrawPanel).notices = s.notices := rfl
@[simp] theorem State.withdrawPanel_portA (s : State) : (s.withdrawPanel).portA = s.portA := rfl
@[simp] theorem State.withdrawPanel_portR (s : State) : (s.withdrawPanel).portR = s.portR := rfl
@[simp] theorem State.withdrawPanel_shares (s : State) : (s.withdrawPanel).shares = s.shares := rfl
@[simp] theorem State.withdrawPanel_pins (s : State) : (s.withdrawPanel).pins = s.pins := rfl
@[simp] theorem State.withdrawPanel_now (s : State) : (s.withdrawPanel).now = s.now := rfl
@[simp] theorem State.withdrawPanel_pending (s : State) : (s.withdrawPanel).pending = s.pending := rfl

@[simp] theorem State.endLease_params (s : State) (l : Lease) (e : Option LeaseEnd) : (s.endLease l e).params = s.params := rfl
@[simp] theorem State.endLease_pool (s : State) (l : Lease) (e : Option LeaseEnd) : (s.endLease l e).pool = s.pool := rfl
@[simp] theorem State.endLease_slots (s : State) (l : Lease) (e : Option LeaseEnd) : (s.endLease l e).slots = s.slots := rfl
@[simp] theorem State.endLease_turn (s : State) (l : Lease) (e : Option LeaseEnd) : (s.endLease l e).turn = s.turn := rfl
@[simp] theorem State.endLease_panel (s : State) (l : Lease) (e : Option LeaseEnd) : (s.endLease l e).panel = s.panel := rfl
@[simp] theorem State.endLease_light (s : State) (l : Lease) (e : Option LeaseEnd) : (s.endLease l e).light = s.light := rfl
@[simp] theorem State.endLease_bs (s : State) (l : Lease) (e : Option LeaseEnd) : (s.endLease l e).bs = s.bs := rfl
@[simp] theorem State.endLease_staging (s : State) (l : Lease) (e : Option LeaseEnd) : (s.endLease l e).staging = s.staging := rfl
@[simp] theorem State.endLease_notices (s : State) (l : Lease) (e : Option LeaseEnd) : (s.endLease l e).notices = s.notices := rfl
@[simp] theorem State.endLease_portA (s : State) (l : Lease) (e : Option LeaseEnd) : (s.endLease l e).portA = s.portA := rfl
@[simp] theorem State.endLease_portR (s : State) (l : Lease) (e : Option LeaseEnd) : (s.endLease l e).portR = s.portR := rfl
@[simp] theorem State.endLease_shares (s : State) (l : Lease) (e : Option LeaseEnd) : (s.endLease l e).shares = s.shares := rfl
@[simp] theorem State.endLease_pins (s : State) (l : Lease) (e : Option LeaseEnd) : (s.endLease l e).pins = s.pins := rfl
@[simp] theorem State.endLease_now (s : State) (l : Lease) (e : Option LeaseEnd) : (s.endLease l e).now = s.now := rfl
@[simp] theorem State.endLease_pending (s : State) (l : Lease) (e : Option LeaseEnd) : (s.endLease l e).pending = s.pending := rfl

@[simp] theorem State.startIdle_params (s : State) : (s.startIdle).params = s.params := rfl
@[simp] theorem State.startIdle_pool (s : State) : (s.startIdle).pool = s.pool := rfl
@[simp] theorem State.startIdle_slots (s : State) : (s.startIdle).slots = s.slots := rfl
@[simp] theorem State.startIdle_turn (s : State) : (s.startIdle).turn = s.turn := rfl
@[simp] theorem State.startIdle_panel (s : State) : (s.startIdle).panel = s.panel := rfl
@[simp] theorem State.startIdle_light (s : State) : (s.startIdle).light = s.light := rfl
@[simp] theorem State.startIdle_head (s : State) : (s.startIdle).head = s.head := rfl
@[simp] theorem State.startIdle_staging (s : State) : (s.startIdle).staging = s.staging := rfl
@[simp] theorem State.startIdle_notices (s : State) : (s.startIdle).notices = s.notices := rfl
@[simp] theorem State.startIdle_portA (s : State) : (s.startIdle).portA = s.portA := rfl
@[simp] theorem State.startIdle_portR (s : State) : (s.startIdle).portR = s.portR := rfl
@[simp] theorem State.startIdle_shares (s : State) : (s.startIdle).shares = s.shares := rfl
@[simp] theorem State.startIdle_pins (s : State) : (s.startIdle).pins = s.pins := rfl
@[simp] theorem State.startIdle_now (s : State) : (s.startIdle).now = s.now := rfl
@[simp] theorem State.startIdle_pending (s : State) : (s.startIdle).pending = s.pending := rfl

@[simp] theorem State.startPeriods_params (s : State) : (s.startPeriods).params = s.params := rfl
@[simp] theorem State.startPeriods_pool (s : State) : (s.startPeriods).pool = s.pool := rfl
@[simp] theorem State.startPeriods_slots (s : State) : (s.startPeriods).slots = s.slots := rfl
@[simp] theorem State.startPeriods_turn (s : State) : (s.startPeriods).turn = s.turn := rfl
@[simp] theorem State.startPeriods_panel (s : State) : (s.startPeriods).panel = s.panel := rfl
@[simp] theorem State.startPeriods_head (s : State) : (s.startPeriods).head = s.head := rfl
@[simp] theorem State.startPeriods_bs (s : State) : (s.startPeriods).bs = s.bs := rfl
@[simp] theorem State.startPeriods_staging (s : State) : (s.startPeriods).staging = s.staging := rfl
@[simp] theorem State.startPeriods_notices (s : State) : (s.startPeriods).notices = s.notices := rfl
@[simp] theorem State.startPeriods_portA (s : State) : (s.startPeriods).portA = s.portA := rfl
@[simp] theorem State.startPeriods_portR (s : State) : (s.startPeriods).portR = s.portR := rfl
@[simp] theorem State.startPeriods_shares (s : State) : (s.startPeriods).shares = s.shares := rfl
@[simp] theorem State.startPeriods_pins (s : State) : (s.startPeriods).pins = s.pins := rfl
@[simp] theorem State.startPeriods_now (s : State) : (s.startPeriods).now = s.now := rfl
@[simp] theorem State.startPeriods_pending (s : State) : (s.startPeriods).pending = s.pending := rfl

@[simp] theorem State.retarget_params (s : State) (n : Nat) : (s.retarget n).params = s.params := rfl
@[simp] theorem State.retarget_pool (s : State) (n : Nat) : (s.retarget n).pool = s.pool := rfl
@[simp] theorem State.retarget_slots (s : State) (n : Nat) : (s.retarget n).slots = s.slots := rfl
@[simp] theorem State.retarget_turn (s : State) (n : Nat) : (s.retarget n).turn = s.turn := rfl
@[simp] theorem State.retarget_panel (s : State) (n : Nat) : (s.retarget n).panel = s.panel := rfl
@[simp] theorem State.retarget_head (s : State) (n : Nat) : (s.retarget n).head = s.head := rfl
@[simp] theorem State.retarget_bs (s : State) (n : Nat) : (s.retarget n).bs = s.bs := rfl
@[simp] theorem State.retarget_staging (s : State) (n : Nat) : (s.retarget n).staging = s.staging := rfl
@[simp] theorem State.retarget_notices (s : State) (n : Nat) : (s.retarget n).notices = s.notices := rfl
@[simp] theorem State.retarget_portA (s : State) (n : Nat) : (s.retarget n).portA = s.portA := rfl
@[simp] theorem State.retarget_portR (s : State) (n : Nat) : (s.retarget n).portR = s.portR := rfl
@[simp] theorem State.retarget_shares (s : State) (n : Nat) : (s.retarget n).shares = s.shares := rfl
@[simp] theorem State.retarget_pins (s : State) (n : Nat) : (s.retarget n).pins = s.pins := rfl
@[simp] theorem State.retarget_now (s : State) (n : Nat) : (s.retarget n).now = s.now := rfl
@[simp] theorem State.retarget_pending (s : State) (n : Nat) : (s.retarget n).pending = s.pending := rfl

@[simp] theorem State.setWork_mem (s : State) (p : Port) (w : Option Work) : (s.setWork p w).pool.mem = s.pool.mem := by
  cases p <;> rfl
@[simp] theorem State.release_mem (s : State) (es : List Nat) : (s.release es).pool.mem = s.pool.mem := rfl
@[simp] theorem State.emptySlot_mem (s : State) (n : Nat) (lost : Bool) : (s.emptySlot n lost).pool.mem = s.pool.mem := rfl
@[simp] theorem State.port_setPort (s : State) (p : Port) (u : PortUnit) : (s.setPort p u).port p = u := by cases p <;> rfl
@[simp] theorem State.setPort_setPort (s : State) (p : Port) (u v : PortUnit) :
    (s.setPort p u).setPort p v = s.setPort p v := by cases p <;> rfl
@[simp] theorem State.port_withPending (s : State) (q : List Instr) (p : Port) : (s.withPending q).port p = s.port p := by
  cases p <;> rfl
@[simp] theorem State.withPending_pending (s : State) (q : List Instr) : (s.withPending q).pending = q := rfl
@[simp] theorem State.atTime_now (s : State) (t : Nat) : (s.atTime t).now = max s.now t := rfl
@[simp] theorem State.tick_now (s : State) : s.tick.now = s.now + 1 := rfl
@[simp] theorem State.setPort_slot (s : State) (p : Port) (u : PortUnit) (n : Nat) : (s.setPort p u).slot n = s.slot n := by
  cases p <;> rfl

end Sys2Proof.Machine
end

