-- ==== Sys2Proof/Laws/Ports.lean ====
section
/-!
SUPPORT. What a request frame does at a port that is ready for it, what settling comes to, how the light follows its
grant, when an AP request or a PANEL demand fits, what a raise and its wake test come to, entries placed at the head of the
turn queue, the last stages before DEEP, entry to DEPLETED, and DEEP left: the lemmas a proof about a command begins with.
-/

namespace Sys2Proof.Machine

/-! ### Ports -/

@[simp] theorem State.setPort_port (s : State) (p : Port) : s.setPort p (s.port p) = s := by cases p <;> rfl

/-- A fresh frame other than RESET_PORT at a ready port is checked as R176 says, its request in progress. -/
theorem State.frame_ready {s : State} {p : Port} {m : Message} (h : s.Ready p) (hm : m ≠ .request .resetPort) :
    s.frame (freshFrame p) m = (s.setPort p (((s.port p).released).taking true)).checkMessage p m := by
  obtain ⟨h1, h2, h3⟩ := h
  simp [State.frame, freshFrame, h1, State.openWindow, State.completeFrame, hm, PortUnit.released, h2,
    State.takeMessage]

/-- A fresh RESET_PORT at a ready port is taken at once (R181). -/
theorem State.frame_reset {s : State} {p : Port} (h : s.Ready p) :
    s.frame (freshFrame p) (.request .resetPort) = (s.setPort p (s.port p).released).takeReset p := by
  obtain ⟨h1, _, _⟩ := h
  simp [State.frame, freshFrame, h1, State.openWindow, State.completeFrame]

/-- The answer to a request that a ready port has just taken is sent at once, and nothing else differs. -/
theorem State.give_taken {s : State} {p : Port} (a : Answer) (h : s.Ready p) :
    (s.setPort p (((s.port p).released).taking true)).give p a = s.replied p a := by
  obtain ⟨_, h2, h3⟩ := h
  simp [State.give, State.replied, PortUnit.answered, PortUnit.taking, PortUnit.replied, PortUnit.released, h3]

theorem State.say_taken {s : State} {p : Port} (c : Status) (h : s.Ready p) :
    (s.setPort p (((s.port p).released).taking true)).say p c = s.refusedWith p c := State.give_taken _ h

theorem State.tell_taken {s : State} {p : Port} (b : AnswerBody) (h : s.Ready p) :
    (s.setPort p (((s.port p).released).taking true)).tell p b = s.replied p { status := .ok, body := b } :=
  State.give_taken _ h

/-- A port that has just taken a request works on it. -/
theorem State.taken_eq {s : State} {p : Port} (h : s.Ready p) :
    s.setPort p (((s.port p).released).taking true) = s.workingOn p := by
  obtain ⟨_, h2, h3⟩ := h
  simp [State.workingOn, PortUnit.taking, PortUnit.working, PortUnit.released, h3]

/-! ### Settling -/

/-- A settled state settles to itself. -/
theorem State.settle_of_settled {s : State} (h : s.Settled) : s.settle = s := by
  unfold State.settle
  unfold State.settleN
  have : s.nextAction = none := by simpa [State.Settled] using h
  simp [this]

/-- One thing comes about by itself and leaves a settled state. -/
theorem State.settle_step {s t : State} (h : s.nextAction = some t) (ht : t.Settled) : s.settle = t := by
  have e : State.settleN 63 t = t := by
    have : t.nextAction = none := by simpa [State.Settled] using ht
    unfold State.settleN; rw [this]
  unfold State.settle State.settleN
  rw [h]; exact e

/-- What a settled state is, test by test. -/
theorem State.settled_iff (s : State) : s.Settled ↔ s.canTake = false ∧ s.deferralOver = false ∧ s.fadeStageOver = false
    ∧ s.railsAsked = false ∧ s.refreshAsked = false ∧ s.railsReported = false ∧ s.watchMet = false := by
  unfold State.Settled State.nextAction
  cases s.canTake <;> cases s.deferralOver <;> cases s.fadeStageOver <;> cases s.railsAsked <;> cases s.refreshAsked
    <;> cases s.railsReported <;> cases s.watchMet <;> simp

/-- The order of age depends on the slot table alone (R22). -/
theorem State.insertByAge_congr {s t : State} (h : s.slots = t.slots) (n : Nat) (l : List Nat) :
    s.insertByAge n l = t.insertByAge n l := by
  have ho : ∀ a b, s.older a b = t.older a b := fun a b => by simp [State.older, State.slot, h]
  induction l with
  | nil => rfl
  | cons m ms ih => simp [State.insertByAge, ho, ih]

theorem State.oldestFirst_congr {s t : State} (h : s.slots = t.slots) (l : List Nat) :
    s.oldestFirst l = t.oldestFirst l := by
  induction l with
  | nil => rfl
  | cons m ms ih =>
    have hs : s.oldestFirst (m :: ms) = s.insertByAge m (s.oldestFirst ms) := rfl
    have ht : t.oldestFirst (m :: ms) = t.insertByAge m (t.oldestFirst ms) := rfl
    rw [hs, ht, ih, State.insertByAge_congr h]

/-- What a reclaim may take depends on the slot table and the two roles (R42). -/
theorem State.reclaimable_congr {s t : State} (h : s.slots = t.slots) (hs : s.panel.shown = t.panel.shown)
    (ht : s.panel.target = t.panel.target) : s.reclaimable = t.reclaimable := by
  have hu : ∀ st c, s.unprotected st c = t.unprotected st c := fun st c => by
    simp [State.unprotected, State.slotNumbers, State.slot, State.hasRole, State.isShown, State.isTarget, h, hs, ht]
  simp [State.reclaimable, hu, State.oldestFirst_congr h]

/-- The space figure depends on the staging unit, the free list, the staging limits, the slot table and the roles (R165). -/
theorem State.space_congr {s t : State} (hg : s.staging = t.staging) (hf : s.pool.free = t.pool.free)
    (hp : s.params = t.params) (h : s.slots = t.slots) (hs : s.panel.shown = t.panel.shown)
    (ht : s.panel.target = t.panel.target) : s.space = t.space := by
  simp only [State.space, hg, hf, hp, State.reclaimable_congr h hs ht, State.slot, h]

/-- Settling depends on no port. -/
theorem State.settled_setPort (s : State) (p : Port) (u : PortUnit) : (s.setPort p u).Settled ↔ s.Settled := by
  have hw : (s.setPort p u).watchMet = s.watchMet := by
    have : (s.setPort p u).space = s.space := by apply State.space_congr <;> simp
    simp [State.watchMet, this]
  rw [State.settled_iff, State.settled_iff, hw]
  cases p <;> exact Iff.rfl

/-- With no watch armed the space watch does nothing (R165). -/
theorem State.evalWatch_none {s : State} (h : s.staging.watch = none) : s.evalWatch = s := by simp [State.evalWatch, h]

/-- A quiet state whose engine takes no entry is settled. -/
theorem State.settled_of_quiet {s : State} (h : s.Quiet) (he : s.NoTake) : s.Settled := by
  obtain ⟨h1, h2, h3⟩ := h
  rw [State.settled_iff]
  refine ⟨?_, ?_, ?_, ?_, ?_, ?_, ?_⟩
  · rcases he with he | he <;> simp [State.canTake, he]
  · simp [State.deferralOver, h2]
  · simp [State.fadeStageOver, h1]
  · simp [State.railsAsked, State.railStage, h1]
  · simp [State.refreshAsked, State.railStage, h1]
  · simp [State.railsReported, h1]
  · simp [State.watchMet, h3]

theorem State.settle_quiet {s : State} (h : s.Quiet) (he : s.NoTake) : s.settle = s :=
  State.settle_of_settled (State.settled_of_quiet h he)

/-! ### Rebalance -/

/-- What giving the light its grant changes (R104, R116). -/
theorem State.lightBeside_eq (s : State) (n : Nat) : s.lightBeside n = { s with
    light := s.litBy (min s.head.light.demand (s.head.ceiling - n))
    head := { s.head with light := { s.head.light with grant := min s.head.light.demand (s.head.ceiling - n) } } } := by
  unfold State.lightBeside State.setLight State.followGrant State.litBy
  dsimp only
  split
  · rfl
  · by_cases hc : s.lightComputes = true
    · rw [if_pos hc, if_pos (by exact hc)]; rfl
    · rw [if_neg hc, if_neg (by exact hc)]

/-- With no grant waiting a rebalance changes the light and its grant only (R117). -/
theorem State.rebalance_eq {s : State} (h : s.NoWaits) : s.rebalance = { s with
    light := s.litBy (min s.head.light.demand (s.head.ceiling - s.head.loads))
    head := { s.head with
      light := { s.head.light with grant := min s.head.light.demand (s.head.ceiling - s.head.loads) } } } := by
  obtain ⟨h1, h2, h3, h4⟩ := h
  have : s.rebalance = s.lightBeside s.head.loads := by
    simp [State.rebalance, State.alarmed, h1, State.rebalanceAp, h2, State.rebalancePanel, h3, State.rebalanceLease, h4,
      State.rebalanceLight]
  rw [this]
  exact State.lightBeside_eq s _

/-- With no grant waiting and the light at what step 4 gives it, a rebalance changes nothing (R117). -/
theorem State.rebalance_same {s : State} (h : s.NoWaits)
    (hg : s.head.light.grant = min s.head.light.demand (s.head.ceiling - s.head.loads)) : s.rebalance = s := by
  rw [State.rebalance_eq h, ← hg]
  simp [State.litBy]

/-- What a PANEL grant does at the panel drive leaves the allotment table alone (R84, R85). -/
theorem State.panelGranted_head (s : State) : s.panelGranted.head = s.head := by
  unfold State.panelGranted
  (repeat' split) <;> rfl

/-- A PANEL demand that fits with no grant waiting is granted, with the light keeping what is left, whether or not it is
below the grant it replaces (R116, R117, R120). -/
theorem State.presentPanel_fits {s : State} (ph : Phase) (d : Nat) (hw : s.NoWaits) (hf : s.panelFits d = true) :
    s.presentPanel ph d = ({ s with
      head := { s.head with panel := ⟨d, d⟩, panelWait := none } }.setPhase ph |>.grantPanel d) := by
  unfold State.presentPanel
  dsimp only
  rw [if_pos (by exact hf)]
  split
  · rw [State.rebalance_same]
    · rfl
    · unfold State.NoWaits
      rw [State.grantPanel, State.panelGranted_head, State.lightBeside_eq]
      exact ⟨hw.1, hw.2.1, rfl, hw.2.2.2⟩
    · rw [State.grantPanel, State.panelGranted_head, State.lightBeside_eq]
      rfl
  · rfl

/-- What a duty computation changes with no grant waiting (R101 to R103, R117). -/
theorem State.computeLight_eq {s : State} (h : s.NoWaits) (hc : s.lightComputes = true) : s.computeLight = { s with
    light := s.litAnew (min s.litDemand (s.head.ceiling - s.head.loads))
    head := { s.head with light := ⟨s.litDemand, min s.litDemand (s.head.ceiling - s.head.loads)⟩ } } := by
  unfold State.computeLight
  rw [if_pos hc]
  dsimp only
  generalize hx : ({ s with
    light := { s.light with
      requested := lightTotal s.light.curve s.params.deadGap s.light.applied
      demand := s.powerOf (lightTotal s.light.curve s.params.deadGap s.light.applied) }
    head := { s.head with light := { s.head.light with
      demand := s.powerOf (lightTotal s.light.curve s.params.deadGap s.light.applied) } } } : State) = x
  have hb : x.rebalance = x.rebalanceLight := by
    obtain ⟨h1, h2, h3, h4⟩ := h
    subst hx
    simp [State.rebalance, State.alarmed, h1, State.rebalanceAp, h2, State.rebalancePanel, h3, State.rebalanceLease, h4,
      State.rebalanceLight]
  rw [hb, ite_self]
  unfold State.rebalanceLight
  rw [State.lightBeside_eq]
  have hcx : x.lightComputes = true := by subst hx; exact hc
  unfold State.litBy
  rw [if_pos hcx]
  split
  · unfold State.followGrant
    rw [if_pos (by exact hcx)]
    subst hx; rfl
  · unfold State.followGrant
    rw [if_pos (by exact hcx)]
    subst hx; rfl

/-- A light unit that makes no duty computation stays as it is (R96, R100, R108). -/
theorem State.computeLight_off {s : State} (hc : s.lightComputes = false) : s.computeLight = s := by
  unfold State.computeLight; rw [if_neg (by simp [hc])]

/-! ### An AP power-up -/

/-- An AP power-up that fits is granted, and the domain is ON (R116, R118). -/
theorem State.judgeAp_fits {s : State} (hf : s.apFits = true) : s.judgeAp = { s with
    light := s.litBy (min s.head.light.demand (s.head.ceiling - (s.head.ap.demand + s.head.panel.grant + s.head.radio.grant)))
    head := { s.head with
      ap := ⟨s.head.ap.demand, s.head.ap.demand⟩
      light := ⟨s.head.light.demand, min s.head.light.demand (s.head.ceiling - (s.head.ap.demand + s.head.panel.grant + s.head.radio.grant))⟩
      apWait := none, clearTimer := none }
    bs := { s.bs with ap := .on, power := .run, idleTimer := none }
    notices := { s.notices with wakeOut := false } } := by
  unfold State.judgeAp
  rw [if_pos hf]
  unfold State.grantAp
  dsimp only
  rw [State.lightBeside_eq]
  rfl

/-- A request for AP power that fits is granted at once (R118). -/
theorem State.requestAp_fits {s : State} (ha : s.head.alarm = none)
    (hf : s.head.panel.grant + s.head.radio.grant + s.params.apMW ≤ s.head.ceiling) : s.requestAp = s.apUp := by
  unfold State.requestAp
  rw [if_neg (by simp [State.alarmed, ha])]
  dsimp only
  rw [State.judgeAp_fits]
  · dsimp only
    rw [if_neg (by cases s.head.active <;> simp)]
    rfl
  · simpa [State.apFits, State.fits] using hf

/-- A request for AP power under the power alarm waits unjudged (R118). -/
theorem State.requestAp_alarm {s : State} (ha : s.head.alarm.isSome = true) : s.requestAp = s.apWaiting .unjudged := by
  unfold State.requestAp
  rw [if_pos (by simpa [State.alarmed] using ha)]
  rfl

/-! ### Notices -/

/-- With the AP domain ON the wake condition does not hold (R172). -/
theorem State.wakeCond_on {s : State} (h : s.bs.ap = .on) : s.wakeCond = false := by simp [State.wakeCond, h]

/-- With the AP domain ON a raise sets its notice and nothing else (R167, R172). -/
theorem State.raise_on {s : State} (src : Source) (d : Detail) (h : s.bs.ap = .on) : s.raise src d = s.mark src d := by
  have : (s.mark src d).wakeCond = false := State.wakeCond_on (by simpa [State.mark, State.mapNotice] using h)
  simp [State.raise, State.presentWake, this]

/-- A raise anywhere in a list of notices, as the wake condition sees it. -/
theorem any_raised (t : Nat) (d : Detail) : ∀ (l : List Notice) (i : Nat),
    (l.modify i (fun n => n.raised d)).any (fun n => n.pending && decide (t < n.level))
      = (l.any (fun n => n.pending && decide (t < n.level)) || (l[i]?).any (fun n => decide (t < n.level)))
  | [], i => by simp
  | n :: l, 0 => by
    have h1 : (n.raised d).pending = true := rfl
    have h2 : (n.raised d).level = n.level := rfl
    simp only [List.modify_zero_cons, List.any_cons, List.getElem?_cons_zero, Option.any_some, h1, h2]
    cases n.pending <;> cases decide (t < n.level) <;> simp
  | n :: l, i + 1 => by
    simp only [List.modify_succ_cons, List.any_cons, List.getElem?_cons_succ, any_raised t d l i, Bool.or_assoc]

/-- What a raise makes of the wake condition (R172). -/
theorem State.wakeCond_mark (s : State) (src : Source) (d : Detail) :
    (s.mark src d).wakeCond = (s.wakeCond
      || (decide (s.bs.ap ≠ .on) && (s.notices.ap[src.idx]?).any (fun n => decide (s.params.wakeThreshold < n.level)))) := by
  have := any_raised s.params.wakeThreshold d s.notices.ap src.idx
  unfold State.wakeCond State.mark State.mapNotice
  dsimp only
  rw [this, Bool.and_or_distrib_left]

/-- Where a raise presents no wake request the wake condition holds before it or does not hold after it. -/
theorem State.NoWake.cond {s : State} {src : Source} (h : s.NoWake src) (d : Detail) :
    (!s.wakeCond && (s.mark src d).wakeCond) = false := by
  rw [State.wakeCond_mark]
  by_cases ho : s.bs.ap = .on
  · simp [State.wakeCond_on ho, ho]
  · rcases h with h | h | ⟨n, h1, h2, h3⟩
    · exact absurd h ho
    · cases hx : s.notices.ap[src.idx]? with
      | none => simp
      | some n =>
        rw [hx] at h
        have : ¬ s.params.wakeThreshold < n.level := by simpa using h
        simp [this]
    · have : s.wakeCond = true := by
        unfold State.wakeCond
        rw [Bool.and_eq_true, List.any_eq_true]
        exact ⟨by simpa using ho, n, h1, by simp [h2, h3]⟩
      simp [this]

/-- A raise: the notice is set, and a wake request that it presents is served (R167, R172). -/
theorem State.raise_eq (s : State) (src : Source) (d : Detail) :
    s.raise src d = if s.NoWake src then s.mark src d else (s.noted src d).serveWake := by
  unfold State.raise State.presentWake
  by_cases h : s.NoWake src
  · rw [if_pos h, if_neg (by simp [h.cond d])]
  · rw [if_neg h, if_pos]
    · unfold State.noted
      rw [if_neg h]
      rfl
    · rw [State.wakeCond_mark]
      simp only [State.NoWake, not_or, not_exists, not_and] at h
      obtain ⟨h1, h2, h3⟩ := h
      have hw : s.wakeCond = false := by
        unfold State.wakeCond
        rw [Bool.and_eq_false_iff]; right
        rw [List.any_eq_false]
        intro m hm
        simpa using h3 m hm
      rw [hw]
      cases hx : s.notices.ap[src.idx]? with
      | none => simp [hx] at h2
      | some n =>
        rw [hx] at h2
        have : s.params.wakeThreshold < n.level := by simpa using h2
        simp [h1, this]

/-- Where a raise presents no wake request it sets its notice and nothing else (R167, R172). -/
theorem State.raise_quiet {s : State} (src : Source) (d : Detail) (h : s.NoWake src) : s.raise src d = s.mark src d := by
  rw [State.raise_eq, if_pos h]

/-- A raise leaves every level as it is, and what is pending stays so. -/
theorem State.NoWake.mark {s : State} {i : Source} (h : s.NoWake i) (src : Source) (d : Detail) : (s.mark src d).NoWake i := by
  rcases h with h | h | ⟨n, h1, h2, h3⟩
  · exact Or.inl h
  · right; left
    unfold State.mark State.mapNotice
    dsimp only
    rw [List.getElem?_modify]
    cases hx : s.notices.ap[i.idx]? with
    | none => simp
    | some n =>
      rw [hx] at h
      have : n.level ≤ s.params.wakeThreshold := by simpa using h
      by_cases hs : src.idx = i.idx <;> simp [hs, Notice.raised, this]
  · right; right
    obtain ⟨j, hj, he⟩ := List.getElem_of_mem h1
    unfold State.mark State.mapNotice
    dsimp only
    by_cases hs : src.idx = j
    · refine ⟨n.raised d, ?_, rfl, h3⟩
      rw [List.mem_iff_getElem]
      exact ⟨j, by simpa using hj, by rw [List.getElem_modify, if_pos hs, he]⟩
    · refine ⟨n, ?_, h2, h3⟩
      rw [List.mem_iff_getElem]
      exact ⟨j, by simpa using hj, by rw [List.getElem_modify, if_neg hs, he]⟩

/-- Where a raise would present no wake request, a raise beside a waiting AP request sets its notice and nothing else. -/
theorem State.markOut_quiet {s : State} (src : Source) (d : Detail) (h : s.NoWake src) :
    s.markOut src d = s.mark src d := by
  unfold State.markOut
  simp [h.cond d]
  rfl

/-! ### Entries placed at the head, and the ways to DEEP and DEPLETED -/

/-- An entry placed at the head of the queue, where a raise of TURN_OVERRUN presents no wake request (R52). -/
theorem State.placeHead_eq {s : State} {e : Entry} {q : List Entry} {ap : List Notice}
    (h : PlacedAtHead e s.turn.queue s.notices.ap q ap) (hn : s.NoWake .turnOverrun) :
    s.placeHead State.raise e
      = { s with turn := { s.turn with queue := q }, notices := { s.notices with ap := ap } } := by
  unfold State.placeHead
  rcases h with ⟨h1, h2, h3⟩ | ⟨x, h1, h2, h3, h4⟩
  · rw [if_neg (by show ¬ 8 ≤ _; omega), h2, h3]
  · rw [if_pos (by show 8 ≤ _; omega), h2]
    dsimp only
    rw [State.raise_quiet (s := { s with turn := _ }) _ _ (by exact hn), h3, h4]
    rfl

/-- Stage 3 of ENTERING_DEEP with the radio ON (R110, R143). -/
theorem State.startFade_on {s : State} (h : s.bs.radio = true) : s.startFade = s.warned := by
  unfold State.startFade State.raiseRm State.warned
  dsimp only
  rw [if_pos (by exact h), if_pos (by exact h)]
  unfold State.fade State.retarget State.timerFor RmSource.idx
  by_cases hz : s.light.applied = 0
  · simp [hz]
  · rw [if_neg (Ne.symm hz), if_neg hz]
    cases s.light.rampTimer <;> simp

/-- Entry to DEPLETED leaves what R149 names. -/
theorem State.enterDepleted_entered (s : State) : s.EnteredDepleted s.now s.enterDepleted := by
  refine ⟨rfl, rfl, rfl, rfl, rfl, rfl, rfl, rfl, rfl, rfl, rfl, rfl, ?_, rfl, rfl, rfl, rfl, rfl, rfl, rfl⟩
  intro n
  simp only [State.slot, State.enterDepleted, SlotTable.reset, List.getD_eq_getElem?_getD, List.getElem?_replicate]
  split <;> rfl

/-! ### DEEP left -/

/-- DEEP is left with no RESUME entry to queue (R144). -/
theorem State.leaveDeep_plain {s : State} (hk : s.bs.resumeKey = none) (hm : s.pool.mode = .selfRefresh) :
    s.leaveDeep = s.outOfDeep := by
  unfold State.leaveDeep State.outOfDeep
  dsimp only
  rw [show s.pool.leaveRefresh = { s.pool with mode := .leaving } by unfold Pool.leaveRefresh; rw [hm]]
  simp only [State.startPeriods, hk]
  rfl

/-- DEEP is left with a resume key and room in the turn queue: the RESUME entry is its head (R144). -/
theorem State.leaveDeep_resume {s : State} {k : PageKey} (hk : s.bs.resumeKey = some k) (hm : s.pool.mode = .selfRefresh)
    (hq : s.turn.queue.length < 8) :
    s.leaveDeep = { s.outOfDeep with
      turn := { s.turn with queue := ⟨.sleep, .goto k, .auto, some .resume⟩ :: s.turn.queue }
      bs := { s.outOfDeep.bs with resumeKey := none } } := by
  unfold State.leaveDeep State.outOfDeep
  dsimp only
  rw [show s.pool.leaveRefresh = { s.pool with mode := .leaving } by unfold Pool.leaveRefresh; rw [hm]]
  have hq' : ¬ Config.queueMax ≤ s.turn.queue.length := by show ¬ 8 ≤ s.turn.queue.length; omega
  simp [State.startPeriods, hk, State.placeHead, hq', State.timerFor]

end Sys2Proof.Machine
end

