-- ==== Sys2Proof/Laws/Power.lean ====
section
/-!
SUPPORT. What the actions of the headroom arbiter, the light unit and the panel drive's rails leave alone: one lemma per
operation for everything outside those blocks (`State.still`), and one for the ports.
-/

namespace Sys2Proof.Machine

@[simp] theorem State.followGrant_still (s : State) (g : Nat) : (s.followGrant g).still = s.still := by
  unfold State.followGrant; split <;> rfl
@[simp] theorem State.followGrant_ports (s : State) (g : Nat) : (s.followGrant g).ports = s.ports := by
  unfold State.followGrant; split <;> rfl
@[simp] theorem State.setLight_still (s : State) (g : Nat) : (s.setLight g).still = s.still := by
  unfold State.setLight; dsimp only; split
  · rfl
  · rw [State.followGrant_still]; rfl
@[simp] theorem State.setLight_ports (s : State) (g : Nat) : (s.setLight g).ports = s.ports := by
  unfold State.setLight; dsimp only; split
  · rfl
  · rw [State.followGrant_ports]; rfl
@[simp] theorem State.lightBeside_still (s : State) (n : Nat) : (s.lightBeside n).still = s.still := by
  unfold State.lightBeside; simp
@[simp] theorem State.lightBeside_ports (s : State) (n : Nat) : (s.lightBeside n).ports = s.ports := by
  unfold State.lightBeside; simp
@[simp] theorem State.endLease_still (s : State) (l : Lease) (e : Option LeaseEnd) : (s.endLease l e).still = s.still := by
  rfl
@[simp] theorem State.endLease_ports (s : State) (l : Lease) (e : Option LeaseEnd) : (s.endLease l e).ports = s.ports := by
  rfl
@[simp] theorem State.raiseRm_still (s : State) (r : RmSource) (d : RmDetail) : (s.raiseRm r d).still = s.still := by
  unfold State.raiseRm; split <;> rfl
@[simp] theorem State.raiseRm_ports (s : State) (r : RmSource) (d : RmDetail) : (s.raiseRm r d).ports = s.ports := by
  unfold State.raiseRm; split <;> rfl
@[simp] theorem State.revokeActive_still (s : State) (w : RevokeReason) : (s.revokeActive w).still = s.still := by
  unfold State.revokeActive; split <;> simp
@[simp] theorem State.revokeActive_ports (s : State) (w : RevokeReason) : (s.revokeActive w).ports = s.ports := by
  unfold State.revokeActive; split <;> simp
@[simp] theorem State.grantLease_still (s : State) (m d : Nat) (o : LeaseOrigin) : (s.grantLease m d o).still = s.still := by
  unfold State.grantLease; dsimp only; rw [State.lightBeside_still]; rfl
@[simp] theorem State.grantLease_ports (s : State) (m d : Nat) (o : LeaseOrigin) : (s.grantLease m d o).ports = s.ports := by
  unfold State.grantLease; dsimp only; rw [State.lightBeside_ports]; rfl
@[simp] theorem State.mark_still (s : State) (r : Source) (d : Detail) : (s.mark r d).still = s.still := by
  rfl
@[simp] theorem State.mark_ports (s : State) (r : Source) (d : Detail) : (s.mark r d).ports = s.ports := by
  rfl
@[simp] theorem State.markOut_still (s : State) (r : Source) (d : Detail) : (s.markOut r d).still = s.still := by
  rfl
@[simp] theorem State.markOut_ports (s : State) (r : Source) (d : Detail) : (s.markOut r d).ports = s.ports := by
  rfl
@[simp] theorem State.apOn_still (s : State) : (s.apOn).still = s.still := by
  rfl
@[simp] theorem State.apOn_ports (s : State) : (s.apOn).ports = s.ports := by
  rfl
@[simp] theorem State.grantAp_still (s : State) : (s.grantAp).still = s.still := by
  unfold State.grantAp; dsimp only; rw [State.apOn_still, State.lightBeside_still]; rfl
@[simp] theorem State.grantAp_ports (s : State) : (s.grantAp).ports = s.ports := by
  unfold State.grantAp; dsimp only; rw [State.apOn_ports, State.lightBeside_ports]; rfl
@[simp] theorem State.judgeAp_still (s : State) : (s.judgeAp).still = s.still := by
  unfold State.judgeAp; dsimp only; split
  · simp
  · split
    · simp
    · rw [State.markOut_still]; exact State.revokeActive_still s .ap
@[simp] theorem State.judgeAp_ports (s : State) : (s.judgeAp).ports = s.ports := by
  unfold State.judgeAp; dsimp only; split
  · simp
  · split
    · simp
    · rw [State.markOut_ports]; exact State.revokeActive_ports s .ap
@[simp] theorem State.panelGranted_still (s : State) : (s.panelGranted).still = s.still := by
  unfold State.panelGranted; (repeat' split) <;> rfl
@[simp] theorem State.panelGranted_ports (s : State) : (s.panelGranted).ports = s.ports := by
  unfold State.panelGranted; (repeat' split) <;> rfl
@[simp] theorem State.grantPanel_still (s : State) (d : Nat) : (s.grantPanel d).still = s.still := by
  unfold State.grantPanel; dsimp only; rw [State.panelGranted_still, State.lightBeside_still]; rfl
@[simp] theorem State.grantPanel_ports (s : State) (d : Nat) : (s.grantPanel d).ports = s.ports := by
  unfold State.grantPanel; dsimp only; rw [State.panelGranted_ports, State.lightBeside_ports]; rfl
@[simp] theorem State.rebalanceAp_still (s : State) : (s.rebalanceAp).still = s.still := by
  unfold State.rebalanceAp; (repeat' split) <;> simp
@[simp] theorem State.rebalanceAp_ports (s : State) : (s.rebalanceAp).ports = s.ports := by
  unfold State.rebalanceAp; (repeat' split) <;> simp
@[simp] theorem State.rebalancePanel_still (s : State) : (s.rebalancePanel).still = s.still := by
  unfold State.rebalancePanel; (repeat' split) <;> simp
@[simp] theorem State.rebalancePanel_ports (s : State) : (s.rebalancePanel).ports = s.ports := by
  unfold State.rebalancePanel; (repeat' split) <;> simp
@[simp] theorem State.rebalanceLease_still (s : State) : (s.rebalanceLease).still = s.still := by
  unfold State.rebalanceLease; dsimp only; split
  · split
    · rw [State.raiseRm_still, State.grantLease_still]; rfl
    · rfl
  · rfl
@[simp] theorem State.rebalanceLease_ports (s : State) : (s.rebalanceLease).ports = s.ports := by
  unfold State.rebalanceLease; dsimp only; split
  · split
    · rw [State.raiseRm_ports, State.grantLease_ports]; rfl
    · rfl
  · rfl
@[simp] theorem State.rebalanceLight_still (s : State) : (s.rebalanceLight).still = s.still := by
  unfold State.rebalanceLight; simp
@[simp] theorem State.rebalanceLight_ports (s : State) : (s.rebalanceLight).ports = s.ports := by
  unfold State.rebalanceLight; simp
@[simp] theorem State.rebalance_still (s : State) : (s.rebalance).still = s.still := by
  unfold State.rebalance; split <;> simp
@[simp] theorem State.rebalance_ports (s : State) : (s.rebalance).ports = s.ports := by
  unfold State.rebalance; split <;> simp
@[simp] theorem State.computeLight_still (s : State) : (s.computeLight).still = s.still := by
  unfold State.computeLight; dsimp only; split
  · rw [State.followGrant_still]; split
    · rw [State.rebalance_still]; rfl
    · rw [State.rebalanceLight_still]; rfl
  · rfl
@[simp] theorem State.computeLight_ports (s : State) : (s.computeLight).ports = s.ports := by
  unfold State.computeLight; dsimp only; split
  · rw [State.followGrant_ports]; split
    · rw [State.rebalance_ports]; rfl
    · rw [State.rebalanceLight_ports]; rfl
  · rfl
@[simp] theorem State.requestAp_still (s : State) : (s.requestAp).still = s.still := by
  unfold State.requestAp; dsimp only; split
  · rfl
  · split
    · rw [State.rebalance_still, State.judgeAp_still]; rfl
    · rw [State.judgeAp_still]; rfl
@[simp] theorem State.requestAp_ports (s : State) : (s.requestAp).ports = s.ports := by
  unfold State.requestAp; dsimp only; split
  · rfl
  · split
    · rw [State.rebalance_ports, State.judgeAp_ports]; rfl
    · rw [State.judgeAp_ports]; rfl
@[simp] theorem State.startPeriods_still (s : State) : (s.startPeriods).still = s.still := by
  rfl
@[simp] theorem State.startPeriods_ports (s : State) : (s.startPeriods).ports = s.ports := by
  rfl
@[simp] theorem State.presentHot_still (s : State) : (s.presentHot).still = s.still := by
  unfold State.presentHot; rw [State.rebalance_still]; rfl
@[simp] theorem State.presentHot_ports (s : State) : (s.presentHot).ports = s.ports := by
  unfold State.presentHot; rw [State.rebalance_ports]; rfl
@[simp] theorem State.railsHot_still (s : State) : (s.railsHot).still = s.still := by
  unfold State.railsHot; rw [State.presentHot_still]; rfl
@[simp] theorem State.railsHot_ports (s : State) : (s.railsHot).ports = s.ports := by
  unfold State.railsHot; rw [State.presentHot_ports]; rfl
@[simp] theorem State.railsFall_still (s : State) : (s.railsFall).still = s.still := by
  unfold State.railsFall; rw [State.presentHot_still]; rfl
@[simp] theorem State.railsFall_ports (s : State) : (s.railsFall).ports = s.ports := by
  unfold State.railsFall; rw [State.presentHot_ports]; rfl
@[simp] theorem State.startHold_still (s : State) : (s.startHold).still = s.still := by
  unfold State.startHold; split
  · simp
  · rfl
@[simp] theorem State.startHold_ports (s : State) : (s.startHold).ports = s.ports := by
  unfold State.startHold; split
  · simp
  · rfl
@[simp] theorem State.holdIfHot_still (s : State) : (s.holdIfHot).still = s.still := by
  unfold State.holdIfHot; split
  · simp
  · rfl
@[simp] theorem State.holdIfHot_ports (s : State) : (s.holdIfHot).ports = s.ports := by
  unfold State.holdIfHot; split
  · simp
  · rfl
@[simp] theorem State.setPhase_still (s : State) (p : Phase) : (s.setPhase p).still = s.still := by
  rfl
@[simp] theorem State.setPhase_ports (s : State) (p : Phase) : (s.setPhase p).ports = s.ports := by
  rfl
@[simp] theorem State.withdrawPanel_still (s : State) : (s.withdrawPanel).still = s.still := by
  rfl
@[simp] theorem State.withdrawPanel_ports (s : State) : (s.withdrawPanel).ports = s.ports := by
  rfl
@[simp] theorem State.presentPanel_still (s : State) (p : Phase) (d : Nat) : (s.presentPanel p d).still = s.still := by
  unfold State.presentPanel; dsimp only; split
  · split
    · rw [State.rebalance_still, State.grantPanel_still]; rfl
    · rw [State.grantPanel_still]; rfl
  · rw [State.rebalance_still]; rfl
@[simp] theorem State.presentPanel_ports (s : State) (p : Phase) (d : Nat) : (s.presentPanel p d).ports = s.ports := by
  unfold State.presentPanel; dsimp only; split
  · split
    · rw [State.rebalance_ports, State.grantPanel_ports]; rfl
    · rw [State.grantPanel_ports]; rfl
  · rw [State.rebalance_ports]; rfl
@[simp] theorem State.presentRise_still (s : State) : (s.presentRise).still = s.still := by
  unfold State.presentRise; simp
@[simp] theorem State.presentRise_ports (s : State) : (s.presentRise).ports = s.ports := by
  unfold State.presentRise; simp
@[simp] theorem State.presentUpdate_still (s : State) : (s.presentUpdate).still = s.still := by
  unfold State.presentUpdate; split <;> simp
@[simp] theorem State.presentUpdate_ports (s : State) : (s.presentUpdate).ports = s.ports := by
  unfold State.presentUpdate; split <;> simp
@[simp] theorem State.dropUpdate_still (s : State) : (s.dropUpdate).still = s.still := by
  rfl
@[simp] theorem State.dropUpdate_ports (s : State) : (s.dropUpdate).ports = s.ports := by
  rfl
@[simp] theorem State.dropRails_still (s : State) : (s.dropRails).still = s.still := by
  unfold State.dropRails; split <;> simp
@[simp] theorem State.dropRails_ports (s : State) : (s.dropRails).ports = s.ports := by
  unfold State.dropRails; split <;> simp
@[simp] theorem State.retarget_still (s : State) (n : Nat) : (s.retarget n).still = s.still := by
  rfl
@[simp] theorem State.retarget_ports (s : State) (n : Nat) : (s.retarget n).ports = s.ports := by
  rfl
@[simp] theorem State.lightKey_still (s : State) : (s.lightKey).still = s.still := by
  unfold State.lightKey; (repeat' split) <;> rfl
@[simp] theorem State.lightKey_ports (s : State) : (s.lightKey).ports = s.ports := by
  unfold State.lightKey; (repeat' split) <;> rfl
@[simp] theorem State.fade_still (s : State) : (s.fade).still = s.still := by
  rfl
@[simp] theorem State.fade_ports (s : State) : (s.fade).ports = s.ports := by
  rfl
@[simp] theorem State.rampStep_still (s : State) : (s.rampStep).still = s.still := by
  unfold State.rampStep; dsimp only; rw [State.computeLight_still]; rfl
@[simp] theorem State.rampStep_ports (s : State) : (s.rampStep).ports = s.ports := by
  unfold State.rampStep; dsimp only; rw [State.computeLight_ports]; rfl
@[simp] theorem State.setWarmth_still (s : State) (w : Option Nat) : (s.setWarmth w).still = s.still := by
  unfold State.setWarmth; (repeat' split)
  · rfl
  · rw [State.computeLight_still]; rfl
  · rfl
@[simp] theorem State.setWarmth_ports (s : State) (w : Option Nat) : (s.setWarmth w).ports = s.ports := by
  unfold State.setWarmth; (repeat' split)
  · rfl
  · rw [State.computeLight_ports]; rfl
  · rfl
@[simp] theorem State.lightAlarm_still (s : State) : (s.lightAlarm).still = s.still := by
  rfl
@[simp] theorem State.lightAlarm_ports (s : State) : (s.lightAlarm).ports = s.ports := by
  rfl
@[simp] theorem State.lightAlarmCleared_still (s : State) : (s.lightAlarmCleared).still = s.still := by
  unfold State.lightAlarmCleared; dsimp only; split <;> rfl
@[simp] theorem State.lightAlarmCleared_ports (s : State) : (s.lightAlarmCleared).ports = s.ports := by
  unfold State.lightAlarmCleared; dsimp only; split <;> rfl
@[simp] theorem State.ghostLimitSet_still (s : State) : (s.ghostLimitSet).still = s.still := by
  unfold State.ghostLimitSet; (repeat' split) <;> rfl
@[simp] theorem State.ghostLimitSet_ports (s : State) : (s.ghostLimitSet).ports = s.ports := by
  unfold State.ghostLimitSet; (repeat' split) <;> rfl
@[simp] theorem State.storeCeiling_still (s : State) (x : Sample) : (s.storeCeiling x).still = s.still := by
  rfl
@[simp] theorem State.storeCeiling_ports (s : State) (x : Sample) : (s.storeCeiling x).ports = s.ports := by
  rfl
@[simp] theorem State.firstGrant_still (s : State) : (s.firstGrant).still = s.still := by
  unfold State.firstGrant; split <;> rfl
@[simp] theorem State.firstGrant_ports (s : State) : (s.firstGrant).ports = s.ports := by
  unfold State.firstGrant; split <;> rfl
@[simp] theorem State.clearTimerStep_still (s : State) : (s.clearTimerStep).still = s.still := by
  unfold State.clearTimerStep; (repeat' split) <;> rfl
@[simp] theorem State.clearTimerStep_ports (s : State) : (s.clearTimerStep).ports = s.ports := by
  unfold State.clearTimerStep; (repeat' split) <;> rfl
@[simp] theorem State.shedLease_still (s : State) : (s.shedLease).still = s.still := by
  unfold State.shedLease; split <;> simp
@[simp] theorem State.shedLease_ports (s : State) : (s.shedLease).ports = s.ports := by
  unfold State.shedLease; split <;> simp

@[simp] theorem State.placeHead_still (s : State) (e : Entry) (note : State → Source → Detail → State)
    (hn : ∀ t r d, (note t r d).still = t.still) : (State.placeHead note s e).still = s.still := by
  unfold State.placeHead
  split
  · split
    · exact hn _ _ _
    · rfl
  · rfl

@[simp] theorem State.leaveDeep_still (s : State) : s.leaveDeep.still = s.still := by
  have hm : ∀ p : Pool, p.leaveRefresh.owners = p.owners ∧ p.leaveRefresh.free = p.free ∧ p.leaveRefresh.mem = p.mem := by
    intro p; unfold Pool.leaveRefresh; split <;> simp
  have h0 : ({ s with pool := s.pool.leaveRefresh }.startPeriods).still = s.still := by
    simp [State.startPeriods, State.still, hm]
  unfold State.leaveDeep; dsimp only
  split
  · rename_i k _
    exact (State.placeHead_still _ ⟨.sleep, .goto k, .auto, some .resume⟩ State.markOut (fun t r d => State.markOut_still t r d)).trans h0
  · exact h0

@[simp] theorem State.serveWake_still (s : State) : s.serveWake.still = s.still := by
  unfold State.serveWake
  split
  · rfl
  · split <;> first | rfl | (split <;> simp) | simp

@[simp] theorem State.presentWake_still (b : Bool) (s : State) : (State.presentWake b s).still = s.still := by
  unfold State.presentWake
  split
  · rw [State.serveWake_still]; rfl
  · rfl

@[simp] theorem State.raise_still (s : State) (r : Source) (d : Detail) : (s.raise r d).still = s.still := by
  unfold State.raise; simp

@[simp] theorem State.refill_still (s : State) : s.refill.still = s.still := by
  unfold State.refill; dsimp only
  split
  · split
    · rfl
    · rw [State.raise_still]; rfl
  · rfl

@[simp] theorem State.refillFor_still (s : State) (b : Option Nat) : (s.refillFor b).still = s.still := by
  unfold State.refillFor; split <;> simp

@[simp] theorem State.arrive_still (s : State) (e : Entry) : (s.arrive e).1.still = s.still := by
  unfold State.arrive
  split
  · simp
  · split <;> rfl

@[simp] theorem State.placeHead_ports (s : State) (e : Entry) (note : State → Source → Detail → State)
    (hn : ∀ t r d, (note t r d).ports = t.ports) : (State.placeHead note s e).ports = s.ports := by
  unfold State.placeHead
  split
  · split
    · exact hn _ _ _
    · rfl
  · rfl

@[simp] theorem State.leaveDeep_ports (s : State) : s.leaveDeep.ports = s.ports := by
  have h0 : ({ s with pool := s.pool.leaveRefresh }.startPeriods).ports = s.ports := by
    simp [State.startPeriods, State.ports]
  unfold State.leaveDeep; dsimp only
  split
  · rename_i k _
    exact (State.placeHead_ports _ ⟨.sleep, .goto k, .auto, some .resume⟩ State.markOut (fun t r d => State.markOut_ports t r d)).trans h0
  · exact h0

@[simp] theorem State.serveWake_ports (s : State) : s.serveWake.ports = s.ports := by
  unfold State.serveWake
  split
  · rfl
  · split <;> first | rfl | (split <;> simp) | simp

@[simp] theorem State.presentWake_ports (b : Bool) (s : State) : (State.presentWake b s).ports = s.ports := by
  unfold State.presentWake
  split
  · rw [State.serveWake_ports]; rfl
  · rfl

@[simp] theorem State.raise_ports (s : State) (r : Source) (d : Detail) : (s.raise r d).ports = s.ports := by
  unfold State.raise; simp

@[simp] theorem State.refill_ports (s : State) : s.refill.ports = s.ports := by
  unfold State.refill; dsimp only
  split
  · split
    · rfl
    · rw [State.raise_ports]; rfl
  · rfl

@[simp] theorem State.refillFor_ports (s : State) (b : Option Nat) : (s.refillFor b).ports = s.ports := by
  unfold State.refillFor; split <;> simp

@[simp] theorem State.arrive_ports (s : State) (e : Entry) : (s.arrive e).1.ports = s.ports := by
  unfold State.arrive
  split
  · simp
  · split <;> rfl

end Sys2Proof.Machine
end

