-- ==== Sys2Proof/Laws/Slots.lean ====
section
/-!
SUPPORT. What becoming EMPTY does to the free list, the owners and the designations (`State.Released`): for one slot, for
none, and for emptyings one after another.
-/

namespace Sys2Proof.Machine

/-- The owners after some extents have been given an owner. -/
theorem setOwners_getElem? (es : List Nat) (o : Owner) : ∀ (t : List Owner) (e : Nat),
    (setOwners t es o)[e]? = if e ∈ es then (t[e]?).map (fun _ => o) else t[e]? := by
  induction es with
  | nil => intro t e; simp [setOwners]
  | cons a l ih =>
    intro t e
    have : setOwners t (a :: l) o = setOwners (t.set a o) l o := rfl
    rw [this, ih]
    by_cases h : e = a
    · subst h
      by_cases h2 : e < t.length
      · simp [h2]
      · have h3 : t[e]? = none := List.getElem?_eq_none (by omega)
        have h4 : (t.set e o)[e]? = none := List.getElem?_eq_none (by simp; omega)
        simp [h3, h4]
    · simp [List.getElem?_set_ne (Ne.symm h), h]

/-- A designation cleared at one slot, as `State.Released` says it. -/
theorem undesignate_one (o : Option Nat) (n : Nat) :
    (if o = some n then none else o) = if o.any (fun x => decide (x ∈ [n])) = true then none else o := by
  cases o <;> simp

/-- What emptying one slot does beside its record (R4, R21, R25). -/
theorem State.released_one (s : State) (n : Nat) (b : Bool) : s.Released (s.emptySlot n b) [n] := by
  refine ⟨?_, ?_, ?_, ?_, rfl⟩
  · simp [State.emptySlot, State.release, Pool.release, State.setSlot, State.heldBy, Config.waveFirst]
  · intro e
    simp only [State.emptySlot, State.release, Pool.release, State.setSlot, State.heldBy, List.flatMap_cons,
      List.flatMap_nil, List.append_nil]
    rw [setOwners_getElem?]
  · simp only [State.emptySlot, State.setSlot, State.release, SlotTable.undesignate]
    exact undesignate_one s.slots.rest n
  · simp only [State.emptySlot, State.setSlot, State.release, SlotTable.undesignate]
    exact undesignate_one s.slots.empty n

/-- Nothing emptied, nothing released. -/
theorem State.released_nil (s : State) : s.Released s [] := by
  refine ⟨?_, ?_, ?_, ?_, rfl⟩ <;> simp [State.heldBy]

/-- What slots hold rests on their extent lists alone. -/
theorem State.heldBy_congr {s t : State} {l : List Nat} (h : ∀ n ∈ l, (t.slot n).extents = (s.slot n).extents) :
    t.heldBy l = s.heldBy l := by
  unfold State.heldBy
  congr 1
  induction l with
  | nil => rfl
  | cons a l ih =>
    simp only [List.flatMap_cons]
    rw [h a (by simp), ih (fun n hn => h n (by simp [hn]))]

/-- Two emptyings, one after the other. -/
theorem State.released_append {s t u : State} {l m : List Nat} (h1 : s.Released t l) (h2 : t.Released u m)
    (h : ∀ n ∈ m, (t.slot n).extents = (s.slot n).extents) : s.Released u (l ++ m) := by
  obtain ⟨a1, a2, a3, a4, a5⟩ := h1
  obtain ⟨b1, b2, b3, b4, b5⟩ := h2
  have hh := State.heldBy_congr h
  have ha : s.heldBy (l ++ m) = s.heldBy l ++ s.heldBy m := by simp [State.heldBy]
  refine ⟨?_, ?_, ?_, ?_, by rw [b5, a5]⟩
  · rw [b1, a1, hh, ha]; simp
  · intro e
    rw [b2, a2, hh, ha]
    by_cases c1 : e ∈ s.heldBy l <;> by_cases c2 : e ∈ s.heldBy m <;> simp [c1, c2] <;> cases s.pool.owners[e]? <;> simp
  · rw [b3, a3]; cases s.slots.rest with
    | none => simp
    | some x => by_cases c1 : x ∈ l <;> by_cases c2 : x ∈ m <;> simp [c1, c2]
  · rw [b4, a4]; cases s.slots.empty with
    | none => simp
    | some x => by_cases c1 : x ∈ l <;> by_cases c2 : x ∈ m <;> simp [c1, c2]

/-- Released reads only these. -/
theorem State.released_congr {s s' t t' : State} {l : List Nat} (h : s.Released t l)
    (e1 : s'.pool.free = s.pool.free) (e2 : s'.pool.owners = s.pool.owners) (e3 : s'.slots = s.slots)
    (e4 : t'.pool.free = t.pool.free) (e5 : t'.pool.owners = t.pool.owners) (e6 : t'.slots.rest = t.slots.rest)
    (e7 : t'.slots.empty = t.slots.empty) (e8 : t'.slots.use = t.slots.use) : s'.Released t' l := by
  have hs : ∀ n, s'.slot n = s.slot n := by intro n; simp [State.slot, e3]
  have hh : s'.heldBy l = s.heldBy l := State.heldBy_congr (fun n _ => by rw [hs])
  obtain ⟨a1, a2, a3, a4, a5⟩ := h
  refine ⟨?_, ?_, ?_, ?_, ?_⟩
  · rw [e4, a1, e1, hh]
  · intro e; rw [e5, a2, e2, hh]
  · rw [e6, a3, e3]
  · rw [e7, a4, e3]
  · rw [e8, a5, e3]

end Sys2Proof.Machine
end

