-- ==== Sys2Proof/Laws/Staging.lean ====
section
/-!
SUPPORT. What giving back the ring (R152, R157) can change: the stream table, the ring, its write position and the pool's
lists of extents, and with blocks left nothing of the ring after a close.
-/

namespace Sys2Proof.Machine

/-- Setting an entry changes the stream table alone. -/
theorem Staging.setStream_frame (g : Staging) (i : Nat) (x : Option Stream) :
    ∃ a b, g.setStream i x = { g with stream1 := a, stream2 := b } := by
  unfold Staging.setStream
  split
  · exact ⟨_, _, rfl⟩
  · split <;> exact ⟨_, _, rfl⟩

/-- Freeing an entry without blocks changes the stream table alone (R152). -/
theorem Staging.pruned_frame (g : Staging) (i : Nat) : ∃ a b, g.pruned i = { g with stream1 := a, stream2 := b } := by
  unfold Staging.pruned
  split
  · exact g.setStream_frame i none
  · exact ⟨_, _, rfl⟩

/-- Closing an OPEN stream changes the stream table alone (R161). -/
theorem Staging.closeOpen_frame (g : Staging) (r : CloseReason) (i : Nat) :
    ∃ a b, g.closeOpen r i = { g with stream1 := a, stream2 := b } := by
  unfold Staging.closeOpen
  split
  · exact g.setStream_frame i _
  · exact ⟨_, _, rfl⟩

/-- All that giving back the ring changes, whatever it keeps. -/
theorem State.giveBack_frame (s : State) (keep : Staging → List Nat × Option RingPos) :
    ∃ o f a b r w, s.giveBack keep = { s with
      pool := { s.pool with owners := o, free := f }
      staging := { s.staging with stream1 := a, stream2 := b, ring := r, write := w } } := by
  obtain ⟨a1, b1, h1⟩ := s.staging.pruned_frame 1
  obtain ⟨a2, b2, h2⟩ := (s.staging.pruned 1).pruned_frame 2
  refine ⟨(s.giveBack keep).pool.owners, (s.giveBack keep).pool.free, a2, b2, (s.giveBack keep).staging.ring,
    (s.giveBack keep).staging.write, ?_⟩
  simp only [State.giveBack, h2]
  simp only [h1, Pool.release]

/-- Releasing no extent changes nothing. -/
theorem Pool.release_nil (p : Pool) : p.release [] = p := by simp [Pool.release, setOwners]

/-- After a close the ring and the pool are as they were, but with nothing queued, nothing in writing and both entries free
(R157). -/
theorem State.afterClose_ringKept (s : State) : s.RingKept s.afterClose := by
  obtain ⟨a1, b1, h1⟩ := s.staging.pruned_frame 1
  obtain ⟨a2, b2, h2⟩ := (s.staging.pruned 1).pruned_frame 2
  refine ⟨by simp only [State.afterClose, State.giveBack, h2]; rw [h1], fun h => ?_⟩
  have hk : Staging.keptAtClose ((s.staging.pruned 1).pruned 2) = (s.staging.ring, s.staging.write) := by
    simp only [Staging.keptAtClose, h2]
    rw [h1, if_neg]
    rintro ⟨hq, hw, -⟩
    rcases h with h | h
    · exact h (by simpa using hq)
    · rw [Option.isNone_iff_eq_none] at hw
      exact absurd h (by rw [show s.staging.writing = none from hw]; simp)
  have hr : ((s.staging.pruned 1).pruned 2).ring = s.staging.ring := by rw [h2, h1]
  have hf : s.staging.ring.filter (fun e => !s.staging.ring.contains e) = [] := by simp
  simp only [State.afterClose, State.giveBack, hk, hr, hf, Pool.release_nil]
  exact ⟨trivial, trivial, trivial, trivial⟩

/-- All that closing every OPEN stream changes (R161, R166). -/
theorem State.closeAllOpen_frame (s : State) (r : CloseReason) :
    ∃ o f a b g w, s.closeAllOpen r = { s with
      pool := { s.pool with owners := o, free := f }
      staging := { s.staging with stream1 := a, stream2 := b, ring := g, write := w } } := by
  obtain ⟨a1, b1, h1⟩ := s.staging.closeOpen_frame r 1
  obtain ⟨a2, b2, h2⟩ := (s.staging.closeOpen r 1).closeOpen_frame r 2
  obtain ⟨o, f, a, b, g, w, h⟩ :=
    (s.withStaging ((s.staging.closeOpen r 1).closeOpen r 2)).giveBack_frame Staging.keptAtClose
  exact ⟨o, f, a, b, g, w, by rw [State.closeAllOpen, State.afterClose, h, h2, h1]; rfl⟩

/-- Closing every OPEN stream keeps the ring while a block is queued or in writing (R157, R166). -/
theorem State.closeAllOpen_ringKept (s : State) (r : CloseReason) : s.RingKept (s.closeAllOpen r) := by
  obtain ⟨a1, b1, h1⟩ := s.staging.closeOpen_frame r 1
  obtain ⟨a2, b2, h2⟩ := (s.staging.closeOpen r 1).closeOpen_frame r 2
  have h := (s.withStaging ((s.staging.closeOpen r 1).closeOpen r 2)).afterClose_ringKept
  rw [h2, h1] at h
  rw [State.closeAllOpen, h2, h1]
  exact h

end Sys2Proof.Machine
end

