-- ==== Sys2Proof/Tests/Slice0.lean ====
section
/-!
SUPPORT. Tests: ill-formed commands refused by `Instr.wf`, frames written out from R182, worked examples of the manual,
and for every statement with hypotheses a concrete state and operands that meet them.
-/

open Sys2Proof Sys2Proof.Machine

namespace Sys2Proof.Tests

-- one declaration after another: the kernel checks below would otherwise each hold a thread with its own stack
set_option Elab.async false

/-! ### Well-formedness: one ill-formed command per check -/

theorem test_wf_accepts_goto : (Instr.turn (freshFrame .a) (.fields ⟨.goto ⟨65535, 16777215⟩, .auto⟩)).wf = true := by decide +kernel

theorem test_wf_refuses_wide_page : (Instr.turn (freshFrame .a) (.fields ⟨.goto ⟨1, 16777216⟩, .auto⟩)).wf = false := by decide +kernel

theorem test_wf_refuses_wide_book : (Instr.blankSlot (freshFrame .a) (.fields ⟨⟨65536, 1⟩, .pinned, 0⟩)).wf = false := by decide +kernel

theorem test_wf_refuses_wide_slot : (Instr.commitSlot (freshFrame .a) (.fields ⟨256⟩)).wf = false := by decide +kernel

theorem test_wf_refuses_wide_parameter : (Instr.setParam (freshFrame .a) (.fields ⟨1, 4294967296⟩)).wf = false := by decide +kernel

theorem test_wf_refuses_wide_lease : (Instr.txLease (freshFrame .r) (.fields ⟨65536, 10⟩)).wf = false := by decide +kernel

theorem test_wf_refuses_wide_warmth : (Instr.lightSet (freshFrame .a) (.fields ⟨1, some 256⟩)).wf = false := by decide +kernel

theorem test_wf_refuses_wide_curve : (Instr.loadCurve (freshFrame .a) (.fields ⟨[65536]⟩)).wf = false := by decide +kernel

theorem test_wf_refuses_wide_alarm : (Instr.setAlarm (freshFrame .a) (.fields ⟨some 4294967296⟩)).wf = false := by decide +kernel

theorem test_wf_refuses_wide_source : (Instr.clearNotices (freshFrame .a) (.fields ⟨some [256]⟩)).wf = false := by decide +kernel

theorem test_wf_refuses_known_kind_as_unknown : (Instr.unknownRequest (freshFrame .a) 47).wf = false := by decide +kernel

theorem test_wf_refuses_wide_voltage : (Instr.batterySample ⟨5001, 0⟩).wf = false := by decide +kernel

theorem test_wf_refuses_wide_current : (Instr.batterySample ⟨3900, -3001⟩).wf = false := by decide +kernel

theorem test_wf_refuses_wide_temperature : (Instr.tempReadEnd (some 32768)).wf = false := by decide +kernel

theorem test_wf_refuses_complete_frame_as_ignored : (Instr.windowIgnored .a [0xC3#8, 1#8, 0#8, 0#8]).wf = false := by decide +kernel

/-! ### Frames written out from R182, one for each family of requests -/

/-- RESET_PORT: kind 2, no body. -/
theorem test_frame_reset_port :
    decodeWindow .r true [0xC3#8, 2#8, 0#8, 0#8] = .resetPort (freshFrame .r) (.fields ()) := by decide +kernel

/-- TAKE_NOTICE of source 9: a presence byte, then the number. -/
theorem test_frame_take_notice :
    decodeWindow .a true [0xC3#8, 3#8, 2#8, 0#8, 1#8, 9#8] = .takeNotice (freshFrame .a) (.fields ⟨some 9⟩) := by decide +kernel

/-- SET_PARAM 29 to 1,500 = 0x05DC. -/
theorem test_frame_set_param :
    decodeWindow .a true [0xC3#8, 4#8, 5#8, 0#8, 29#8, 0xDC#8, 0x05#8, 0#8, 0#8]
      = .setParam (freshFrame .a) (.fields ⟨29, 1500⟩) := by decide +kernel

/-- OPEN_SLOT of (12, 342), RETAINED, 40,000 bytes, full refresh, edge LAST. -/
theorem test_frame_open_slot :
    decodeWindow .a true [0xC3#8, 8#8, 12#8, 0#8, 12#8, 0#8, 0x56#8, 1#8, 0#8, 1#8, 0x40#8, 0x9C#8, 0#8, 1#8, 1#8, 1#8]
      = .openSlot (freshFrame .a) (.fields ⟨⟨12, 342⟩, .retained, 40000, true, some .last⟩) := by decide +kernel

/-- WRITE_SLOT 5 at offset 4,096 = 0x001000, three payload bytes. -/
theorem test_frame_write_slot :
    decodeWindow .a true [0xC3#8, 9#8, 9#8, 0#8, 5#8, 0#8, 0x10#8, 0#8, 3#8, 0#8, 0x3F#8, 0xFF#8, 0xC0#8]
      = .writeSlot (freshFrame .a) (.fields ⟨5, 4096, [0x3F#8, 0xFF#8, 0xC0#8]⟩) := by decide +kernel

/-- FORGET book 258 = 0x0102, pages 1 to 2. -/
theorem test_frame_forget :
    decodeWindow .a true [0xC3#8, 15#8, 9#8, 0#8, 2#8, 1#8, 1#8, 1#8, 0#8, 0#8, 2#8, 0#8, 0#8]
      = .forget (freshFrame .a) (.fields ⟨258, some (1, 2)⟩) := by decide +kernel

/-- SET_KEY_ROUTE K2 to NOTICE_ONLY, the fifth action of R49. -/
theorem test_frame_set_key_route :
    decodeWindow .a true [0xC3#8, 18#8, 2#8, 0#8, 2#8, 4#8] = .setKeyRoute (freshFrame .a) (.fields ⟨2, .noticeOnly⟩) := by
  decide +kernel

/-- WAVEFORM_WRITE at offset 66,051 = 0x010203, one byte. -/
theorem test_frame_waveform_write :
    decodeWindow .a true [0xC3#8, 20#8, 6#8, 0#8, 3#8, 2#8, 1#8, 1#8, 0#8, 0x2A#8]
      = .waveformWrite (freshFrame .a) (.fields ⟨66051, [0x2A#8]⟩) := by decide +kernel

/-- LIGHT_SET 150 without a warmth. -/
theorem test_frame_light_set :
    decodeWindow .a true [0xC3#8, 23#8, 2#8, 0#8, 150#8, 0#8] = .lightSet (freshFrame .a) (.fields ⟨150, none⟩) := by
  decide +kernel

/-- TX_LEASE 600 mW for 300 ms. -/
theorem test_frame_tx_lease :
    decodeWindow .r true [0xC3#8, 44#8, 4#8, 0#8, 0x58#8, 2#8, 0x2C#8, 1#8]
      = .txLease (freshFrame .r) (.fields ⟨600, 300⟩) := by decide +kernel

/-- SLEEP to DEEP, the second target of R140. -/
theorem test_frame_sleep :
    decodeWindow .a true [0xC3#8, 28#8, 1#8, 0#8, 1#8] = .sleep (freshFrame .a) (.fields ⟨.deep⟩) true := by decide +kernel

/-- PUT_BLOCK on stream 2, sequence 4, neither flag, two bytes. -/
theorem test_frame_put_block :
    decodeWindow .r true [0xC3#8, 41#8, 11#8, 0#8, 2#8, 4#8, 0#8, 0#8, 0#8, 0#8, 0#8, 2#8, 0#8, 7#8, 8#8]
      = .putBlock (freshFrame .r) (.fields ⟨2, 4, false, false, [7#8, 8#8]⟩) := by decide +kernel

/-- A body that does not fill its layout is malformed; a kind of 48 names no request. -/
theorem test_frame_checks :
    decodeWindow .a true [0xC3#8, 10#8, 0#8, 0#8] = .commitSlot (freshFrame .a) .malformed
      ∧ decodeWindow .a true [0xC3#8, 48#8, 0#8, 0#8] = .unknownRequest (freshFrame .a) 48
      ∧ decodeWindow .a true [0xC2#8, 1#8, 0#8, 0#8] = .windowIgnored .a [0xC2#8, 1#8, 0#8, 0#8] := by decide +kernel

/-- R178, R182: the answer to IDENTIFY, byte by byte. -/
theorem test_identify_answer_bytes :
    responseBytes ⟨.ok, .identify 420 1 512 24⟩ = [0x3C#8, 0#8, 6#8, 0#8, 0xA4#8, 1#8, 1#8, 0#8, 2#8, 24#8] := by decide +kernel

/-- R184: the record of block 1/4 of the staging example. -/
theorem test_drain_record_bytes :
    drainRecord ⟨1, 4, false, false, 3000, ⟨210, 14500⟩⟩ 7001 2
      = [1#8, 4#8, 0#8, 0#8, 0#8, 0#8, 0#8, 0xB8#8, 0x0B#8, 0xD2#8, 0#8, 0xA4#8, 0x38#8, 0x59#8, 0x1B#8, 0#8, 0#8, 2#8, 0#8,
        0#8] := by decide +kernel

/-! ### Worked examples of the manual -/

/-- Section 6.2: raw power of the healthy, low, near-cut and at-cut cases, and of the largest case. -/
theorem test_raw_power_cases :
    rawPower 3520 (-400) 180 3300 = 5352 ∧ rawPower 3380 (-300) 220 3300 = 2187 ∧ rawPower 3305 0 180 3300 = 89
      ∧ rawPower 3300 250 180 3300 = 0 ∧ rawPower 5000 (-3000) 2000 2800 = 11480 := by decide +kernel

/-- Section 7.2: one sample. -/
theorem test_charge_count : countCharge 200 (-3500000 - 500 * 250) 1500 = (199, -25000) ∧ percentOf 199 1500 = 13 := by decide +kernel

/-- Section 7.2: r at its lowest and highest in BATTERY_STATUS, in two's complement, low byte first. -/
theorem test_remainder_bytes :
    signed3 (-3599999) = [0x81#8, 0x11#8, 0xC9#8] ∧ signed3 3599999 = [0x7F#8, 0xEE#8, 0x36#8] := by decide +kernel

/-- R135, step 4: charge held at its limits. -/
theorem test_charge_limits : countCharge 1500 3600000 1500 = (1500, 0) ∧ countCharge 0 (-3600000) 1500 = (0, 0) := by decide +kernel

/-- Section 4.6 and section 4.14: demands of a GREY and of a FAST update; R82 for a FULL one. -/
theorem test_update_demands :
    updateDemand 1500 3000 1360 284000 = 241 ∧ updateDemand 1500 3000 120 18000 = 20
      ∧ updateDemand 1500 3000 1600 1920000 = 680 ∧ updateDemand 0 0 1600 1920000 = 1 := by decide +kernel

/-- Section 5.6: split and power at levels 148, 149 and 150, and the caps at 250 mW. -/
theorem test_light_power :
    warmShare 40 320 = 200 ∧ lightPower 40 900 1000 320 = 293 ∧ lightPower 40 900 1000 325 = 298
      ∧ lightPower 40 900 1000 330 = 303 ∧ lightPower 40 900 1000 274 = 251 ∧ lightPower 40 900 1000 273 = 250 := by decide +kernel

theorem test_light_cap : fitTotal 40 900 1000 250 330 = 273 := by decide +kernel

/-- R183: the blank image of level 15 is 30 bytes long, begins 3F FF 3C AF and is valid. -/
theorem test_blank_image :
    (blankImage 15).length = 30 ∧ (blankImage 15).take 5 = [0x3F#8, 0xFF#8, 0x3C#8, 0xAF#8, 0x7F#8]
      ∧ (blankImage 15).drop 28 = [0x7E#8, 0xC0#8] ∧ checkImage (blankImage 15) = none := by decide +kernel

/-- Section 1.8: the 36-span page is valid; its LITERAL stands at column 105 of row 120. -/
theorem test_page_example :
    let page : List Byte := [0x3F#8, 0xFF#8, 0x3C#8, 0xAF#8, 0x7F#8, 0x76#8, 0x3C#8, 0x63#8, 0x80#8, 5#8, 0xF8#8, 0#8, 0x80#8]
    (ImageCheck.init.feed page).row = 120 ∧ (ImageCheck.init.feed page).col = 105
      ∧ checkImage (page ++ [0x3F#8, 0xFF#8, 0x3C#8, 0x46#8, 0x42#8, 0x3F#8, 0xFF#8, 0x3C#8, 0xAF#8]
          ++ List.replicate 23 0x7F#8 ++ [0x42#8, 0xC0#8]) = none := by decide +kernel

/-- R20: the reasons a scan gives. -/
theorem test_image_faults :
    checkImage [0x81#8] = some .badSpan ∧ checkImage [0x40#8] = some .badSpan ∧ checkImage [0xC0#8] = some .rowCount
      ∧ checkImage [0x3F#8, 0xFF#8, 0x3F#8, 0xFF#8] = some .rowLength
      ∧ checkImage (blankImage 0 ++ [0#8]) = some .trailingBytes := by decide +kernel

/-- R184: entry 12,933 of GREY band 3 lies in bits 3 and 2 of store byte 49,313. -/
theorem test_drive_entry :
    Memory.driveCode [⟨8257536 + 49313, 0x08#8⟩] (waveNumber .grey 3) 12 10 5 = 2 := by decide +kernel

/-! ### Witnesses: states and operands that meet the hypotheses of the statements -/

/-- RUN after a sample of 3,900 mV: ceiling 3,900 mW, the AP with 700 mW, the radio domain ON with 80 mW. -/
def base : State :=
  { State.reset with
    head := { Headroom.reset with
      v := 3900, capped := 4000, ceiling := 3900, ap := ⟨700, 700⟩, radio := ⟨80, 80⟩, sampled := true }
    bs := { State.reset.bs with radio := true } }

/-- A request in progress on both ports. -/
def busyBase : State :=
  { base with
    portA := { PortUnit.reset with state := .busy, busy := some true }
    portR := { PortUnit.reset with state := .busy, busy := some true } }

/-- A page of 30 bytes in extent 0, READY. -/
def readyPage (c : Cls) : Slot :=
  { Slot.cleared false with state := .ready, key := some ⟨12, 342⟩, cls := some c, extents := [0], declared := 30, written := 30 }

/-- A state with a record put into a slot. -/
def withSlot (n : Nat) (x : Slot) (s : State) : State := { s with slots := { s.slots with slots := s.slots.slots.set n x } }

/-- A state with work of Port A at its end. -/
def withWorkA (k : WorkKind) (s : State) : State :=
  { s with pool := { s.pool with workA := some ⟨k, .slot 0, [0], 30, 30, [], [], false⟩ } }

/-- The state a step answers. -/
def after (c : Instr) (s : State) : State :=
  match step { s with pending := [c] } with
  | .next t => t
  | _ => s

/-- The powered ports of `base` can take a request; nothing goes on by itself, nothing waits. -/
theorem base_is_ready :
    base.Ready .a ∧ base.Ready .r ∧ base.Settled ∧ base.Quiet ∧ base.NoTake ∧ base.NoWaits ∧ base.ApOn := by decide +kernel

theorem witness_IdentifyAnswersOnBothPorts : base.Ready .a ∧ base.Ready .r := by decide +kernel

theorem witness_SharedItemsAreGrantedAndRead :
    base.Ready .a ∧ base.Ready .r ∧ ShareItem.light ≠ .battery ∧ base.shares.granted .light = false := by decide +kernel

theorem witness_SharedItemsAreGrantedAndRead_values :
    let s := { base with shares := ⟨true, true, true, true⟩ }
    s.Ready .r ∧ ∀ i ∈ [ShareItem.battery, .time, .powerState, .light], s.shares.granted i = true := by decide +kernel

theorem witness_StatusRequestsChangeNothing : base.Ready .a := by decide +kernel

theorem witness_LightPowerSplitsAndCaps :
    64 ≤ 64 ∧ 273 ≤ 330 ∧ lightPower 40 900 1000 273 ≤ 250 ∧ ¬ lightPower 40 900 1000 274 ≤ 250 := by decide +kernel

/-- A curve with a flat stretch, at its last level. -/
theorem witness_LightPowerSplitsAndCaps_total :
    let c := List.replicate 5 0 ++ List.replicate 12 1024
    c.length = 17 ∧ c.Pairwise (· ≤ ·) ∧ 255 ≤ 255 ∧ 15 = 255 / 16 ∧ 1024 = c.getD 15 0 + (c.getD 16 0 - c.getD 15 0) * 15 / 16
      ∧ c.getD 0 0 = 0 ∧ 79 / 16 = 4 ∧ lightTotal c 16 79 = 960 := by decide +kernel

theorem witness_MemoryLawIsKept : base.MemoryLaw ∧ step { base with pending := [.selfRefreshLeft] } = .next base := by
  exact ⟨by decide +kernel, by rfl⟩

theorem witness_QueueAndCountLawsAreKept :
    ({ base with turn := { base.turn with queue := List.replicate 8 ⟨.portA, .step .plus, .auto, none⟩ } } : State).QueueLaw
      ∧ ({ base with panel := { base.panel with ghost := 255 } } : State).CountLaw
      ∧ ({ base with panel := { base.panel with ghost := 255 } } : State).GhostLaw := by decide +kernel

theorem witness_FrameChecksRefuse :
    base.Ready .a ∧ permitted (kindOf .txRelease) .a = false ∧ base.Ready .r ∧ permitted (kindOf (.sleep ⟨.doze⟩)) .r = false := by
  decide +kernel

theorem witness_WindowsAndHeldFrames_bytes :
    base.portPowered .r = true ∧ (base.port .r).state = .waitingSync ∧ (base.port .r).buffer = [] ∧ (0xC2#8 : Byte) ≠ 0xC3#8
      ∧ 4200 < (0x69#8 : Byte).toNat + 256 * (0x10#8 : Byte).toNat ∧ ([] : List Byte).length < 3 := by decide +kernel

theorem witness_WindowsAndHeldFrames_held :
    busyBase.portPowered .a = true ∧ (busyBase.port .a).busy.isSome = true ∧ (busyBase.port .a).held = none
      ∧ Req.identify ≠ .resetPort
      ∧ (({ base with portA := { base.portA with held := some ⟨.request .identify, true⟩ } } : State).port .a).held.isSome = true := by
  decide +kernel

theorem witness_ResetPortABreaksReservations :
    let s := withSlot 3 { readyPage .retained with state := .filling, reservation := true } busyBase
    s.portPowered .a = true ∧ s.Settled ∧ s.staging.watch = none ∧ (s.slot 3).state = .filling := by decide +kernel

theorem witness_ResetPortREndsRadioSide :
    let s := { busyBase with head := { busyBase.head with active := some ⟨600, 300, 0, 300, .atOnce⟩, radio := ⟨680, 680⟩ } }
    s.portPowered .r = true ∧ s.Settled ∧ s.bs.deferTimer = none ∧ s.alarmed = false ∧ s.head.apWait = none
      ∧ s.head.panelWait = none := by decide +kernel

theorem witness_ParametersAreSetAndRead :
    base.Ready .a ∧ paramRow 1 = some ⟨0, 8, 3⟩ ∧ paramRow 41 = some ⟨1, 120, 20⟩ ∧ paramRow 42 = none ∧ paramRow 0 = none
      ∧ 1 ∉ [9, 18, 20, 21, 29, 38, 39] ∧ ¬(1 ∈ [7, 8] ∧ 1 < 9) ∧ paramRow 39 = some ⟨8, 256, 96⟩ := by decide +kernel

theorem witness_RequestFramesRoundTrip : reqFits (.turn ⟨.goto ⟨65535, 16777215⟩, .fast⟩) = true := by decide +kernel

theorem witness_ArbiterGrantsAndBursts_chunk :
    let w : Work := ⟨.writeSlot 0 300, .slot 0, [0, 1], 16128, 16428, List.replicate 300 7#8, [], false⟩
    let s := { base with pool := { base.pool with workA := some w, workR := some w, scans := [⟨0, 0, 30, ImageCheck.init, false⟩] } }
    (s.pool.mode = .active ∧ s.feedWaits = false ∧ s.pool.waits .portA = true ∧ Requester.portA = s.pool.pointer
      ∧ w.extents[w.pos / 16384]? = some 0
      ∧ ({ s with pool := { s.pool with pointer := .portR } } : State).pool.waits .portR = true
      ∧ (withSlot 0 (readyPage .pinned) s).pool.waits .verify = true
      ∧ ((withSlot 0 (readyPage .pinned) s).slot 0).extents[0 / 16384]? = some 0)
      ∧ (∀ r, base.pool.waits r = false) :=
  ⟨by decide +kernel, fun r => by cases r <;> decide +kernel⟩

/-- An update being planned in FULL for slot 0. -/
def planned : Update := Update.fresh 0 .full

/-- A state whose engine updates slot 0 with an update record. -/
def updating (u : Update) (s : State) : State :=
  { s with
    panel := { s.panel with update := some u, target := some 0 }
    turn := { s.turn with engine := .updating, turn := some ⟨⟨12, 342⟩, .auto, u.mode, .portA, none⟩ } }

theorem witness_ArbiterGrantsAndBursts_burst :
    let u := { planned with mode := .grey, tempRead := true }
    let s := updating u { withSlot 0 (readyPage .pinned) base with pool := { base.pool with feed := Feed.fresh } }
    let both := { s with panel := { s.panel with shown := some 0, fidelity := .exact } }
    s.panel.update = some u ∧ s.pool.mode = .active ∧ s.feedWaits = true ∧ 0 < s.feedRemaining .target
      ∧ (s.feedRows u u.target).1 + s.pool.feed.target = 0 ∧ (s.slot u.target).extents[0 / 16384]? = some 0
      ∧ both.panel.update = some u ∧ both.pool.mode = .active ∧ both.panel.shown = some 0
      ∧ 0 < both.feedRemaining .shown ∧ (both.slot 0).extents[0 / 16384]? = some 0
      ∧ (both.feedRows u 0).1 + both.pool.feed.shown = 0 ∧ s.feedRemaining .waveform = 0 := by decide +kernel

theorem witness_OpenSlotTakesLowestFreeRecord :
    let s := withSlot 0 (readyPage .pinned) base
    s.Ready .a ∧ s.staging.watch = none ∧ 64 = (1048576 + 16383) / 16384 ∧ 64 ≤ s.pool.free.length
      ∧ s.slotOfKey ⟨65535, 16777215⟩ = none ∧ s.pinned < 8 ∧ 1 < s.slots.slots.length ∧ s.FreeRecord 1 := by
  decide +kernel

/-- Every EMPTY record carries the lost mark. -/
def allLost : State :=
  withSlot 0 (readyPage .pinned)
    { base with slots := { base.slots with slots := base.slots.slots.map (fun x => { x with lost := true }) } }

theorem witness_OpenSlotTakesLowestFreeRecord_marked :
    allLost.Ready .a ∧ allLost.staging.watch = none ∧ allLost.slotOfKey ⟨1, 0⟩ = none ∧ 64 ≤ allLost.pool.free.length
      ∧ allLost.FreeRecord 1 ∧ (allLost.slot 1).lost = true := by decide +kernel

/-- R28: with every EMPTY record marked the lowest one is taken, and its mark is gone. -/
theorem test_open_takes_marked_record :
    let t := after (.openSlot (freshFrame .a) (.fields ⟨⟨1, 0⟩, .streamed, 30, false, none⟩)) allLost
    (t.slot 1).state = .filling ∧ (t.slot 1).lost = false ∧ (t.slot 2).lost = true := by decide +kernel

theorem witness_OpenSlotTakesLowestFreeRecord_replaces :
    let s := withSlot 0 (readyPage .pinned) base
    let f := withSlot 3 { readyPage .retained with state := .filling, reservation := true } base
    let tight := { s with pool := { s.pool with free := [] } }
    let pages := base.slots.slots.mapIdx (fun k x => if k < 8 then { readyPage .pinned with key := some ⟨12, k⟩ } else x)
    let eight := { base with slots := { base.slots with slots := pages } }
    s.Ready .a ∧ s.staging.watch = none ∧ s.slotOfKey ⟨12, 342⟩ = some 0 ∧ (s.slot 0).state = .ready
      ∧ s.panel.shown ≠ some 0 ∧ s.panel.target ≠ some 0 ∧ 0 < s.slots.slots.length ∧ 15 ≤ 15
      ∧ f.Ready .a ∧ f.slotOfKey ⟨12, 342⟩ = some 3 ∧ (f.slot 3).state = .filling ∧ f.pinned < 8
      ∧ tight.Ready .a ∧ 1 ≤ tight.pool.free.length + (tight.heldBy [0]).length
      ∧ eight.Ready .a ∧ eight.slotOfKey ⟨12, 7⟩ = some 7 ∧ (eight.slot 7).cls = some .pinned ∧ eight.pinned ≤ 8 := by
  decide +kernel

/-- 24 PINNED pages: every slot is taken and none can be evicted. -/
def fullTable : State :=
  { base with slots := { base.slots with
      slots := (List.range 24).map (fun k => { readyPage .pinned with key := some ⟨12, k⟩, extents := [k] }) } }

theorem witness_OpenRefusalsChangeNothing_arguments :
    ¬(1 ≤ (⟨0, 1⟩ : PageKey).book) ∧ ¬(1048577 ≤ 1048576) ∧ ¬(16 ≤ 15) ∧ base.Ready .a := by decide +kernel

theorem witness_OpenRefusalsChangeNothing_inUse :
    let s := withSlot 0 { readyPage .pinned with state := .verifying } base
    s.Ready .a ∧ s.slotOfKey ⟨12, 342⟩ = some 0 ∧ (s.slot 0).state = .verifying := by decide +kernel

theorem witness_OpenRefusalsChangeNothing_limits :
    fullTable.Ready .a ∧ fullTable.slotOfKey ⟨13, 1⟩ = none ∧ 8 ≤ fullTable.pinned
      ∧ (∀ n < fullTable.slots.slots.length, (fullTable.slot n).state = .ready → (fullTable.slot n).cls = some .pinned)
      ∧ (∀ n < fullTable.slots.slots.length, (fullTable.slot n).state ≠ .empty) := by decide +kernel

theorem witness_OpenRefusalsChangeNothing_space :
    let s := { base with pool := { base.pool with free := [] } }
    s.slotOfKey ⟨13, 1⟩ = none ∧ (∃ n < s.slots.slots.length, (s.slot n).state = .empty)
      ∧ s.pool.free.length < (1 + 16383) / 16384 ∧ (∀ n < s.slots.slots.length, (s.slot n).state ≠ .ready) := by
  decide +kernel

/-- A FILLING slot 3 with 30 of 40 bytes written, in extent 0. -/
def filling : State :=
  withSlot 3 { readyPage .retained with state := .filling, reservation := true, declared := 40 } base

theorem witness_WriteSlotStoresAndCounts :
    filling.Ready .a ∧ (filling.slot 3).state = .filling ∧ (filling.slot 3).reservation = true
      ∧ 30 = (filling.slot 3).written ∧ 30 + 10 ≤ (filling.slot 3).declared ∧ (filling.slot 3).declared < 30 + 11
      ∧ 0 ≠ (filling.slot 3).written ∧ (filling.slot 0).state = .empty
      ∧ ((withSlot 3 (readyPage .retained) base).slot 3).state = .ready ∧ ¬(24 ≤ 23) := by decide +kernel

theorem witness_WriteSlotStoresAndCounts_end :
    let s := { withWorkA (.writeSlot 3 10) filling with portA := busyBase.portA }
    s.pool.workA = some ⟨.writeSlot 3 10, .slot 0, [0], 30, 30, [], [], false⟩ ∧ s.portA.busy = some true
      ∧ s.portA.held = none ∧ (s.slot 3).state = .filling ∧ (s.slot 3).reservation = true
      ∧ ¬(((withWorkA (.writeSlot 3 10) busyBase).slot 3).state = .filling)
      ∧ ({ kind := .writeSlot 3 10, owner := .slot 3, extents := [0], pos := 30, stop := 30, data := [], got := [],
           lost := true } : Work).lost = true := by decide +kernel

theorem witness_CommitVerifiesThenSettlesSlot :
    let full := withSlot 3 { readyPage .retained with state := .filling, reservation := true } base
    full.Ready .a ∧ full.staging.watch = none ∧ (full.slot 3).state = .filling ∧ (full.slot 3).reservation = true
      ∧ (full.slot 3).declared ≤ (full.slot 3).written ∧ (filling.slot 3).written < (filling.slot 3).declared
      ∧ 23 < 24 ∧ (base.slot 0).state ≠ .filling := by decide +kernel

/-- A scan of slot 3 at its end. -/
def scanned (c : ImageCheck) (forget : Bool) : State :=
  { withSlot 3 { readyPage .retained with state := .verifying, forget := forget } base with
    pool := { base.pool with scans := [⟨3, 30, 30, c, false⟩] } }

theorem witness_CommitVerifiesThenSettlesSlot_end :
    let good := scanned { ImageCheck.init with row := 1600, phase := .ended } false
    let bad := scanned ImageCheck.init false
    let gone := scanned ImageCheck.init true
    good.bs.ap = .on ∧ good.Settled ∧ good.staging.watch = none ∧ good.turn.miss = none ∧ 3 < good.slots.slots.length
      ∧ (good.slot 3).forget = false ∧ (good.pool.scans.map (fun c => c.check.result)) = [none]
      ∧ bad.Settled ∧ (bad.pool.scans.map (fun c => c.check.result)) = [some .rowCount]
      ∧ (bad.slot 3).key = some ⟨12, 342⟩ ∧ gone.Settled ∧ (gone.slot 3).forget = true := by decide +kernel

/-- Spans at their boundary values: the longest RUN and LITERAL, the ROW_REPEATs, bytes and counts that begin or make no
span, and a LITERAL one byte short. -/
theorem witness_CommitVerifiesThenSettlesSlot_spans :
    let levels : List Byte := List.replicate 32 0x9A#8
    (0x3F#8).toNat < 64 ∧ 1024 = 256 * ((0x3F#8).toNat % 4) + (0xFF#8).toNat + 1 ∧ (0x40#8).toNat ≤ 64 ∧ levels.length = (64 + 1) / 2
      ∧ 64 ≤ (0x40#8).toNat ∧ (0x7F#8).toNat < 128 ∧ 128 < (0x81#8).toNat ∧ (0xC1#8).toNat ≠ 192 ∧ (0x00#8).toNat = 0
      ∧ 64 < (0x41#8).toNat ∧ (levels.drop 1).length < (64 + 1) / 2
      ∧ (List.replicate 1136 15 : List Nat).length + 64 ≤ 1200 ∧ [[1], [2]].getLast? = some [2]
      ∧ (levels.flatMap (fun x => [x.toNat / 16, x.toNat % 16])).take 63 = (List.replicate 31 [9, 10]).flatten ++ [9] := by
  decide +kernel

/-- R20: the reasons, each found in the fewest bytes. -/
theorem test_image_check_reasons :
    let half : List Byte := [0x02#8, 0x57#8]
    checkImage (blankImage 15) = none ∧ checkImage (blankImage 15 ++ [0x00#8]) = some .trailingBytes ∧ checkImage [0x40#8] = some .badSpan
      ∧ checkImage (half ++ half ++ [0x40#8, 0xC0#8]) = some .rowCount ∧ checkImage (half ++ [0x03#8, 0xFF#8]) = some .rowLength
      ∧ checkImage (half ++ [0xC0#8]) = some .rowLength ∧ checkImage (half ++ half) = some .rowCount
      ∧ checkImage [0x80#8, 0x41#8] = some .badSpan := by decide +kernel

/-- A miss wait for a page. -/
def missing (key : PageKey) (s : State) : State :=
  { s with
    panel := { s.panel with wave := .valid }
    turn := { s.turn with engine := .waitingPage, miss := some ⟨key, .auto, .portA, none, 0, 10000⟩ } }

/-- A miss wait for another page leaves the slot's end as it is. -/
theorem witness_CommitVerifiesThenSettlesSlot_otherMiss :
    let s := missing ⟨9, 9⟩ (scanned { ImageCheck.init with row := 1600, phase := .ended } false)
    s.Settled ∧ s.turn.miss.map Miss.key = some ⟨9, 9⟩ ∧ (s.slot 3).key = some ⟨12, 342⟩ ∧ s.bs.ap = .on := by decide +kernel

theorem witness_TouchAndMissWaitRaise_ready :
    let s := missing ⟨12, 342⟩ (scanned { ImageCheck.init with row := 1600, phase := .ended } false)
    let b := withWorkA (.blankSlot 3) s
    s.turn.miss.map Miss.key = some ⟨12, 342⟩ ∧ s.turn.engine = .waitingPage ∧ 3 < s.slots.slots.length
      ∧ (s.slot 3).key = some ⟨12, 342⟩ ∧ (s.slot 3).forget = false ∧ s.Quiet ∧ s.bs.battery ≠ .critical
      ∧ s.panel.wave = .valid ∧ s.pool.scans.map (fun c => (c.slot, c.check.result)) = [(3, none)] ∧ 30 ≤ 30
      ∧ b.pool.workA = some ⟨.blankSlot 3, .slot 0, [0], 30, 30, [], [], false⟩ ∧ b.portA.held = none ∧ b.Quiet := by
  decide +kernel

theorem witness_CancelSlotAnswersByState :
    filling.Ready .a ∧ (filling.slot 3).state = .filling ∧ filling.staging.watch = none ∧ 23 < 24
      ∧ ((withSlot 3 (Slot.cleared true) base).slot 3).lost = true ∧ ((withSlot 3 (Slot.cleared true) base).slot 3).state = .empty
      ∧ (base.slot 3).state = .empty ∧ (base.slot 3).lost = false := by decide +kernel

theorem witness_BlankSlotMakesPage :
    base.Ready .a ∧ base.staging.watch = none ∧ 1 ≤ base.pool.free.length ∧ base.slotOfKey ⟨1, 0⟩ = none ∧ base.pinned < 8
      ∧ base.FreeRecord 0 ∧ allLost.Ready .a ∧ allLost.slotOfKey ⟨1, 0⟩ = none ∧ allLost.FreeRecord 1 := by decide +kernel

theorem witness_BlankSlotMakesPage_end :
    let s := withWorkA (.blankSlot 3) (withSlot 3 { readyPage .pinned with state := .verifying } busyBase)
    s.portA.held = none ∧ s.Settled ∧ s.staging.watch = none ∧ s.turn.miss = none ∧ 3 < s.slots.slots.length
      ∧ (s.slot 3).forget = false ∧ s.pool.workA = some ⟨.blankSlot 3, .slot 0, [0], 30, 30, [], [], false⟩ := by decide +kernel

theorem witness_ClassAndDesignationRequests :
    let s := withSlot 23 (readyPage .pinned) base
    let eight := { fullTable with slots := { fullTable.slots with
      slots := (fullTable.slots.slots.take 8) ++ List.replicate 16 (readyPage .streamed) } }
    s.Ready .a ∧ s.staging.watch = none ∧ (s.slot 23).state ≠ .empty ∧ (s.slot 23).cls = some .pinned
      ∧ (s.slot 23).state = .ready ∧ (s.slot 0).state = .empty ∧ eight.Ready .a ∧ (eight.slot 8).state ≠ .empty
      ∧ (eight.slot 8).cls ≠ some .pinned ∧ 8 ≤ eight.pinned ∧ ¬((eight.slot 8).cls = some .pinned) := by decide +kernel

theorem witness_ForgetEmptiesMatchingSlots :
    fullTable.Ready .a ∧ forgetInRange ⟨12, some (0, 16777215)⟩ = true ∧ fullTable.staging.watch = none
      ∧ (fullTable.slot 5).matchesForget ⟨12, some (0, 16777215)⟩ = true ∧ forgetInRange ⟨12, some (2, 1)⟩ = false := by decide +kernel

theorem witness_EvictionSparesProtectedSlots :
    let s := { withSlot 3 (readyPage .streamed) base with panel := { base.panel with shown := some 3 } }
    (s.Ready .a ∧ s.Ready .r ∧ (s.slot 3).state ≠ .empty ∧ s.panel.shown = some 3 ∧ s.slotOfKey ⟨1, 1⟩ ≠ some 3)
      ∧ (∃ t, exec (.openSlot (freshFrame .a) (.fields ⟨⟨1, 1⟩, .streamed, 30, false, none⟩)) s = .next t)
      ∧ (∃ t, exec (.putBlock (freshFrame .r) (.fields ⟨1, 0, true, false, [0#8]⟩)) s = .next t) :=
  ⟨by decide +kernel, ⟨_, rfl⟩, ⟨_, rfl⟩⟩

theorem witness_EvictionFollowsItsOrder_kept :
    let s := withSlot 1 { readyPage .retained with key := some ⟨12, 343⟩ } (withSlot 0 (readyPage .streamed) base)
    (s.Ready .a ∧ 0 < s.slots.slots.length ∧ 1 < s.slots.slots.length ∧ (s.slot 0).state = .ready ∧ (s.slot 1).state = .ready
      ∧ s.panel.shown ≠ some 0 ∧ s.panel.target ≠ some 0 ∧ (s.slot 0).cls = some .streamed ∧ (s.slot 1).cls = some .retained
      ∧ s.slotOfKey ⟨1, 1⟩ ≠ some 0 ∧ s.slotOfKey ⟨1, 1⟩ ≠ some 1)
      ∧ (∃ t, exec (.openSlot (freshFrame .a) (.fields ⟨⟨1, 1⟩, .streamed, 30, false, none⟩)) s = .next t
          ∧ t.slot 0 = s.slot 0)
      ∧ (∃ t, exec (.blankSlot (freshFrame .a) (.fields ⟨⟨1, 1⟩, .streamed, 15⟩)) s = .next t ∧ t.slot 0 = s.slot 0) :=
  ⟨by decide +kernel, ⟨_, rfl, by decide +kernel⟩, ⟨_, rfl, by decide +kernel⟩⟩

/-- 24 STREAMED pages, slot 7 used longest ago. -/
def aged : State :=
  { fullTable with slots := { fullTable.slots with
      use := 30
      slots := fullTable.slots.slots.mapIdx (fun k x => { x with cls := some .streamed, age := (k + 17) % 24 }) } }

theorem witness_EvictionFollowsItsOrder_open :
    let tight := { withSlot 0 (readyPage .retained) base with pool := { base.pool with free := [] } }
    aged.Ready .a ∧ aged.staging.watch = none ∧ 1 = (30 + 16383) / 16384 ∧ aged.slotOfKey ⟨1, 1⟩ = none
      ∧ 7 < aged.slots.slots.length ∧ (aged.slot 7).state = .ready ∧ (aged.slot 7).key = some ⟨12, 7⟩
      ∧ aged.panel.shown ≠ some 7 ∧ aged.panel.target ≠ some 7 ∧ (aged.slot 7).cls = some .streamed
      ∧ (∀ m < aged.slots.slots.length, m ≠ 7 → (aged.slot 7).age < (aged.slot m).age)
      ∧ (∀ m < aged.slots.slots.length, (aged.slot m).state ≠ .empty) ∧ 1 ≤ aged.pool.free.length
      ∧ tight.Ready .a ∧ tight.slotOfKey ⟨1, 1⟩ = none ∧ (tight.slot 0).state = .ready ∧ (tight.slot 0).cls = some .retained
      ∧ (∀ m < tight.slots.slots.length, m ≠ 0 → (tight.slot m).state ≠ .ready) ∧ tight.pool.free.length < 1
      ∧ 1 ≤ tight.pool.free.length + (tight.heldBy [0]).length ∧ tight.FreeRecord 1 := by decide +kernel

theorem witness_EvictionFollowsItsOrder_reclaim :
    let st : Stream := ⟨.open, 7, 0, false, none, 0, none⟩
    let none' := { base with pool := { base.pool with free := [] }, staging := { base.staging with stream1 := some st } }
    let s := withSlot 0 (readyPage .streamed) none'
    let f := withSlot 0 { readyPage .streamed with state := .filling } none'
    let across := { s with staging := { s.staging with ring := [15], write := some ⟨15, 16000⟩ } }
    none'.Ready .r ∧ none'.NoWake .refillWanted ∧ none'.head.alarm = none ∧ none'.staging.watch = none
      ∧ none'.staging.stream 1 = some st ∧ (true = true ↔ (0 : Nat) = 0) ∧ none'.pool.free = []
      ∧ none'.staging.ring.length < none'.params.stagingFloor ∧ none'.staging.write = none
      ∧ (∀ m < none'.slots.slots.length, (none'.slot m).cls ≠ some .streamed)
      ∧ s.Ready .r ∧ (s.slot 0).key = some ⟨12, 342⟩ ∧ (s.slot 0).cls = some .streamed ∧ s.panel.shown ≠ some 0
      ∧ s.panel.target ≠ some 0 ∧ (s.slot 0).state = .ready
      ∧ (∀ m < s.slots.slots.length, m ≠ 0 → (s.slot m).state ≠ .ready) ∧ s.heldBy [0] = [0]
      ∧ (f.slot 0).state = .filling ∧ f.heldBy [0] = [0]
      ∧ (∀ m < f.slots.slots.length, (f.slot m).state ≠ .ready ∧ (m ≠ 0 → (f.slot m).state ≠ .filling))
      ∧ across.Ready .r ∧ across.staging.ring.length < across.params.stagingFloor
      ∧ across.staging.write = some ⟨15, 16000⟩ ∧ 16384 < 16000 + 385 ∧ across.staging.ring = [] ++ [15] := by decide +kernel

theorem witness_RefillWantsMissingPages :
    let s := { base with panel := { base.panel with shownKey := some ⟨12, 342⟩ } }
    base.panel.shownKey = none ∧ s.panel.shownKey = some ⟨12, 342⟩ ∧ s.NoWake .refillWanted := by decide +kernel

/-- R66: pages 341 and 343 to 345 are wanted around (12, 342) at the default parameters, but for 344, which is in a slot,
and for 345, which lies past the last page that the slot's edge flag marks. -/
theorem test_refill_example :
    ((withSlot 5 { readyPage .retained with key := some ⟨12, 344⟩, edge := some .last }
      { base with panel := { base.panel with shownKey := some ⟨12, 342⟩ } }).refill).turn.want
        = some ⟨12, [341, 343]⟩ := by decide +kernel

theorem witness_TurnIsQueuedAndTaken_queue :
    let s := updating planned base
    let full := { s with turn := { s.turn with queue := List.replicate 8 ⟨.portA, .step .plus, .auto, none⟩ } }
    s.Ready .a ∧ s.Settled ∧ s.turn.queue.length < 8 ∧ s.turn.engine ≠ .idle ∧ full.Ready .a ∧ full.Settled
      ∧ 8 ≤ full.turn.queue.length ∧ ¬(16777216 ≤ 16777215) := by decide +kernel

theorem witness_TurnIsQueuedAndTaken_taken :
    let s := { withSlot 3 (readyPage .streamed) base with panel := { base.panel with wave := .valid } }
    s.Ready .a ∧ s.Settled ∧ s.turn.engine = .idle ∧ s.turn.queue = [] ∧ s.bs.power = .run ∧ s.bs.battery ≠ .critical
      ∧ s.panel.shownKey ≠ some ⟨12, 342⟩ ∧ s.slotOfKey ⟨12, 342⟩ = some 3 ∧ (s.slot 3).state = .ready
      ∧ s.panel.wave = .valid ∧ s.staging.watch = none ∧ s.slotOfKey ⟨65535, 16777215⟩ = none := by decide +kernel

/-- A miss wait that ends with a run of three STEPs and a GOTO queued, its net offset `d` 1 or, turned round, -1. -/
def stepsQueued (turned : Bool) (rest : List Entry) : State :=
  let e := fun o (up : Bool) m => (⟨o, .step (if up then .plus else .minus), m, none⟩ : Entry)
  let s := missing ⟨9, 9⟩ base
  { s with
    turn := { s.turn with
      queue := [e .key (!turned) .auto, e .portA (!turned) .full, e .key turned .grey] ++ rest } }

/-- Slot 0 shown, at page `p` with an edge. -/
def showingPage (p : Nat) (e : Option Edge) (s : State) : State :=
  { withSlot 0 { readyPage .pinned with key := some ⟨12, p⟩, edge := e } s with
    panel := { s.panel with shown := some 0, shownKey := some ⟨12, p⟩ } }

theorem witness_TurnIsQueuedAndTaken_run :
    let rest : List Entry := [⟨.portA, .goto ⟨7, 7⟩, .auto, none⟩]
    let s := stepsQueued false rest
    let run := s.turn.queue.take 3
    s.turn.miss.isSome = true ∧ s.bs.ap = .on ∧ s.bs.power = .run ∧ s.Quiet
      ∧ s.turn.queue = run ++ rest ∧ run ≠ [] ∧ (∀ e ∈ run, e.kind = .step .plus ∨ e.kind = .step .minus)
      ∧ rest.head?.map Entry.kind = some (.goto ⟨7, 7⟩)
      ∧ (run.countP (fun e => decide (e.kind = .step .plus)) : Int) - run.countP (fun e => decide (e.kind = .step .minus)) = 1
      ∧ run.head?.map Entry.origin = some .key ∧ (∃ e ∈ run, e.mode = .full) ∧ s.bs.battery ≠ .critical
      ∧ s.panel.shownKey = none ∧ (stepsQueued true []).turn.queue = (stepsQueued true []).turn.queue.take 3 ++ []
      ∧ (List.countP (fun e => decide (e.kind = .step .plus)) ((stepsQueued true []).turn.queue.take 3) : Int)
        - List.countP (fun e => decide (e.kind = .step .minus)) ((stepsQueued true []).turn.queue.take 3) = -1 := by decide +kernel

/-- The edges, both ends of the page range, and a page in no slot, FILLING and READY. -/
theorem witness_TurnIsQueuedAndTaken_runTarget :
    let s := stepsQueued false []
    let last := showingPage 342 (some .last) s
    let first := showingPage 342 (some .first) (stepsQueued true [])
    let plain := showingPage 342 none s
    let low := showingPage 0 none (stepsQueued true [])
    let high := showingPage 16777215 none s
    let ready := withSlot 3 { readyPage .streamed with key := some ⟨12, 343⟩ } plain
    let fills := withSlot 3 { readyPage .streamed with key := some ⟨12, 343⟩, state := .filling } plain
    last.panel.shown = some 0 ∧ (last.slot 0).edge = some .last ∧ (first.slot 0).edge = some .first
      ∧ (plain.slot 0).edge = none ∧ ((343 : Nat) : Int) = max 0 (min 16777215 ((342 : Nat) + 1))
      ∧ low.panel.shownKey = some ⟨12, 0⟩ ∧ ((0 : Nat) : Int) = max 0 (min 16777215 (((0 : Nat) : Int) + -1))
      ∧ high.panel.shownKey = some ⟨12, 16777215⟩
      ∧ ((16777215 : Nat) : Int) = max 0 (min 16777215 (((16777215 : Nat) : Int) + 1))
      ∧ plain.slotOfKey ⟨12, 343⟩ = none ∧ fills.slotOfKey ⟨12, 343⟩ = some 3 ∧ (fills.slot 3).state ≠ .ready
      ∧ ready.slotOfKey ⟨12, 343⟩ = some 3 ∧ (ready.slot 3).state = .ready ∧ ready.panel.wave = .valid
      ∧ ({ ready.panel with wave := .absent } : PanelDrive).wave ≠ .valid ∧ ready.Quiet := by decide +kernel

theorem witness_KeyRoutesEdgesAndRepeats_edge :
    let off := { base with bs := { base.bs with power := .depleted } }
    base.Ready .a ∧ 3 = (3 : Key).val ∧ 4 ≤ 4 ∧ base.rawKey 0 ≠ true ∧ base.bs.power ≠ .depleted
      ∧ true ≠ (base.key 0).pressed ∧ off.rawKey 3 ≠ true ∧ off.bs.power = .depleted
      ∧ ({ base with pins := { base.pins with keys := [true, false, false, false] } } : State).rawKey 0 ≠ false := by decide +kernel

/-- Key K0 held down until its debounce timer at 20. -/
def pressing (r : Route) : State :=
  { base with
    pins := { base.pins with keys := [true, false, false, false] }
    turn := { base.turn with
      routes := [r, .prev, .light, .power], engine := .updating
      keys := { KeyInput.start false 0 with candidate := some 0, debounce := some 20 } :: base.turn.keys.drop 1 } }

theorem witness_KeyEdgeAccepted :
    ((pressing .next).key 0).debounce = some 20 ∧ (pressing .next).Settled ∧ (pressing .next).bs.power = .run
      ∧ (pressing .next).bs.ap = .on ∧ 0 < (pressing .next).turn.keys.length ∧ (pressing .next).rawKey 0 = true
      ∧ (pressing .next).routeOf 0 = .next ∧ (pressing .next).turn.engine ≠ .idle ∧ (pressing .next).turn.queue.length < 8
      ∧ (pressing .noticeOnly).routeOf 0 = .noticeOnly ∧ (pressing .noticeOnly).Settled
      ∧ ({ pressing .next with pins := base.pins } : State).rawKey 0 = false := by decide +kernel

theorem witness_KeyRoutesEdgesAndRepeats_repeat :
    let s := { pressing .next with turn := { (pressing .next).turn with
      keys := { KeyInput.start true 0 with hold := .held, holdTimer := some 700 } :: base.turn.keys.drop 1 } }
    let again := { s with turn := { s.turn with queue := List.replicate 7 ⟨.repeated, .step .plus, .auto, none⟩ } }
    s.Quiet ∧ s.turn.engine ≠ .idle ∧ s.bs.ap = .on ∧ (s.key 0).holdTimer = some 700 ∧ s.turn.queue.length < 8
      ∧ (∀ e ∈ s.turn.queue, e.origin ≠ .repeated) ∧ again.turn.queue.length < 8
      ∧ (∃ e ∈ again.turn.queue, e.origin = .repeated)
      ∧ 8 ≤ (List.replicate 8 (⟨.portA, .step .plus, .auto, none⟩ : Entry)).length
      ∧ ({ s.key 0 with repeatTimer := some 900 } : KeyInput).repeatTimer = some 900 := by decide +kernel

theorem witness_KeyEdgeAccepted_light :
    let s := pressing .light
    let dark := { s with light := { s.light with fading := true } }
    (s.key 0).debounce = some 20 ∧ s.Settled ∧ s.bs.power = .run ∧ s.bs.ap = .on ∧ s.rawKey 0 = true ∧ s.routeOf 0 = .light
      ∧ s.light.fading = false ∧ dark.Settled ∧ dark.routeOf 0 = .light ∧ dark.light.fading = true := by decide +kernel

theorem witness_KeyEdgeAccepted_idle :
    let full := { pressing .prev with turn := { (pressing .prev).turn with
      queue := List.replicate 8 ⟨.portA, .step .plus, .auto, none⟩ } }
    let idle := { pressing .next with turn := { (pressing .next).turn with engine := .idle } }
    let showing : Nat → State := fun p => { withSlot 3 { readyPage .streamed with edge := some .first }
        (withSlot 0 { readyPage .pinned with key := some ⟨12, p⟩, edge := some .last } idle) with
      panel := { base.panel with shown := some 0, shownKey := some ⟨12, p⟩, wave := .valid } }
    let plain := withSlot 0 (readyPage .pinned) (showing 342)
    full.Settled ∧ 8 ≤ full.turn.queue.length ∧ full.routeOf 0 = .prev ∧ idle.Settled ∧ idle.turn.engine = .idle
      ∧ idle.turn.queue = [] ∧ idle.bs.battery ≠ .critical ∧ idle.panel.shownKey = none
      ∧ ({ idle with bs := { idle.bs with battery := .critical } } : State).Settled
      ∧ (showing 341).Settled ∧ ((showing 341).slot 0).edge = some .last ∧ (showing 341).panel.shown = some 0
      ∧ plain.Settled ∧ (plain.slot 0).edge ≠ some .last ∧ 343 = min 16777215 (342 + 1)
      ∧ plain.slotOfKey ⟨12, 343⟩ = none ∧ min 16777215 (16777215 + 1) = 16777215
      ∧ (withSlot 3 { readyPage .streamed with key := some ⟨12, 343⟩ } plain).slotOfKey ⟨12, 343⟩ = some 3
      ∧ (withSlot 3 { readyPage .streamed with key := some ⟨12, 343⟩ } plain).Settled
      ∧ plain.panel.wave = .valid ∧ plain.staging.watch = none := by decide +kernel

theorem witness_TouchAndMissWaitRaise :
    let s := { base with turn := { base.turn with engine := .waitingPage, miss := some ⟨⟨12, 342⟩, .auto, .portA, none, 0, 10000⟩ } }
    s.turn.miss.isSome = true ∧ s.bs.ap = .on ∧ s.Quiet ∧ s.turn.queue = [] ∧ base.bs.power ≠ .deep
      ∧ base.bs.power ≠ .depleted ∧ ({ base.bs with power := .deep } : Controller).power = .deep := by decide +kernel

theorem witness_WaveformStoreIsWrittenAndCommitted :
    base.Ready .a ∧ 126976 + 4096 ≤ 131072 ∧ base.panel.update = none ∧ (updating planned base).Ready .a
      ∧ (updating planned base).panel.update.isSome = true ∧ ¬(126977 + 4096 ≤ 131072) ∧ base.panel.wave ≠ .valid := by decide +kernel

/-- 24 frame counts of 1, and nothing else, at the head of the waveform store. -/
def oneFrame : Memory := (List.range 24).map (fun k => ⟨8257536 + k, 1#8⟩)

/-- A byte past every listed address reads 0. -/
theorem read_past : ∀ (m : Memory) (a : Nat), (∀ c ∈ m, c.1 < a) → Memory.read m a = 0
  | [], _, _ => rfl
  | c :: m, a, h => by
    have h1 := h c (by simp)
    have h2 := read_past m a (fun x hx => h x (by simp [hx]))
    unfold Memory.read
    grind

/-- R74: a store of frame counts of 1 and drives of 0 passes the commit check. -/
theorem test_one_frame_store_is_valid : oneFrame.checkWaves = none := by
  have hd : ∀ w f t k, oneFrame.driveCode w f t k = 0 := by
    intro w f t k
    have : Memory.read oneFrame (504 * 16384 + (1024 + 4096 * w + ((f * 16 + t) * 64 + k) / 4)) = 0 :=
      read_past _ _ (by
        intro c hc
        simp only [oneFrame, List.mem_map, List.mem_range] at hc
        obtain ⟨j, hj, rfl⟩ := hc
        simp only
        omega)
    simp [Memory.driveCode, Memory.waveByte, this]
  have hf : ∀ w < 24, oneFrame.frameCount w = 1 := by decide +kernel
  have hw : ∀ w < 24, oneFrame.waveFault w = none := by
    intro w hw
    simp [Memory.waveFault, hf w hw, Memory.firstBadDrive, hd, inRange]
  simp only [Memory.checkWaves, List.findSome?_eq_none_iff, Option.map_eq_none_iff]
  intro m _ b hb
  apply hw
  have := List.mem_range.mp hb
  cases m <;> simp [waveNumber, modeNumber] <;> omega

theorem witness_WaveformStoreIsWrittenAndCommitted_end :
    (withWorkA .waveformCommit busyBase).portA.held = none
      ∧ (withWorkA .waveformCommit busyBase).pool.mem.checkWaves = some ⟨.full, 0, .frameCount⟩
      ∧ oneFrame.checkWaves = none :=
  ⟨by decide +kernel, by decide +kernel, test_one_frame_store_is_valid⟩

/-- A store whose first failure is a frame count of 64, at GREY band 3. -/
theorem witness_WaveformStoreIsWrittenAndCommitted_order :
    let m : Memory := (List.range 24).map (fun k => ⟨8257536 + k, if k = 11 then 64#8 else 1#8⟩)
    11 = 8 + 3 ∧ ¬(1 ≤ m.frameCount 11 ∧ m.frameCount 11 ≤ 63) ∧ m.waveFault 11 = some .frameCount ∧ m.frameCount 10 = 1 := by
  decide +kernel

theorem witness_TemperatureReadChoosesBand :
    let s := updating planned base
    s.panel.update = some planned ∧ planned.phase = .planning ∧ planned.tempRead = false ∧ s.bs.ap = .on
      ∧ s.panel.lastGood = none ∧ ({ s.panel with lastGood := some 69 } : PanelDrive).lastGood = some 69 := by decide +kernel

/-- The planning of a FULL update whose temperature read has ended. -/
def readDone : Update := { planned with tempRead := true, band := some 3 }

/-- The planning of a GREY update from slot 0 to slot 0, EXACT, with its images read. -/
def silent : State :=
  { updating { readDone with mode := .grey } (withSlot 0 (readyPage .pinned) base) with
    panel := { (updating { readDone with mode := .grey } base).panel with shown := some 0, fidelity := .exact }
    pool := { base.pool with feed := ⟨30, 30, 256, true, false⟩ } }

theorem witness_PlanningEndGoesToRailsOrEnds :
    let s := updating readDone base
    let low := { s with params := { s.params with ceilingMaxMW := 500 } }
    let on : Rail → State := fun r => { s with panel := { s.panel with rail := r } }
    s.panel.update = some readDone ∧ readDone.phase = .planning ∧ readDone.tempRead = true ∧ s.feedLeft = false ∧ s.Quiet
      ∧ s.bs.ap = .on ∧ s.NoWaits ∧ s.turn.queue = []
      ∧ s.turn.turn = some ⟨⟨12, 342⟩, .auto, .full, .portA, none⟩ ∧ s.panel.rail = .off ∧ readDone.mode = .full
      ∧ (s.planOf readDone).demand = 680 ∧ 680 ≤ s.params.ceilingMaxMW - s.params.reserveMW
      ∧ s.head.ap.grant + s.head.radio.grant + max 1 s.params.riseMW + min s.head.light.demand s.params.lightFloorMW ≤ s.head.ceiling
      ∧ ({ s.head with ceiling := 899 } : Headroom).ceiling < s.head.ap.grant + s.head.radio.grant + max 1 s.params.riseMW
      ∧ low.feedLeft = false ∧ 0 < low.params.railHoldMs
      ∧ low.params.ceilingMaxMW - low.params.reserveMW < (low.planOf readDone).demand
      ∧ (on .hot).panel.rail = .hot ∧ (on .hot).feedLeft = false ∧ ((on .hot).planOf readDone).demand = 680
      ∧ s.head.ap.grant + s.head.radio.grant + 680 + min s.head.light.demand s.params.lightFloorMW ≤ s.head.ceiling
      ∧ ({ s.head with ceiling := 1459 } : Headroom).ceiling < s.head.ap.grant + s.head.radio.grant + 680
      ∧ (on .falling).feedLeft = false ∧ (on .rising).feedLeft = false := by decide +kernel

theorem witness_PlanningEndGoesToRailsOrEnds_silent :
    silent.feedLeft = false ∧ silent.Quiet ∧ (silent.planOf { readDone with mode := .grey }).changed = 0
      ∧ silent.NoWaits ∧ silent.bs.ap = .on ∧ silent.turn.queue = [] ∧ (silent.slot 0).key = some ⟨12, 342⟩
      ∧ 0 < silent.params.railHoldMs := by decide +kernel

/-- An update demand of 680 mW below a PANEL grant of 900 mW, with an AP power-up of 700 mW waiting. -/
def lowering (ceiling : Nat) : State :=
  let s := updating readDone base
  { s with
    panel := { s.panel with rail := .hot }
    head := { s.head with ceiling := ceiling, ap := ⟨700, 0⟩, panel := ⟨900, 900⟩, apWait := some .judged }
    bs := { s.bs with ap := .requested, power := .doze } }

theorem witness_PlanningEndGoesToRailsOrEnds_makesRoom :
    let s := lowering 1500
    s.panel.update = some readDone ∧ s.feedLeft = false ∧ s.Quiet ∧ s.head.alarm = none ∧ s.head.panelWait = none
      ∧ s.head.parked = none ∧ s.head.apWait = some .judged ∧ s.head.ap.demand = s.params.apMW ∧ s.panel.rail = .hot
      ∧ readDone.mode = .full ∧ (s.planOf readDone).demand = 680 ∧ 680 ≤ s.params.ceilingMaxMW - s.params.reserveMW
      ∧ 680 < s.head.panel.grant
      ∧ s.head.ap.grant + s.head.radio.grant + 680 + min s.head.light.demand s.params.lightFloorMW ≤ s.head.ceiling
      ∧ 680 + s.head.radio.grant + s.params.apMW ≤ s.head.ceiling
      ∧ (lowering 1459).head.ceiling < 680 + s.head.radio.grant + s.params.apMW := by decide +kernel

/-- R117: the lowered PANEL grant lets the waiting AP power-up through, or does not. -/
theorem test_lowered_panel_grant_powers_ap :
    (after .planningEnd (lowering 1500)).bs.ap = .on ∧ (after .planningEnd (lowering 1459)).bs.ap = .requested := by decide +kernel

/-- The planning of a GREY update from a white row of 1,200 pixels in slot 0 to a black one in slot 1. -/
def comparing : State :=
  let page (k : Nat) : Slot := { readyPage .pinned with key := some ⟨12, k⟩, extents := [k], declared := 4 }
  { withSlot 1 (page 1) (withSlot 0 (page 0) base) with
    panel := { base.panel with shown := some 0, fidelity := .exact, band := some 3 }
    pool := { base.pool with mem :=
      [⟨0, 63#8⟩, ⟨1, 255#8⟩, ⟨2, 60#8⟩, ⟨3, 175#8⟩, ⟨16384, 3#8⟩, ⟨16385, 255#8⟩, ⟨16387, 175#8⟩, ⟨8257547, 18#8⟩] } }

theorem witness_PlanningEndGoesToRailsOrEnds_compared :
    let u := { planned with mode := .grey, target := 1 }
    u.mode ≠ .full ∧ comparing.panel.shown = some 0 ∧ comparing.panel.band = some 3 ∧ (comparing.planOf u).changed = 1200
      ∧ (comparing.planOf u).changed ≠ 0 ∧ (comparing.planOf u).frames = 18 := by decide +kernel

theorem witness_PlanningEndGoesToRailsOrEnds_noHold :
    let unheld : State → State := fun s =>
      { s with params := { s.params with railHoldMs := 0 }, panel := { s.panel with rail := .hot } }
    let s := updating readDone base
    let low := unheld { s with params := { s.params with ceilingMaxMW := 500 } }
    let same := unheld silent
    low.panel.update = some readDone ∧ low.panel.rail = .hot ∧ low.params.railHoldMs = 0 ∧ low.feedLeft = false
      ∧ low.Quiet ∧ low.NoWaits ∧ low.bs.ap = .on ∧ low.turn.queue = []
      ∧ low.turn.turn = some ⟨⟨12, 342⟩, .auto, .full, .portA, none⟩
      ∧ low.params.ceilingMaxMW - low.params.reserveMW < (low.planOf readDone).demand
      ∧ same.panel.rail = .hot ∧ same.feedLeft = false ∧ same.Quiet ∧ same.NoWaits ∧ (same.slot 0).key = some ⟨12, 342⟩
      ∧ (same.planOf { readDone with mode := .grey }).changed = 0 := by decide +kernel

/-- The rails hot, held by nobody, with the PANEL grant at 15. -/
def hot : State :=
  { base with panel := { base.panel with rail := .hot, holdTimer := some 300 }, head := { base.head with panel := ⟨15, 15⟩ } }

/-- An update driven in frame `k` of `n`. -/
def driven (k n : Nat) (stop : Bool) : Update :=
  { readDone with phase := .driving, plan := some ⟨n, 0, 1599, 1920000, 680, 12 * n⟩, frame := k, frameTimer := some 12, stopping := stop }

/-- The waveform entries of a frame: 256 bytes of the store, in extents of the store. -/
theorem witness_ArbiterGrantsAndBursts_waveform :
    let s := { updating (driven 16 18 false) hot with pool := { base.pool with feed := Feed.fresh } }
    s.panel.update = some (driven 16 18 false) ∧ s.pool.mode = .active ∧ s.feedRemaining .waveform = 256
      ∧ (driven 16 18 false).band = some 3
      ∧ waveExtents[(1024 + 4096 * waveNumber .full 3 + 16 * s.pool.feed.waveform + 16 / 4) / 16384]? = some 504 := by
  decide +kernel

theorem witness_RailsFollowTheirTimers :
    let rising := { base with panel := { base.panel with rail := .rising, riseTimer := some 6 }
                              head := { base.head with panel := ⟨120, 120⟩ } }
    let u := { driven 0 18 false with phase := .rising, frameTimer := none }
    let mid := { updating u rising with bs := base.bs }
    let waiting := updating { u with phase := .riseWait } { base with panel := { base.panel with waitTimer := some 3000 } }
    rising.Quiet ∧ rising.NoTake ∧ rising.panel.riseTimer = some 6 ∧ rising.panel.update = none ∧ 0 < rising.params.railHoldMs
      ∧ rising.NoWaits ∧ mid.Quiet ∧ mid.NoTake ∧ mid.panel.riseTimer = some 6 ∧ mid.panel.update = some u ∧ u.phase = .rising
      ∧ mid.head.ap.grant + mid.head.radio.grant + 680 + min mid.head.light.demand mid.params.lightFloorMW ≤ mid.head.ceiling
      ∧ hot.Quiet ∧ hot.NoTake ∧ hot.NoWaits ∧ hot.panel.holdTimer = some 300
      ∧ ({ hot with panel := { hot.panel with rail := .falling, fallTimer := some 4 } } : State).NoWaits
      ∧ waiting.panel.waitTimer = some 3000 ∧ waiting.turn.turn.isSome = true ∧ waiting.bs.ap = .on ∧ waiting.turn.queue = []
      ∧ waiting.panel.rail = .off ∧ waiting.NoWaits ∧ waiting.head.alarm = none ∧ waiting.head.apWait = none
      ∧ waiting.head.parked = none ∧ u.plan = some ⟨18, 0, 1599, 1920000, 680, 216⟩ ∧ mid.NoWaits
      ∧ waiting.Quiet ∧ waiting.NoTake := by decide +kernel

theorem witness_DriveFramesRunToTheirEnd :
    let a := updating (driven 16 18 false) hot
    let b := updating (driven 17 18 false) hot
    let c := { updating (driven 3 18 true) hot with head := { hot.head with alarm := some .voltage } }
    a.panel.update = some (driven 16 18 false) ∧ a.Quiet ∧ a.NoTake ∧ 16 + 1 < 18 ∧ 18 ≤ 17 + 1 ∧ b.Quiet ∧ b.NoWaits
      ∧ b.turn.turn = some ⟨⟨12, 342⟩, .auto, .full, .portA, none⟩ ∧ b.turn.queue = [] ∧ 0 < b.params.railHoldMs
      ∧ b.bs.ap = .on ∧ ((withSlot 0 (readyPage .pinned) b).slot 0).key = some ⟨12, 342⟩
      ∧ c.Quiet ∧ c.head.alarm = some .voltage ∧ c.bs.ap = .on := by decide +kernel

/-- A pixel of a frame whose drive is listed: FULL band 3, from-level 0 to to-level 15, frame 2. -/
theorem witness_DriveFramesRunToTheirEnd_pixels :
    let page : Slot := { readyPage .pinned with declared := 4 }
    let s := withSlot 0 page (updating (driven 2 18 false) hot)
    let t := { s with
      panel := { s.panel with shown := some 1, fidelity := .exact }
      pool := { s.pool with mem := [⟨0, 63#8⟩, ⟨1, 255#8⟩, ⟨2, 60#8⟩, ⟨3, 175#8⟩, ⟨8271088, 16#8⟩] } }
    t.panel.update = some (driven 2 18 false) ∧ (driven 2 18 false).plan = some ⟨18, 0, 1599, 1920000, 680, 216⟩
      ∧ (driven 2 18 false).band = some 3 ∧ ((imageRows (t.imageOf 0)).getD 0 []).getD 1199 0 = 15
      ∧ t.pool.mem.driveCode 3 0 15 2 = 1 ∧ t.pixelDrive 0 1199 = .toBlack ∧ planned.phase ≠ .driving := by decide +kernel

/-- The light on its way from 148 to 150. -/
def ramping : State := { base with light := { base.light with target := 150, applied := 148, rampTimer := some 8 } }

theorem witness_ParametersAreSetAndRead_actsAtOnce :
    let s := { updating { planned with mode := .grey } base with panel := {
      (updating { planned with mode := .grey } base).panel with ghost := 6 } }
    let full := updating planned base
    let watching := { base with staging := { base.staging with watch := some 4194304 } }
    s.Ready .a ∧ paramRow 9 = some ⟨1, 64, 6⟩ ∧ s.panel.update = some { planned with mode := .grey }
      ∧ s.turn.turn.isSome = true ∧ planned.phase ≠ .driving ∧ 6 ≤ s.panel.ghost
      ∧ full.Ready .a ∧ planned.mode = .full ∧ ({ s.panel with ghost := 5 } : PanelDrive).ghost < 6
      ∧ base.Ready .a ∧ paramRow 29 = some ⟨500, 10000, 1500⟩ ∧ 700 < base.bs.q ∧ ¬(1500 < base.bs.q)
      ∧ base.params.get 18 = 16 ∧ base.lightComputes = true ∧ base.NoWaits
      ∧ ({ base with light := { base.light with running := false } } : State).lightComputes = false
      ∧ paramRow 38 = some ⟨0, 128, 16⟩ ∧ base.staging.watch = none ∧ watching.Ready .a ∧ watching.bs.radio = true
      ∧ ({ watching with params := { watching.params with stagingMax := 8 } } : State).space < 4194304 := by decide +kernel

/-- R179: 39 lowers staging_floor, 29 below the charge makes the charge the capacity. -/
theorem test_params_act_at_once :
    (after (.setParam (freshFrame .a) (.fields ⟨39, 8⟩)) base).params.stagingFloor = 8
      ∧ (after (.setParam (freshFrame .a) (.fields ⟨29, 700⟩)) base).bs.q = 700 := by decide +kernel

theorem witness_LightSetAndRampSteps :
    base.Ready .a ∧ base.NoWaits ∧ 255 < 256 ∧ base.light.warmth ≤ 64 ∧ 64 ≠ base.light.warmth
      ∧ base.light.alarmHold = false ∧ base.light.running = true ∧ base.lightComputes = true
      ∧ ({ base with light := { base.light with running := false } } : State).lightComputes = false
      ∧ ramping.lightComputes = true ∧ ramping.light.rampTimer = some 8 ∧ ramping.NoWaits
      ∧ ramping.light.applied < ramping.light.target
      ∧ ({ ramping.light with target := 147 } : LightUnit).target < ramping.light.applied := by decide +kernel

theorem witness_CurveLoadsAndPeriodsTakeBuffer :
    base.Ready .a ∧ base.NoWaits ∧ base.light.curve.length = 17 ∧ (∀ v ∈ base.light.curve, v ≤ 1024)
      ∧ base.light.curve.head? = some 0 ∧ base.light.curve.Pairwise (· ≤ ·) ∧ 1024 < (List.replicate 17 1025).getD 0 0
      ∧ base.light.running = true ∧ base.lightComputes = true ∧ base.Quiet ∧ base.NoTake
      ∧ ({ base.light with buffer := some ⟨200, 120, 16⟩ } : LightUnit).buffer.isSome = true ∧ base.light.buffer = none := by
  decide +kernel

/-- Curves whose first failure is the origin, and the last point. -/
theorem witness_CurveLoadsAndPeriodsTakeBuffer_refused :
    let flat := List.replicate 17 1
    let falls := List.replicate 16 0 ++ [0] |>.set 15 1
    base.Ready .a ∧ flat.length = 17 ∧ (∀ v ∈ flat, v ≤ 1024) ∧ flat.getD 0 0 ≠ 0 ∧ falls.length = 17 ∧ falls.getD 0 0 = 0
      ∧ (∀ v ∈ falls, v ≤ 1024) ∧ falls.getD 16 0 < falls.getD 15 0 ∧ (∀ j < 15, falls.getD j 0 ≤ falls.getD (j + 1) 0) := by
  decide +kernel

/-- R97: the duties of the largest total at a gap of 63 fill the period but for two gaps. -/
theorem witness_CurveLoadsAndPeriodsTakeBuffer_pins :
    64 ≤ 64 ∧ 63 ≤ 63 ∧ 898 ≤ 1024 - 2 * 63 ∧ base.light.running = true
      ∧ ({ base.light with running := false } : LightUnit).running = false := by decide +kernel

/-- A lease of 600 mW, granted at once. -/
def leased : State :=
  { base with head := { base.head with active := some ⟨600, 300, 0, 300, .atOnce⟩, radio := ⟨680, 680⟩ } }

/-- The power alarm for a low voltage, the engine HALTED. -/
def alarmedState : State :=
  { base with
    head := { base.head with alarm := some .voltage, clearTimer := some 2000 }
    turn := { base.turn with engine := .halted }
    light := { base.light with alarmHold := true } }

theorem witness_TxLeaseGrantedParkedOrRefused :
    base.Ready .r ∧ ¬(3001 ≤ 3000) ∧ ¬(10 ≤ 9) ∧ alarmedState.Ready .r ∧ alarmedState.head.alarm.isSome = true
      ∧ base.head.alarm = none ∧ base.params.radioIdleMW + 3000 ≤ base.params.ceilingMaxMW - base.params.reserveMW
      ∧ base.head.ap.grant + base.head.panel.grant + base.head.radio.grant + 3000
          + min base.head.light.demand base.params.lightFloorMW ≤ base.head.ceiling
      ∧ base.head.loads + 3000 + min base.head.light.demand base.params.lightFloorMW ≤ base.head.ceiling
      ∧ base.head.ceiling - 121 < base.head.loads + 3000 + min base.head.light.demand base.params.lightFloorMW
      ∧ base.head.active = none ∧ base.head.apWait = none ∧ base.head.panelWait = none ∧ leased.Ready .r
      ∧ leased.head.active.isSome = true ∧ leased.head.panelWait = none
      ∧ ({ base.params with ceilingMaxMW := 3000 } : Params).ceilingMaxMW - 100 < 80 + 2821 := by decide +kernel

theorem witness_LeaseEndsAtReleaseOrExpiry :
    leased.Ready .r ∧ leased.head.active = some ⟨600, 300, 0, 300, .atOnce⟩ ∧ leased.NoWaits ∧ base.head.active = none
      ∧ base.head.unreleased = none ∧ ({ base.head with unreleased := some .expired } : Headroom).unreleased.isSome = true := by
  decide +kernel

theorem witness_LeaseEndsAtReleaseOrExpiry_revoked :
    let ceilingAt : Nat → Nat → Nat := fun v i =>
      min ((v + i * 180 / 1000 - 3300) * 1000 / 180 * 3300 / 1000) base.params.ceilingMaxMW - base.params.reserveMW
    let both := { leased with head := { leased.head with parked := some ⟨300, 100⟩ } }
    let waits := { base with head := { base.head with parked := some ⟨300, 100⟩ } }
    leased.bs.power ≠ .depleted ∧ leased.head.sampled = true ∧ leased.head.alarm = none
      ∧ leased.head.active = some ⟨600, 300, 0, 300, .atOnce⟩ ∧ ceilingAt 3350 0 < leased.head.loads
      ∧ leased.head.loads ≤ ceilingAt 3299 3000 ∧ 3299 < leased.params.vcutMV ∧ leased.head.parked = none
      ∧ both.head.parked.isSome = true ∧ both.head.loads ≤ ceilingAt 3299 3000
      ∧ waits.head.active = none ∧ waits.head.parked.isSome = true ∧ waits.head.sampled = true := by decide +kernel

theorem witness_TxCancelRemovesParkedLease :
    let parked := { leased with head := { leased.head with parked := some ⟨300, 100⟩ } }
    parked.Ready .r ∧ parked.head.parked.isSome = true ∧ leased.Ready .r ∧ leased.head.parked = none
      ∧ leased.head.active = some ⟨600, 300, 0, 300, .atOnce⟩ ∧ base.head.parked = none ∧ base.head.active = none
      ∧ ({ leased.head with active := some ⟨600, 300, 0, 300, .fromPark⟩ } : Headroom).parked = none := by decide +kernel

theorem witness_PowerAlarmClears :
    alarmedState.head.apWait = none ∧ alarmedState.head.panelWait = none ∧ alarmedState.head.parked = none
      ∧ alarmedState.Quiet ∧ alarmedState.turn.queue = [] ∧ alarmedState.head.alarm.isSome = true ∧ alarmedState.Ready .a
      ∧ alarmedState.head.vcut ≤ alarmedState.head.v ∧ alarmedState.head.loads ≤ alarmedState.head.ceiling
      ∧ alarmedState.head.clearTimer = some 2000
      ∧ ¬(alarmedState.head.vcut ≤ ({ alarmedState.head with v := 3299 } : Headroom).v) := by decide +kernel

/-- DEEP with the wake alarm at the next second, everything off. -/
def deepState : State :=
  { base with
    bs := { base.bs with power := .deep, ap := .off, radio := false, time := 99, alarm := some 100 }
    pool := { base.pool with mode := .selfRefresh }
    head := { base.head with ap := ⟨0, 0⟩, radio := ⟨0, 0⟩ } }

theorem witness_SampleSetsCeilingAndCharge :
    base.bs.power ≠ .depleted ∧ base.Quiet ∧ base.NoTake ∧ base.NoWaits ∧ base.bs.ap = .on ∧ base.bs.battery = .normal
      ∧ base.head.sampled = true ∧ base.params.vcutMV ≤ 3520 ∧ base.head.loads ≤ 4000 - base.params.reserveMW
      ∧ (4000 : Nat) = min ((3520 + 400 * 180 / 1000 - 3300) * 1000 / 180 * 3300 / 1000) 4000
      ∧ (0 : Int) ≤ 750 + Int.tdiv (0 + (-400) * 250) 3600000 ∧ (750 : Int) + Int.tdiv (-100000) 3600000 ≤ 1500
      ∧ 750 * 100 / 1500 = 50 ∧ base.params.lowPct ≤ 50 ∧ 199 * 100 / 1500 < base.params.lowPct
      ∧ 44 * 100 / 1500 < base.params.critPct := by decide +kernel

/-- Samples with the AP OFF, in DOZE and in DEEP, and from LOW and CRITICAL: `Battery.next` at R136's limits. -/
theorem witness_SampleSetsCeilingAndCharge_asleep :
    deepState.bs.power = .deep ∧ deepState.bs.ap = .off ∧ deepState.Quiet ∧ deepState.NoTake ∧ deepState.NoWaits
      ∧ deepState.NoWake .batteryLow ∧ ¬deepState.NoWake .batteryCritical ∧ deepState.bs.depleting = false
      ∧ deepState.bs.resumeKey = none ∧ deepState.pool.mode = .selfRefresh
      ∧ deepState.head.panel.grant + deepState.head.radio.grant + deepState.params.apMW ≤ 4000 - deepState.params.reserveMW
      ∧ ({ deepState with bs := { deepState.bs with power := .doze } } : State).NoTake
      ∧ deepState.head.sampled = true ∧ deepState.params.vcutMV ≤ 3520
      ∧ deepState.head.loads ≤ 4000 - deepState.params.reserveMW
      ∧ Battery.next .low base.params 17 4000 false = .normal ∧ Battery.next .low base.params 16 4000 false = .low
      ∧ Battery.next .low base.params 2 4000 false = .critical ∧ Battery.next .critical base.params 5 4000 true = .low
      ∧ Battery.next .critical base.params 17 4000 true = .normal ∧ Battery.next .critical base.params 17 4000 false = .critical
      ∧ Battery.next .critical base.params 4 4000 true = .critical ∧ Battery.next .normal base.params 15 4000 false = .normal
      ∧ Battery.next .normal base.params 14 4000 false = .low ∧ Battery.next .normal base.params 50 0 false = .critical := by
  decide +kernel

theorem witness_LowVoltageSampleRaisesAlarm :
    base.bs.power ≠ .depleted ∧ base.Quiet ∧ base.NoWake .powerAlarm ∧ base.NoWake .batteryLow
      ∧ ¬deepState.NoWake .powerAlarm ∧ deepState.bs.ap = .off ∧ deepState.bs.depleting = false ∧ deepState.bs.power = .deep
      ∧ deepState.bs.resumeKey = none ∧ deepState.pool.mode = .selfRefresh ∧ deepState.head.alarm = none
      ∧ deepState.panel.update = none ∧ deepState.panel.rail = .off ∧ deepState.turn.engine = .idle ∧ base.head.sampled = true ∧ base.head.alarm = none
      ∧ 3299 < base.params.vcutMV ∧ base.panel.update = none ∧ base.panel.rail = .off ∧ base.turn.engine = .idle
      ∧ base.head.active = none ∧ base.head.parked = none := by decide +kernel

/-- R127: at 3,340 mV and rest the ceiling is 632 mW, below the loads of 780. -/
theorem witness_LowVoltageSampleRaisesAlarm_ceiling :
    base.params.vcutMV ≤ 3340 ∧ base.head.loads = 780 ∧ base.NoWake .powerAlarm
      ∧ min ((3340 + 0 * 180 / 1000 - 3300) * 1000 / 180 * 3300 / 1000) base.params.ceilingMaxMW - base.params.reserveMW
        < base.head.loads := by decide +kernel

/-- An update planned under HOT rails, one driven, and a miss wait, as the alarm comes; a queue with room and a full one. -/
theorem witness_LowVoltageSampleRaisesAlarm_turn :
    let held := updating planned hot
    let waits := updating { planned with phase := .driveWait } hot
    let halfway := { waits with turn := { waits.turn with engine := .waitingPower } }
    let drives := updating (driven 3 18 false) { hot with panel := { hot.panel with rail := .driving } }
    let misses := missing ⟨9, 9⟩ base
    let full := List.replicate 8 (⟨.portA, .step .plus, .auto, none⟩ : Entry)
    held.bs.ap = .on ∧ held.Quiet ∧ held.head.sampled = true ∧ held.head.alarm = none ∧ held.head.active = none
      ∧ held.head.parked = none ∧ held.turn.engine = .updating ∧ planned.phase ≠ .driving ∧ held.panel.rail = .hot
      ∧ held.turn.turn = some ⟨⟨12, 342⟩, .auto, .full, .portA, none⟩ ∧ held.turn.queue.length < 8
      ∧ halfway.turn.engine = .waitingPower ∧ halfway.panel.update.isSome = true
      ∧ drives.panel.update = some (driven 3 18 false) ∧ (driven 3 18 false).phase = .driving ∧ drives.turn.engine = .updating
      ∧ drives.Quiet ∧ misses.panel.update = none ∧ misses.panel.rail = .off ∧ misses.turn.engine = .waitingPage
      ∧ misses.head.panel.demand = misses.head.panel.grant ∧ misses.turn.miss.isSome = true
      ∧ 8 ≤ full.length ∧ full.getLast? = some ⟨.portA, .step .plus, .auto, none⟩ ∧ full.dropLast.length = 7 := by decide +kernel

theorem witness_PowerOnAndRestartBegin :
    Params.defaults.vcutMV ≤ 3520 ∧ Params.defaults.apMW ≤ 4000 - Params.defaults.reserveMW
      ∧ (4000 : Nat) = min ((3520 + 400 * Params.defaults.resrMOhm / 1000 - Params.defaults.vcutMV) * 1000
          / Params.defaults.resrMOhm * Params.defaults.vcutMV / 1000) Params.defaults.ceilingMaxMW
      ∧ ({ base.bs with restartTimer := some 4000 } : Controller).restartTimer = some 4000 ∧ 3499 < base.params.restartMV
      ∧ base.params.restartMV ≤ 3500 ∧ base.pins = ⟨[false, false, false, false], false, false, true⟩ := by decide +kernel

theorem witness_TimeAndAlarm :
    let s := { base with bs := { base.bs with time := 99, alarm := some 100 } }
    s.Ready .a ∧ s.bs.alarm = some 100 ∧ 100 ≤ 100 ∧ 99 < 100 ∧ s.bs.time < 100 ∧ 99 ≤ s.bs.time
      ∧ 100 = (if s.bs.time = 4294967295 then 0 else s.bs.time + 1) ∧ s.bs.power ≠ .depleted ∧ s.Quiet ∧ s.NoTake
      ∧ s.bs.power ≠ .deep ∧ s.bs.ap = .on ∧ base.bs.alarm ≠ some 1
      ∧ 0 = (if ({ base.bs with time := 4294967295 } : Controller).time = 4294967295 then 0 else 1) := by decide +kernel

theorem witness_TimeAndAlarm_deep :
    deepState.bs.power = .deep ∧ deepState.Quiet ∧ deepState.NoTake ∧ deepState.bs.battery = .normal
      ∧ deepState.bs.ap = .off ∧ deepState.bs.radio = false ∧ deepState.bs.resumeKey = none
      ∧ deepState.pool.mode = .selfRefresh ∧ deepState.head.alarm = none
      ∧ deepState.head.ap.grant + deepState.head.panel.grant + deepState.params.radioIdleMW ≤ deepState.head.ceiling
      ∧ ¬deepState.NoWake .wakeAlarm ∧ deepState.bs.depleting = false
      ∧ deepState.head.panel.grant + deepState.params.radioIdleMW + deepState.params.apMW ≤ deepState.head.ceiling
      ∧ ({ deepState with params := { deepState.params with wakeThreshold := 4 } } : State).NoWake .wakeAlarm
      ∧ ({ deepState.bs with battery := .low } : Controller).battery ≠ .normal := by decide +kernel

theorem witness_RadioDomainFollowsRequests :
    let off := { base with bs := { base.bs with radio := false } }
    let tight := { off with head := { base.head with ceiling := 779 } }
    base.Quiet ∧ base.NoTake ∧ base.NoWaits ∧ base.Ready .a ∧ base.bs.radio = true ∧ base.Ready .r ∧ off.Ready .a
      ∧ off.Quiet ∧ off.bs.radio = false
      ∧ off.head.ap.grant + off.head.panel.grant + off.params.radioIdleMW ≤ off.head.ceiling ∧ tight.Ready .a
      ∧ tight.head.ceiling < tight.head.ap.grant + tight.head.panel.grant + tight.params.radioIdleMW ∧ tight.bs.ap = .on := by
  decide +kernel

/-- AP_STOPPING with its timer at 10,000. -/
def stopping : State :=
  { base with bs := { base.bs with power := .apStopping, sleepTarget := some .doze, apOffTimer := some 10000 } }

theorem witness_SleepStopsTheAp :
    base.Ready .a ∧ base.bs.power = .run ∧ stopping.Ready .a ∧ stopping.bs.power = .apStopping ∧ stopping.Quiet
      ∧ stopping.NoTake ∧ stopping.NoWaits ∧ (∀ n ∈ stopping.notices.ap, n.pending = false)
      ∧ stopping.bs.heldWake = false ∧ stopping.bs.sleepTarget ≠ some .deep ∧ stopping.bs.apOffTimer = some 10000 := by decide +kernel

/-- DOZE with the AP off and its idle timer at 600,000. -/
def dozing : State :=
  { base with bs := { base.bs with power := .doze, ap := .off, idleTimer := some 600000 } }

theorem witness_DeepEntryGoesStageByStage :
    let streaming := { dozing with staging := { dozing.staging with stream1 := some ⟨.open, 7, 0, false, none, 0, none⟩ } }
    let deferring := { streaming with bs := { dozing.bs with idleTimer := none, deferTimer := some 1800000 } }
    dozing.NoTake ∧ dozing.bs.stage = none ∧ dozing.staging.watch = none ∧ dozing.slots.rest = none
      ∧ dozing.bs.radio = true ∧ dozing.bs.idleTimer = some 600000 ∧ dozing.bs.ap = .off ∧ dozing.bs.depleting = false
      ∧ dozing.bs.deferTimer = none ∧ dozing.staging.anyOpen = false ∧ 0 < dozing.params.deepDeferMin
      ∧ streaming.NoTake ∧ streaming.staging.anyOpen = true ∧ deferring.NoTake ∧ deferring.bs.stage = none
      ∧ deferring.bs.deferTimer = some 1800000
      ∧ ({ dozing.bs with ap := .requested } : Controller).ap = .requested := by decide +kernel

theorem witness_DeepEntryGoesStageByStage_end :
    let fading := { dozing with bs := { dozing.bs with power := .enteringDeep, idleTimer := none, stage := some .fade, radioTimer := some 1000 } }
    let lit := { fading with light := { fading.light with applied := 3, fading := true } }
    let asked := { fading with pool := { fading.pool with mode := .entering } }
    fading.bs.radioTimer = some 1000 ∧ fading.bs.stage = some .fade ∧ fading.NoTake ∧ fading.bs.deferTimer = none
      ∧ fading.staging.watch = none ∧ fading.fadeComplete = true ∧ fading.bs.radio = true ∧ fading.NoWaits
      ∧ fading.panel.rail = .off ∧ fading.turn.engine = .idle ∧ lit.fadeComplete = false ∧ lit.NoTake
      ∧ asked.pool.mode = .entering ∧ asked.bs.heldWake = false ∧ base.pool.mode ≠ .entering ∧ base.pool.mode ≠ .leaving := by
  decide +kernel

/-- Slot 3 named for the image of REST or EMPTY, READY or not, and no raise that would wake. -/
def named (ready : Bool) (s : State) : State :=
  let t := withSlot 3 { readyPage .pinned with state := if ready then .ready else .filling } s
  { t with
    params := { t.params with wakeThreshold := 3 }
    panel := { t.panel with wave := .valid }
    slots := { t.slots with rest := some 3, empty := some 3 } }

theorem witness_DeepEntryGoesStageByStage_rest :
    let s := named true dozing
    let e : Entry := ⟨.sleep, .goto ⟨12, 342⟩, .full, some .rest⟩
    let full := List.replicate 8 (⟨.portA, .step .plus, .auto, none⟩ : Entry)
    let misses := missing ⟨9, 9⟩ s
    s.bs.idleTimer = some 600000 ∧ s.bs.ap = .off ∧ s.bs.depleting = false ∧ s.bs.stage = none ∧ s.bs.deferTimer = none
      ∧ s.staging.anyOpen = false ∧ s.staging.watch = none ∧ s.bs.radio = true ∧ s.slots.rest = some 3
      ∧ (s.slot 3).key = some ⟨12, 342⟩ ∧ s.NoWake .turnOverrun ∧ s.NoWake .turnAbandoned ∧ s.turn.engine = .idle
      ∧ s.turn.queue = [] ∧ e :: s.turn.queue = [e] ∧ 8 ≤ full.length ∧ (e :: full.dropLast).length = 8
      ∧ (updating planned s).turn.engine ≠ .idle ∧ (updating planned s).turn.engine ≠ .waitingPage
      ∧ misses.turn.engine = .waitingPage ∧ misses.turn.miss.isSome = true ∧ misses.NoWake .turnAbandoned
      ∧ (∀ x ∈ full, x.origin ≠ .sleep) ∧ s.panel.shownKey ≠ some ⟨12, 342⟩ ∧ s.slotOfKey ⟨12, 342⟩ = some 3
      ∧ (s.slot 3).state = .ready ∧ s.panel.wave = .valid ∧ ((named false dozing).slot 3).state ≠ .ready
      ∧ (showingPage 342 none s).panel.shownKey = some ⟨12, 342⟩ := by decide +kernel

/-- An update in ENTERING_DEEP or in depletion, its turn an image entry of the purpose. -/
def imaging (p : Purpose) (u : Update) (s : State) : State :=
  let t := withSlot 0 (readyPage .pinned) (updating u (named true s))
  { t with
    bs := { t.bs with power := .enteringDeep, ap := .off, idleTimer := none, stage := some .restImage, depleting := true }
    turn := { t.turn with turn := some ⟨⟨12, 342⟩, .full, .full, .sleep, some p⟩ } }

theorem witness_DeepEntryGoesStageByStage_restEnds :
    let waits := { imaging .rest { planned with phase := .riseWait } base with panel := {
      (imaging .rest { planned with phase := .riseWait } base).panel with waitTimer := some 3000 } }
    let s := imaging .rest (driven 17 18 false) hot
    let c := imaging .rest (driven 3 18 true) { hot with head := { hot.head with alarm := some .voltage } }
    waits.turn.turn.isSome = true ∧ waits.bs.power = .enteringDeep ∧ waits.bs.stage = some .restImage
      ∧ waits.bs.deferTimer = none ∧ waits.staging.watch = none ∧ waits.bs.radio = true ∧ waits.turn.queue = []
      ∧ waits.panel.waitTimer = some 3000 ∧ waits.panel.rail = .off ∧ waits.head.alarm = none ∧ waits.head.apWait = none
      ∧ waits.head.parked = none ∧ s.panel.update = some (driven 17 18 false) ∧ (driven 17 18 false).frameTimer = some 12
      ∧ (driven 17 18 false).plan.map Plan.frames = some 18 ∧ 18 ≤ 17 + 1 ∧ s.NoWake .updateDone ∧ s.NoWaits
      ∧ 0 < s.params.railHoldMs ∧ (s.slot 0).key = some ⟨12, 342⟩ ∧ s.bs.radio = true
      ∧ c.panel.update = some (driven 3 18 true) ∧ c.head.alarm = some .voltage := by decide +kernel

theorem witness_DepletionComesToDepleted_empty :
    let s := named true { base with bs := { base.bs with
      power := .doze, ap := .off, radio := false, battery := .critical, graceTimer := some 60000 } }
    let t := { s with bs := { s.bs with power := .deep }, pool := { s.pool with mode := .selfRefresh } }
    let e := imaging .empty (driven 17 18 false) hot
    let w := imaging .empty { planned with phase := .riseWait } { base with panel := { base.panel with waitTimer := some 3000 } }
    let c := imaging .empty (driven 3 18 true) { hot with head := { hot.head with alarm := some .voltage } }
    s.bs.graceTimer = some 60000 ∧ s.bs.charger = .absent ∧ s.bs.ap = .off ∧ s.bs.radio = false ∧ s.bs.depleting = false
      ∧ s.staging.watch = none ∧ s.slots.empty = some 3 ∧ (s.slot 3).key = some ⟨12, 342⟩ ∧ s.NoWake .turnOverrun
      ∧ s.NoWake .turnAbandoned ∧ s.turn.engine = .idle ∧ s.turn.queue.length < 8 ∧ s.slotOfKey ⟨12, 342⟩ = some 3
      ∧ (s.slot 3).state = .ready ∧ s.panel.wave = .valid ∧ s.panel.shownKey ≠ some ⟨12, 342⟩
      ∧ (missing ⟨9, 9⟩ s).turn.engine = .waitingPage ∧ t.bs.power = .deep ∧ t.pool.mode = .selfRefresh
      ∧ e.bs.depleting = true ∧ e.turn.turn.isSome = true ∧ e.panel.update = some (driven 17 18 false)
      ∧ e.NoWake .updateDone ∧ e.NoWaits ∧ (e.slot 0).key = some ⟨12, 342⟩ ∧ w.panel.waitTimer = some 3000
      ∧ w.panel.rail = .off ∧ w.NoWaits ∧ c.panel.update = some (driven 3 18 true) ∧ c.head.alarm = some .voltage := by
  decide +kernel

theorem witness_ChargerLinesSetStateAndRestart :
    let plugged := { base with pins := { base.pins with chgPresent := true } }
    base.pins.lineAt .present = false ∧ plugged.pins.chgDone = false ∧ plugged.pins.chgPresent = true
      ∧ plugged.bs.power ≠ .depleted ∧ plugged.bs.ap = .on ∧ plugged.Quiet ∧ plugged.NoTake ∧ base.pins.chgPresent ≠ true
      ∧ ({ base.bs with power := .depleted } : Controller).power = .depleted := by decide +kernel

theorem witness_DepletionComesToDepleted :
    let s := { base with bs := { base.bs with ap := .off, radio := false, battery := .critical, graceTimer := some 60000 } }
    s.bs.graceTimer = some 60000 ∧ s.bs.charger = .absent ∧ s.bs.ap = .off ∧ s.bs.radio = false ∧ s.bs.depleting = false
      ∧ s.slots.empty = none ∧ ({ s.bs with charger := .charging } : Controller).charger ≠ .absent
      ∧ ({ s.bs with depletionTimer := some 5000 } : Controller).depletionTimer = some 5000 := by decide +kernel

theorem witness_OpenStreamTakesLowerFreeEntry :
    let one := { base with staging := { base.staging with stream1 := some ⟨.open, 7, 0, false, none, 0, none⟩ } }
    let two := { one with staging := { one.staging with stream2 := some ⟨.closed, 8, 3, false, none, 9, some .failed⟩ } }
    base.Ready .r ∧ some 0 = (some 0 : Option Nat) ∧ base.staging.stream1 = none ∧ one.Ready .r
      ∧ one.staging.stream1.isSome = true ∧ one.staging.stream2 = none ∧ two.Ready .r ∧ two.staging.stream2.isSome = true
      ∧ none ≠ (some 0 : Option Nat) ∧ alarmedState.Ready .r := by decide +kernel

theorem witness_WakesAreRequestedAndServed_raise :
    base.NoWake .turnMiss ∧ dozing.NoWake .refillWanted ∧ ¬dozing.NoWake .turnMiss ∧ dozing.bs.depleting = false
      ∧ dozing.bs.power = .doze ∧ dozing.bs.ap = .off ∧ dozing.head.alarm = none
      ∧ dozing.head.panel.grant + dozing.head.radio.grant + dozing.params.apMW ≤ dozing.head.ceiling
      ∧ ¬deepState.NoWake .turnMiss ∧ deepState.bs.ap = .off ∧ deepState.bs.power = .deep ∧ deepState.bs.resumeKey = none
      ∧ deepState.pool.mode = .selfRefresh ∧ deepState.head.alarm = none ∧ deepState.bs.depleting = false
      ∧ deepState.head.panel.grant + deepState.head.radio.grant + deepState.params.apMW ≤ deepState.head.ceiling
      ∧ base.bs.power ≠ .deep ∧ base.bs.power ≠ .depleted := by decide +kernel

theorem witness_LeaseEndsAtReleaseOrExpiry_wake :
    let l : Lease := ⟨3200, 300, 0, 300, .atOnce⟩
    let s := { dozing with head := { dozing.head with active := some l, radio := ⟨3280, 3280⟩ } }
    let tight := { dozing with head := { leased.head with ceiling := 779 } }
    let z := (tight.noted .turnMiss (.turnMiss ⟨12, 342⟩)).revoked ⟨600, 300, 0, 300, .atOnce⟩ .ap
    ¬s.NoWake .turnMiss ∧ s.bs.depleting = false ∧ s.bs.power = .doze ∧ s.bs.ap = .off ∧ s.NoWaits
      ∧ s.head.active = some l ∧ s.head.ceiling < s.head.panel.grant + s.head.radio.grant + s.params.apMW
      ∧ s.head.panel.grant + (s.head.radio.grant - l.mW) + s.params.apMW ≤ s.head.ceiling
      ∧ ¬tight.NoWake .turnMiss ∧ tight.NoWaits ∧ tight.head.active = some ⟨600, 300, 0, 300, .atOnce⟩
      ∧ tight.head.ceiling < tight.head.panel.grant + (tight.head.radio.grant - 600) + tight.params.apMW
      ∧ z.NoWake .noHeadroom := by decide +kernel

/-- Key K0, routed POWER, at the end of its debounce in another power state. -/
def waking (s : State) : State :=
  { s with pins := (pressing .power).pins, turn := { (pressing .power).turn with engine := s.turn.engine } }

theorem witness_WakesAreRequestedAndServed_key :
    let stops := waking stopping
    let z := waking dozing
    let requested := { z with bs := { z.bs with ap := .requested } }
    let alarmed := { z with head := { z.head with alarm := some .voltage } }
    let tight := { z with head := { z.head with ceiling := 779 } }
    (stops.key 0).debounce = some 20 ∧ stops.rawKey 0 = true ∧ stops.routeOf 0 = .power
      ∧ stops.bs.depleting = false
      ∧ stops.staging.watch = none ∧ stops.Settled ∧ stops.bs.power = .apStopping
      ∧ (z.key 0).debounce = some 20 ∧ z.rawKey 0 = true ∧ z.routeOf 0 = .power ∧ z.bs.power = .doze ∧ z.bs.stage = none
      ∧ z.NoTake ∧ z.bs.ap = .off ∧ z.head.alarm = none
      ∧ z.head.panel.grant + z.head.radio.grant + z.params.apMW ≤ z.head.ceiling
      ∧ requested.bs.ap = .requested ∧ requested.NoTake ∧ alarmed.head.alarm.isSome = true ∧ alarmed.NoTake
      ∧ tight.head.ceiling < tight.head.panel.grant + tight.head.radio.grant + tight.params.apMW
      ∧ tight.head.active = none ∧ tight.head.panelWait = none ∧ tight.head.parked = none ∧ tight.NoTake
      ∧ (tight.noted .powerKey (.powerKey .doze)).NoWake .noHeadroom := by decide +kernel

theorem witness_WakesAreRequestedAndServed_deep :
    let z := waking deepState
    let resume := { z with bs := { z.bs with resumeKey := some ⟨12, 342⟩ } }
    let halted := { resume with
      turn := { resume.turn with engine := .halted }, head := { resume.head with alarm := some .voltage } }
    let page := { withSlot 3 (readyPage .pinned) resume with panel := { resume.panel with wave := .valid } }
    (z.key 0).debounce = some 20 ∧ z.rawKey 0 = true ∧ z.routeOf 0 = .power ∧ z.bs.depleting = false
      ∧ z.staging.watch = none
      ∧ z.bs.power = .deep ∧ z.bs.ap = .off ∧ z.bs.stage = none ∧ z.pool.mode = .selfRefresh ∧ z.bs.resumeKey = none
      ∧ z.NoTake ∧ z.head.alarm = none
      ∧ z.head.panel.grant + z.head.radio.grant + z.params.apMW ≤ z.head.ceiling
      ∧ halted.bs.resumeKey = some ⟨12, 342⟩ ∧ halted.turn.engine ≠ .idle ∧ halted.turn.queue.length < 8
      ∧ halted.head.alarm.isSome = true ∧ page.bs.resumeKey = some ⟨12, 342⟩ ∧ page.turn.engine = .idle
      ∧ page.turn.queue = [] ∧ page.bs.battery ≠ .critical ∧ page.panel.shownKey ≠ some ⟨12, 342⟩
      ∧ page.slotOfKey ⟨12, 342⟩ = some 3 ∧ (page.slot 3).state = .ready ∧ page.panel.wave = .valid
      ∧ (page.slot 3).fullRefresh = false := by decide +kernel

/-- Stream 1 open with blocks 0 and 1 joined, of a total of 9,000 bytes or of no total, its ring in extents 0 to 15. -/
def streaming (total : Option Nat) (offset : Nat) : State :=
  { base with
    staging := { base.staging with
      stream1 := some ⟨.open, 7001, 2, false, total, 6000, none⟩
      queue := [⟨1, 0, true, false, 3000, ⟨0, 0⟩⟩, ⟨1, 1, false, false, 3000, ⟨0, 3000⟩⟩]
      ring := List.range 16, write := some ⟨15, offset⟩ }
    params := { base.params with stagingMax := 16 } }

theorem witness_PutBlockIsJudgedAndPlaced :
    let s := streaming none 13384
    let st : Stream := ⟨.open, 7001, 2, false, none, 6000, none⟩
    s.Ready .r ∧ s.head.alarm = none ∧ s.staging.stream 1 = some st ∧ st.state = .open ∧ 1 < st.next ∧ st.next < 3
      ∧ st.exhausted = false ∧ (true = true ↔ (2 : Nat) ≠ 0)
      ∧ (false = true ↔ (2 : Nat) = 0) ∧ s.staging.write = some ⟨15, 13384⟩ ∧ s.staging.ring ≠ []
      ∧ 13384 + 3000 ≤ 16384 ∧ s.staging.watch = none ∧ (streaming none 13385).staging.write = some ⟨15, 13385⟩
      ∧ 16384 < 13385 + 3000 ∧ (streaming none 13385).params.stagingMax ≤ (streaming none 13385).staging.ring.length
      ∧ (streaming none 13385).params.stagingFloor ≤ (streaming none 13385).params.stagingMax
      ∧ 9000 < (streaming (some 9000) 13384).staging.bytes + 3001 ∧ 4096 < 4097 ∧ alarmedState.head.alarm.isSome = true
      ∧ base.staging.stream 2 = none ∧ ({ st with exhausted := true } : Stream).exhausted = true := by decide +kernel

theorem witness_PutBlockIsJudgedAndPlaced_first :
    let s := { base with staging := { base.staging with stream1 := some ⟨.open, 7, 0, false, none, 0, none⟩ } }
    s.Ready .r ∧ s.head.alarm = none ∧ s.staging.stream 1 = some ⟨.open, 7, 0, false, none, 0, none⟩
      ∧ (true = true ↔ (0 : Nat) = 0) ∧ s.staging.ring = [] ∧ s.staging.write = none
      ∧ s.pool.free.head? = some 0 ∧ 0 < s.params.stagingMax ∧ s.staging.watch = none := by decide +kernel

theorem witness_PutBlockIsJudgedAndPlaced_grows :
    let room : State → State := fun s =>
      { s with params := { s.params with stagingMax := 17 }, pool := { s.pool with free := [16] } }
    let s := room (streaming (some 9000) 13385)
    let dry := { streaming none 13385 with
      pool := { base.pool with free := [] }, params := { base.params with stagingMax := 96, stagingFloor := 16 } }
    s.Ready .r ∧ s.head.alarm = none ∧ s.staging.stream 1 = some ⟨.open, 7001, 2, false, some 9000, 6000, none⟩
      ∧ 6000 + 3000 ≤ 9000 ∧ (false = true ↔ (2 : Nat) = 0) ∧ s.staging.write = some ⟨15, 13385⟩
      ∧ s.staging.ring = List.range 15 ++ [15] ∧ 15 ∉ List.range 15 ∧ 16384 < 13385 + 3000 ∧ s.pool.free = [16]
      ∧ s.staging.ring.length < s.params.stagingMax ∧ s.staging.watch = none
      ∧ (room (streaming none 16384)).staging.write = some ⟨15, 16384⟩
      ∧ dry.Ready .r ∧ dry.pool.free = [] ∧ dry.params.stagingFloor ≤ dry.staging.ring.length
      ∧ dry.staging.write = some ⟨15, 13385⟩ := by decide +kernel

/-- The write of block 1/2, of 3,000 bytes, at its end. -/
def written (st : StreamState) : State :=
  { streaming none 16384 with
    pool := { base.pool with workR := some ⟨.putBlock, .staging, [15], 16384, 16384, [], [], false⟩ }
    staging := { (streaming none 16384).staging with
      stream1 := some ⟨st, 7001, 2, false, none, 6000, none⟩, writing := some ⟨1, 2, false, false, 3000, ⟨15, 13384⟩⟩ }
    portR := busyBase.portR }

/-- The write of the LAST block of stream 1 at its end. -/
def lastWritten : State :=
  { written .open with staging := { (written .open).staging with writing := some ⟨1, 2, false, true, 3000, ⟨15, 13384⟩⟩ } }

theorem witness_BlockWriteEndJoinsOrGivesUp :
    (written .open).pool.workR = some ⟨.putBlock, .staging, [15], 16384, 16384, [], [], false⟩
      ∧ (written .open).staging.writing = some ⟨1, 2, false, false, 3000, ⟨15, 13384⟩⟩
      ∧ (written .open).staging.stream 1 = some ⟨.open, 7001, 2, false, none, 6000, none⟩ ∧ (written .open).portR.held = none
      ∧ (written .open).Quiet ∧ (written .open).NoTake ∧ (written .open).bs.ap = .on
      ∧ (written .aborted).staging.stream 1 = some ⟨.aborted, 7001, 2, false, none, 6000, none⟩ ∧ (written .aborted).Quiet
      ∧ (written .open).NoTake ∧ (written .aborted).NoTake
      ∧ (lastWritten).staging.writing = some ⟨1, 2, false, true, 3000, ⟨15, 13384⟩⟩ ∧ lastWritten.Quiet
      ∧ lastWritten.staging.stream 1 = some ⟨.open, 7001, 2, false, none, 6000, none⟩ ∧ lastWritten.bs.ap = .on := by
  decide +kernel

/-- R157, R161: the end of a LAST block closes its stream COMPLETE; with blocks queued the ring is as it was. -/
theorem test_last_block_closes :
    (after .putBlockWriteEnd lastWritten).staging.stream1 = some ⟨.closed, 7001, 3, false, none, 9000, some .complete⟩
      ∧ (after .putBlockWriteEnd lastWritten).staging.ring = List.range 16
      ∧ (after .putBlockWriteEnd lastWritten).staging.idleTimer = some 20000 := by decide +kernel

theorem witness_StreamsCloseAndAbort :
    let s := streaming (some 9000) 13384
    let done := streaming (some 6000) 13384
    s.Ready .r ∧ s.Ready .a ∧ s.staging.stream 1 = some ⟨.open, 7001, 2, false, some 9000, 6000, none⟩ ∧ 6000 < 9000
      ∧ done.staging.stream 1 = some ⟨.open, 7001, 2, false, some 6000, 6000, none⟩ ∧ 6000 ≤ 6000 ∧ done.bs.ap = .on
      ∧ done.Quiet ∧ done.NoTake ∧ s.staging.stream 2 = none ∧ ¬(3 = 1 ∨ 3 = 2)
      ∧ (s.staging.queue.filter (fun b => decide (b.stream = 1))).length = 2 := by decide +kernel

theorem witness_DrainTakesOldestBlock :
    let s := { streaming none 13384 with
      pool := { base.pool with workA := some ⟨.drain, .staging, [0], 3000, 3000, [], [], false⟩ } }
    s.Ready .a ∧ base.staging.queue = [] ∧ s.staging.queue.head? = some ⟨1, 0, true, false, 3000, ⟨0, 0⟩⟩ ∧ 0 + 3000 ≤ 16384
      ∧ s.staging.stream 1 = some ⟨.open, 7001, 2, false, none, 6000, none⟩ ∧ s.portA.held = none ∧ s.Quiet ∧ s.NoTake
      ∧ 16384 < 15000 + 3000 ∧ s.staging.nextExtent 0 = some 1 := by
  decide +kernel

/-- The tidying after a removal: both clauses of what is given back, with blocks and with none. -/
theorem witness_StreamsCloseAndAbort_tidy :
    let s := streaming none 13384
    let bare := { s with staging := { s.staging with queue := [] } }
    s.staging.queue ≠ [] ∧ bare.staging.queue = [] ∧ bare.staging.writing = none
      ∧ (bare.tidyStaging).staging.stream1.isSome = true
      ∧ (({ bare with staging := { bare.staging with stream1 := none } } : State).tidyStaging).staging.stream1 = none
      ∧ (({ bare with staging := { bare.staging with stream1 := none } } : State).tidyStaging).staging.stream2 = none := by
  decide +kernel

/-- After a close: with blocks, with none and another stream in the table, and with none at all. -/
theorem witness_StreamsCloseAndAbort_close :
    let s := streaming none 13384
    let bare := { s with staging := { s.staging with queue := [] } }
    let ended := { bare with staging := { bare.staging with stream1 := none } }
    s.staging.queue ≠ [] ∧ bare.staging.queue = [] ∧ bare.staging.writing = none
      ∧ bare.afterClose.staging.stream1.isSome = true
      ∧ ended.staging.writing = none ∧ ended.afterClose.staging.stream1 = none ∧ ended.afterClose.staging.stream2 = none := by
  decide +kernel

/-- R157: a close tests no extent while a block is queued, so those without a byte stay till the next removal. -/
theorem test_close_keeps_the_ring :
    let s := streaming none 13384
    (after (.closeStream (freshFrame .r) (.fields ⟨1, .failed⟩)) s).staging.ring = List.range 16
      ∧ s.tidyStaging.staging.ring = [0, 15] := by decide +kernel

/-- R157: with no block left, the ring keeps the extent of the write position, at offset 0. -/
theorem test_tidy_without_blocks :
    let s := { streaming none 13384 with staging := { (streaming none 13384).staging with queue := [] } }
    s.tidyStaging.staging.ring = [15] ∧ s.tidyStaging.staging.write = some ⟨15, 0⟩ := by decide +kernel

/-- The ring of R165's example: 10 extents, write offset 14,384, no free extent, three READY STREAMED slots with 7
extents. -/
def ringExample : State :=
  { base with
    pool := { base.pool with free := [] }
    staging := { base.staging with ring := List.range 10, write := some ⟨9, 14384⟩, idleTimer := some 20000 }
    slots := { base.slots with slots := base.slots.slots.mapIdx (fun k x => if k < 3 then
      { readyPage .streamed with key := some ⟨1, k⟩, extents := List.range (k + 1 + k / 2 * 1 ) } else x) } }

/-- R165: the space figure of the example. -/
theorem test_space_example : ringExample.space = 100304 := by decide +kernel

theorem witness_SpaceWatchAndIdleTimer :
    ringExample.Ready .r ∧ ringExample.space < 100305 ∧ 100305 ≤ 4194304 ∧ 100304 ≤ ringExample.space ∧ ¬(4194305 ≤ 4194304)
      ∧ ringExample.staging.idleTimer = some 20000 ∧ ringExample.bs.ap = .on ∧ ringExample.Quiet ∧ ringExample.NoTake
      ∧ ringExample.staging.bytes = 0 ∧ 0 < (streaming none 0).staging.bytes := by decide +kernel

/-- TURN_MISS and POWER_ALARM pending, POWER_ALARM at the higher level. -/
def noticed : State :=
  { base with notices := { base.notices with
      ap := (base.notices.ap.modify 1 (fun n => n.raised (.turnMiss ⟨12, 342⟩))).modify 8
        (fun n => n.raised (.powerAlarm .voltage 3299 0))
      rm := [none, some (.leaseGranted 600 300), none, none, some (.powerOffSoon 1000)] } }

theorem witness_TakeNoticeTakesHighestSource :
    noticed.Ready .a ∧ noticed.Ready .r ∧ ¬(21 ≤ 20) ∧ noticed.notices.ap[20 - 1]?.map Notice.pending = some false
      ∧ noticed.notices.ap[2 - 1]?.map Notice.pending = some true
      ∧ (∀ x ∈ base.notices.ap, x.pending = true → x.level = 0) ∧ (∀ x ∈ base.notices.rm, x = none)
      ∧ noticed.notices.ap[8]?.map (fun x => (x.pending, x.level)) = some (true, 7)
      ∧ (∀ j < 20, j ≠ 8 → (noticed.noticeAt j).pending = true → (noticed.noticeAt j).level < 7)
      ∧ noticed.notices.rm = [none] ++ some (.leaseGranted 600 300) :: [none, none, some (.powerOffSoon 1000)]
      ∧ (∀ x ∈ ([none] : List (Option RmDetail)), x = none) := by decide +kernel

theorem witness_NoticeSettingsAndClears :
    base.Ready .a ∧ ¬(21 ≤ 20) ∧ 7 < 8 ∧ (20 ≤ 20 ∧ 20 ≠ 8 ∧ 20 ≠ 9) ∧ ¬([1, 1] : List Nat).Nodup
      ∧ (([20, 1] : List Nat).length ≤ 20 ∧ (∀ n ∈ ([20, 1] : List Nat), 1 ≤ n ∧ n ≤ 20) ∧ ([20, 1] : List Nat).Nodup) := by decide +kernel

/-! ### One step of a few commands, on fields of the result -/

/-- R56: three queued steps forward and one back become one look-up two pages on (12, 342 → 344), by a TURN that arrives
while the engine is busy and a miss wait that then ends. -/
theorem test_run_collapses :
    let s := { base with
      panel := { base.panel with shownKey := some ⟨12, 342⟩, wave := .valid }
      turn := { base.turn with
        engine := .waitingPage, miss := some ⟨⟨9, 9⟩, .auto, .portA, none, 0, 10000⟩
        queue := [⟨.portA, .step .plus, .auto, none⟩, ⟨.key, .step .plus, .auto, none⟩, ⟨.key, .step .minus, .auto, none⟩,
          ⟨.portA, .step .plus, .auto, none⟩] } }
    (after .missWaitExpiry s).turn.miss.map Miss.key = some ⟨12, 344⟩ ∧ (after .missWaitExpiry s).turn.queue = [] := by decide +kernel

/-- R27: OPEN_SLOT in a full table of STREAMED pages takes the one used longest ago. -/
theorem test_eviction_takes_oldest :
    (after (.openSlot (freshFrame .a) (.fields ⟨⟨1, 1⟩, .streamed, 30, false, none⟩)) aged).slots.slots.map Slot.key
      = aged.slots.slots.mapIdx (fun k x => if k = 7 then some ⟨1, 1⟩ else x.key) := by decide +kernel

/-- R178, R182: IDENTIFY over the wire of Port R. -/
theorem test_step_identify :
    (after (decodeWindow .r true [0xC3#8, 1#8, 0#8, 0#8]) base).portR.answer = some ⟨.ok, .identify 420 1 512 24⟩ := by decide +kernel

/-- R175: a held frame of a released window is taken while a new window receives, whose bytes stay. -/
theorem test_step_taking_keeps_receipt :
    let s := { streaming none 13384 with
      pool := { base.pool with workA := some ⟨.drain, .staging, [0], 3000, 3000, [], [], false⟩ }
      portA := { PortUnit.reset with
        state := .receiving, buffer := [0xC3#8, 2#8], busy := some false, held := some ⟨.request .identify, false⟩ } }
    (after .drainEnd s).portA.buffer = [0xC3#8, 2#8] ∧ (after .drainEnd s).portA.state = .receiving
      ∧ (after .drainEnd s).portA.held = none := by decide +kernel

/-- R146, R175: a frame on Port R while the radio domain is off is not received. -/
theorem test_step_port_unpowered :
    (after (.identify (freshFrame .r) (.fields ())) State.reset).portR = State.reset.portR := by decide +kernel

/-- R179: a value outside the range is clamped and answered CLAMPED. -/
theorem test_step_set_param_clamps :
    (after (.setParam (freshFrame .a) (.fields ⟨3, 51⟩)) base).params.debounceMs = 50
      ∧ (after (.setParam (freshFrame .a) (.fields ⟨3, 51⟩)) base).portA.answer = some ⟨.clamped, .param 3 50⟩ := by decide +kernel

/-- R82: a FULL update at default parameters waits for the rails, and its demand is 680 mW. -/
theorem test_step_planning_end :
    (after .planningEnd (updating readDone base)).panel.rail = .rising
      ∧ (after .planningEnd (updating readDone base)).panel.update.map (fun u => (u.plan.map Plan.demand, u.phase)) = some (some 680, .rising) := by
  decide +kernel

/-- R106: the ramp steps one level towards its target, and the duties of level 149 wait in the buffer. -/
theorem test_step_ramp :
    (after .rampTimerExpiry ramping).light.applied = 149 ∧ (after .rampTimerExpiry ramping).light.buffer.isSome = true := by
  decide +kernel

/-- R127, R128: a sample below vcut raises the alarm, revokes the lease and halts the engine. -/
theorem test_step_alarm :
    (after (.batterySample ⟨3299, -500⟩) leased).head.alarm = some .voltage
      ∧ (after (.batterySample ⟨3299, -500⟩) leased).head.active = none
      ∧ (after (.batterySample ⟨3299, -500⟩) leased).turn.engine = .halted := by decide +kernel

/-- R169: a notice at or above the wake threshold switches the AP on in DOZE. -/
theorem test_step_wake :
    (after (.timeCounterStep) { dozing with bs := { dozing.bs with time := 99, alarm := some 100 } }).bs.power = .run := by
  decide +kernel

end Sys2Proof.Tests
end

namespace Sys2Proof.Machine

/-! ### What keeps the attached memory as it is -/

/-- The memory is part of what `State.still` keeps. -/
theorem State.mem_of_still {s t : State} (h : t.still = s.still) : t.pool.mem = s.pool.mem := by
  simp only [State.still, Prod.mk.injEq] at h
  exact h.2.2.2.1

@[simp] theorem State.rebalance_mem (s : State) : s.rebalance.pool.mem = s.pool.mem := mem_of_still s.rebalance_still
@[simp] theorem State.lightBeside_mem (s : State) (n : Nat) : (s.lightBeside n).pool.mem = s.pool.mem :=
  mem_of_still (s.lightBeside_still n)
@[simp] theorem State.computeLight_mem (s : State) : s.computeLight.pool.mem = s.pool.mem :=
  mem_of_still s.computeLight_still
@[simp] theorem State.setWarmth_mem (s : State) (w : Option Nat) : (s.setWarmth w).pool.mem = s.pool.mem :=
  mem_of_still (s.setWarmth_still w)
@[simp] theorem State.lightKey_mem (s : State) : s.lightKey.pool.mem = s.pool.mem := mem_of_still s.lightKey_still
@[simp] theorem State.rampStep_mem (s : State) : s.rampStep.pool.mem = s.pool.mem := mem_of_still s.rampStep_still
@[simp] theorem State.lightAlarmCleared_mem (s : State) : s.lightAlarmCleared.pool.mem = s.pool.mem :=
  mem_of_still s.lightAlarmCleared_still
@[simp] theorem State.grantLease_mem (s : State) (m d : Nat) (o : LeaseOrigin) :
    (s.grantLease m d o).pool.mem = s.pool.mem := mem_of_still (s.grantLease_still m d o)
@[simp] theorem State.raiseRm_mem (s : State) (r : RmSource) (d : RmDetail) : (s.raiseRm r d).pool.mem = s.pool.mem :=
  mem_of_still (s.raiseRm_still r d)
@[simp] theorem State.raise_mem (s : State) (r : Source) (d : Detail) : (s.raise r d).pool.mem = s.pool.mem :=
  mem_of_still (s.raise_still r d)
@[simp] theorem State.presentWake_mem (b : Bool) (s : State) : (State.presentWake b s).pool.mem = s.pool.mem :=
  mem_of_still (State.presentWake_still b s)
@[simp] theorem State.serveWake_mem (s : State) : s.serveWake.pool.mem = s.pool.mem := mem_of_still s.serveWake_still
@[simp] theorem State.leaveDeep_mem (s : State) : s.leaveDeep.pool.mem = s.pool.mem := mem_of_still s.leaveDeep_still
@[simp] theorem State.refill_mem (s : State) : s.refill.pool.mem = s.pool.mem := mem_of_still s.refill_still
@[simp] theorem State.refillFor_mem (s : State) (b : Option Nat) : (s.refillFor b).pool.mem = s.pool.mem :=
  mem_of_still (s.refillFor_still b)
@[simp] theorem State.arrive_mem (s : State) (e : Entry) : (s.arrive e).1.pool.mem = s.pool.mem :=
  mem_of_still (s.arrive_still e)
@[simp] theorem State.placeHead_mem (s : State) (e : Entry) : (s.placeHead State.raise e).pool.mem = s.pool.mem :=
  mem_of_still (s.placeHead_still e _ fun t r d => t.raise_still r d)
@[simp] theorem State.presentHot_mem (s : State) : s.presentHot.pool.mem = s.pool.mem := mem_of_still s.presentHot_still
@[simp] theorem State.railsHot_mem (s : State) : s.railsHot.pool.mem = s.pool.mem := mem_of_still s.railsHot_still
@[simp] theorem State.railsFall_mem (s : State) : s.railsFall.pool.mem = s.pool.mem := mem_of_still s.railsFall_still
@[simp] theorem State.startHold_mem (s : State) : s.startHold.pool.mem = s.pool.mem := mem_of_still s.startHold_still
@[simp] theorem State.holdIfHot_mem (s : State) : s.holdIfHot.pool.mem = s.pool.mem := mem_of_still s.holdIfHot_still
@[simp] theorem State.dropRails_mem (s : State) : s.dropRails.pool.mem = s.pool.mem := mem_of_still s.dropRails_still
@[simp] theorem State.presentRise_mem (s : State) : s.presentRise.pool.mem = s.pool.mem :=
  mem_of_still s.presentRise_still
@[simp] theorem State.presentUpdate_mem (s : State) : s.presentUpdate.pool.mem = s.pool.mem :=
  mem_of_still s.presentUpdate_still
@[simp] theorem State.ghostLimitSet_mem (s : State) : s.ghostLimitSet.pool.mem = s.pool.mem :=
  mem_of_still s.ghostLimitSet_still
@[simp] theorem State.clearTimerStep_mem (s : State) : s.clearTimerStep.pool.mem = s.pool.mem :=
  mem_of_still s.clearTimerStep_still
@[simp] theorem State.firstGrant_mem (s : State) : s.firstGrant.pool.mem = s.pool.mem := mem_of_still s.firstGrant_still
@[simp] theorem State.shedLease_mem (s : State) : s.shedLease.pool.mem = s.pool.mem := mem_of_still s.shedLease_still

@[simp] theorem State.dropUpdate_mem (s : State) : s.dropUpdate.pool.mem = s.pool.mem := rfl
@[simp] theorem State.storeCeiling_mem (s : State) (x : Sample) : (s.storeCeiling x).pool.mem = s.pool.mem := rfl
@[simp] theorem State.lightAlarm_mem (s : State) : s.lightAlarm.pool.mem = s.pool.mem := rfl
@[simp] theorem State.abandon_mem (s : State) (k : Option PageKey) (w : Abandon) :
    (s.abandon k w).pool.mem = s.pool.mem := s.raise_mem _ _
@[simp] theorem State.putBack_mem (s : State) (k : PageKey) (m : TurnMode) (o : Origin) (p : Option Purpose) :
    (s.putBack k m o p).pool.mem = s.pool.mem := s.placeHead_mem _
@[simp] theorem State.beginMiss_mem (s : State) (k : PageKey) (m : TurnMode) (o : Origin) (p : Option Purpose) :
    (s.beginMiss k m o p).pool.mem = s.pool.mem := rfl
@[simp] theorem State.handOver_mem (s : State) (x : Turn) (n : Nat) : (s.handOver x n).pool.mem = s.pool.mem := rfl
@[simp] theorem State.showTarget_mem (s : State) (n : Nat) (f : Fidelity) (g : Nat) :
    (s.showTarget n f g).pool.mem = s.pool.mem := rfl
@[simp] theorem State.askRefresh_mem (s : State) : s.askRefresh.pool.mem = s.pool.mem := rfl
@[simp] theorem State.reachDeep_mem (s : State) : s.reachDeep.pool.mem = s.pool.mem := rfl
@[simp] theorem State.placeBlock_mem (s : State) (b : Block) (l : List Byte) :
    (s.placeBlock b l).pool.mem = s.pool.mem := rfl
@[simp] theorem State.giveBack_mem (s : State) (keep : Staging → List Nat × Option RingPos) :
    (s.giveBack keep).pool.mem = s.pool.mem := rfl
@[simp] theorem State.afterClose_mem (s : State) : s.afterClose.pool.mem = s.pool.mem := rfl
@[simp] theorem State.tidyStaging_mem (s : State) : s.tidyStaging.pool.mem = s.pool.mem := rfl
@[simp] theorem State.closeAllOpen_mem (s : State) (r : CloseReason) : (s.closeAllOpen r).pool.mem = s.pool.mem := rfl
@[simp] theorem State.giveUpBlock_mem (s : State) (b : Block) : (s.giveUpBlock b).pool.mem = s.pool.mem := rfl
@[simp] theorem State.queueScan_mem (s : State) (n l : Nat) : (s.queueScan n l).pool.mem = s.pool.mem := rfl
@[simp] theorem State.controllerSample_mem (s : State) (x : Sample) (dt : Int) :
    (s.controllerSample x dt).pool.mem = s.pool.mem := rfl

@[simp] theorem Pool.leaveRefresh_mem (p : Pool) : p.leaveRefresh.mem = p.mem := by
  unfold Pool.leaveRefresh; split <;> rfl

@[simp] theorem State.updateDone_mem (s : State) (m : UpdMode) : (s.updateDone m).pool.mem = s.pool.mem := by
  unfold State.updateDone; split <;> simp

@[simp] theorem State.evalWatch_mem (s : State) : s.evalWatch.pool.mem = s.pool.mem := by
  unfold State.evalWatch
  split
  · split <;> simp
  · rfl

@[simp] theorem State.startFade_mem (s : State) : s.startFade.pool.mem = s.pool.mem := by
  unfold State.startFade
  dsimp only
  split
  · simp [State.fade]
  · rfl

@[simp] theorem State.placeImage_mem (s : State) (p : Purpose) (k : PageKey) (w : Abandon) :
    (s.placeImage p k w).pool.mem = s.pool.mem := by
  unfold State.placeImage
  dsimp only
  rw [State.placeHead_mem]
  split
  · split <;> simp
  · rfl

@[simp] theorem State.enterEnteringDeep_mem (s : State) : s.enterEnteringDeep.pool.mem = s.pool.mem := by
  unfold State.enterEnteringDeep
  dsimp only
  split <;> simp

@[simp] theorem State.beginDeepEntry_mem (s : State) : s.beginDeepEntry.pool.mem = s.pool.mem := by
  unfold State.beginDeepEntry
  split
  · split <;> rfl
  · simp

/-! ### Slots, streams and domains -/

@[simp] theorem Pool.allocate_mem {p q : Pool} {n : Nat} {o : Owner} {es : List Nat} (h : p.allocate n o = some (es, q)) :
    q.mem = p.mem := by
  unfold Pool.allocate at h
  split at h
  · cases h; rfl
  · cases h

/-- Emptying slots one after another, each one or not, keeps the memory. -/
theorem State.foldl_mem {f : State → Nat → State} (hf : ∀ t n, (f t n).pool.mem = t.pool.mem) (l : List Nat) (s : State) :
    (l.foldl f s).pool.mem = s.pool.mem := by
  induction l generalizing s with
  | nil => rfl
  | cons n l ih => rw [List.foldl_cons, ih, hf]

@[simp] theorem State.breakReservations_mem (s : State) : s.breakReservations.pool.mem = s.pool.mem :=
  State.foldl_mem (fun t n => by split <;> rfl) _ s

@[simp] theorem State.clearFor_mem (s : State) (p : OpenPlan) : (s.clearFor p).pool.mem = s.pool.mem := by
  unfold State.clearFor
  rw [State.foldl_mem (f := fun t v => t.emptySlot v false) fun _ _ => rfl]
  split <;> rfl

@[simp] theorem State.carryOut_mem (s : State) (p : OpenPlan) (n : Nat) (x : Slot) :
    (s.carryOut p n x).pool.mem = s.pool.mem := by
  unfold State.carryOut
  dsimp only
  rw [State.foldl_mem (fun _ _ => State.refillFor_mem _ _)]
  split
  · next es pool h => simpa using Pool.allocate_mem h
  · simp

@[simp] theorem State.forgetSlot_mem (s : State) (n : Nat) : (s.forgetSlot n).pool.mem = s.pool.mem := by
  unfold State.forgetSlot
  split
  · rfl
  · split <;> rfl

@[simp] theorem State.dropLeases_mem (s : State) : s.dropLeases.pool.mem = s.pool.mem := by
  unfold State.dropLeases
  dsimp only
  split <;> rfl

@[simp] theorem State.resetRadioSide_mem (s : State) : s.resetRadioSide.pool.mem = s.pool.mem := by
  simp [State.resetRadioSide]

@[simp] theorem State.radioOff_mem (s : State) : s.radioOff.pool.mem = s.pool.mem := by
  unfold State.radioOff
  split
  · simp
  · rfl

@[simp] theorem State.radioOn_mem (s : State) : s.radioOn.1.pool.mem = s.pool.mem := by
  unfold State.radioOn
  repeat' split
  all_goals simp

@[simp] theorem State.apPowerDown_mem (s : State) : s.apPowerDown.pool.mem = s.pool.mem := by
  simp [State.apPowerDown]

@[simp] theorem State.stopAp_mem (s : State) : s.stopAp.pool.mem = s.pool.mem := by
  unfold State.stopAp
  dsimp only
  split
  · simp
  · split <;> simp

@[simp] theorem State.closeStream_mem (s : State) (id : Nat) (x : Stream) (r : CloseReason) :
    (s.closeStream id x r).pool.mem = s.pool.mem := by
  simp [State.closeStream]

@[simp] theorem State.abortStream_mem (s : State) (id : Nat) (x : Stream) : (s.abortStream id x).pool.mem = s.pool.mem := by
  simp [State.abortStream]

@[simp] theorem State.triggerTest_mem (s : State) (b : Nat) : (s.triggerTest b).pool.mem = s.pool.mem := by
  unfold State.triggerTest
  split <;> simp

@[simp] theorem State.joinBlock_mem (s : State) (b : Block) (x : Stream) : (s.joinBlock b x).pool.mem = s.pool.mem := by
  unfold State.joinBlock
  dsimp only
  split <;> simp

theorem State.growRing_mem {s t : State} (h : s.growRing = some t) : t.pool.mem = s.pool.mem := by
  unfold State.growRing at h
  split at h
  · next es p hp => cases h; exact Pool.allocate_mem hp
  · cases h

theorem State.reclaim_mem {s t : State} (h : s.reclaim = some t) : t.pool.mem = s.pool.mem := by
  unfold State.reclaim at h
  split at h
  · cases h
  · cases h; rfl

theorem State.obtainExtent_mem {s t : State} (h : s.obtainExtent = some t) : t.pool.mem = s.pool.mem := by
  unfold State.obtainExtent at h
  split at h
  · exact State.growRing_mem h
  · split at h
    · split at h
      · next u hu =>
        obtain ⟨v, hv, rfl⟩ := Option.map_eq_some_iff.mp h
        rw [State.refillFor_mem, State.growRing_mem hv, State.reclaim_mem hu]
      · cases h
    · cases h

theorem State.makeRoom_mem {s t : State} {len : Nat} (h : s.makeRoom len = some t) : t.pool.mem = s.pool.mem := by
  unfold State.makeRoom at h
  split at h
  · cases h; rfl
  · exact State.obtainExtent_mem h

/-! ### What keeps the memory or loses it: turns that end in DEPLETED -/

theorem State.wf_sleepEntryEnd {s : State} (p : Purpose) (h : Memory.wf s.pool.mem = true) :
    Memory.wf (s.sleepEntryEnd p).pool.mem = true := by
  cases p <;> simp only [State.sleepEntryEnd]
  case rest => split <;> simp [h]
  case empty =>
    split
    · rfl
    · exact h
  case resume => exact h

theorem State.wf_endImage {s : State} (p : Option Purpose) (h : Memory.wf s.pool.mem = true) :
    Memory.wf (s.endImage p).pool.mem = true := by
  unfold State.endImage
  split
  · exact State.wf_sleepEntryEnd _ h
  · exact h

theorem State.wf_turnEnded {s : State} (e : EndReport) (h : Memory.wf s.pool.mem = true) :
    Memory.wf (s.turnEnded e).pool.mem = true := by
  unfold State.turnEnded
  dsimp only
  split
  · cases e <;> dsimp only
    case held => simpa using h
    all_goals
      split
      · exact State.wf_endImage _ h
      · simpa using h
  · exact h

theorem State.wf_beginTurn {s : State} (k : PageKey) (m : TurnMode) (o : Origin) (p : Option Purpose) (n : Nat)
    (h : Memory.wf s.pool.mem = true) : Memory.wf (s.beginTurn k m o p n).pool.mem = true := by
  unfold State.beginTurn
  dsimp only
  split
  · simpa using h
  · split
    · split
      · exact State.wf_endImage _ h
      · simpa using h
    · exact h

theorem State.wf_lookUp {s : State} (k : PageKey) (m : TurnMode) (o : Origin) (p : Option Purpose)
    (h : Memory.wf s.pool.mem = true) : Memory.wf (s.lookUp k m o p).pool.mem = true := by
  unfold State.lookUp
  split
  · split
    · exact State.wf_beginTurn _ _ _ _ _ h
    · split
      · exact State.wf_endImage _ h
      · exact h
  · split
    · exact State.wf_endImage _ h
    · simpa using h

theorem State.wf_takeRun {s : State} (run : List Entry) (h : Memory.wf s.pool.mem = true) :
    Memory.wf (s.takeRun run).pool.mem = true := by
  unfold State.takeRun
  dsimp only
  split
  · simpa using h
  · split
    · exact h
    · split
      · exact h
      · split
        · simpa using h
        · split
          · exact h
          · exact State.wf_lookUp _ _ _ _ h

theorem State.wf_takeGoto {s : State} (e : Entry) (k : PageKey) (h : Memory.wf s.pool.mem = true) :
    Memory.wf (s.takeGoto e k).pool.mem = true := by
  unfold State.takeGoto
  split
  · simpa using h
  · split
    · split
      · exact State.wf_endImage _ h
      · exact h
    · exact State.wf_lookUp _ _ _ _ h

theorem State.wf_takeHead {s : State} (h : Memory.wf s.pool.mem = true) : Memory.wf s.takeHead.pool.mem = true := by
  unfold State.takeHead
  split
  · exact h
  · split
    · exact State.wf_takeGoto _ _ h
    · exact State.wf_takeRun _ h

theorem State.wf_slotReady {s : State} (n : Nat) (k : PageKey) (h : Memory.wf s.pool.mem = true) :
    Memory.wf (s.slotReady n k).pool.mem = true := by
  unfold State.slotReady
  split
  · split
    · exact State.wf_beginTurn _ _ _ _ _ h
    · exact h
  · exact h

/-! ### Settling -/

theorem State.wf_nextAction {s t : State} (h : Memory.wf s.pool.mem = true) (ht : s.nextAction = some t) :
    Memory.wf t.pool.mem = true := by
  unfold State.nextAction at ht
  repeat' split at ht
  all_goals cases ht
  · exact State.wf_takeHead h
  all_goals simpa [State.radioStage] using h

theorem State.wf_settleN (n : Nat) {s : State} (h : Memory.wf s.pool.mem = true) :
    Memory.wf (s.settleN n).pool.mem = true := by
  induction n generalizing s with
  | zero => exact h
  | succ n ih =>
    unfold State.settleN
    split
    · next t ht => exact ih (State.wf_nextAction h ht)
    · exact h

theorem State.wf_settle {s : State} (h : Memory.wf s.pool.mem = true) : Memory.wf s.settle.pool.mem = true :=
  State.wf_settleN 64 h

/-! ### Updates, the power alarm, samples and depletion -/

theorem State.wf_panelAlarm {s : State} (h : Memory.wf s.pool.mem = true) : Memory.wf s.panelAlarm.pool.mem = true := by
  unfold State.panelAlarm
  split
  · split
    · exact h
    · exact State.wf_turnEnded _ (by simpa using h)
  · simpa using h

@[simp] theorem State.turnAlarm_mem (s : State) : s.turnAlarm.pool.mem = s.pool.mem := by
  unfold State.turnAlarm
  split
  · rfl
  · dsimp only
    split <;> simp
  · rfl

@[simp] theorem State.alarmLeases_mem (s : State) : s.alarmLeases.pool.mem = s.pool.mem := by
  unfold State.alarmLeases
  dsimp only
  split <;> simp

@[simp] theorem State.alarmClear_mem (s : State) : s.alarmClear.pool.mem = s.pool.mem := by
  simp only [State.alarmClear, State.rebalance_mem, State.lightAlarmCleared_mem, State.turnAlarmCleared]
  split <;> rfl

theorem State.wf_alarmRaise {s : State} (c : AlarmCause) (h : Memory.wf s.pool.mem = true) :
    Memory.wf (s.alarmRaise c).pool.mem = true := by
  unfold State.alarmRaise
  rw [State.raise_mem]
  exact State.wf_panelAlarm (by simpa using h)

theorem State.wf_arbiterSample {s : State} (x : Sample) (h : Memory.wf s.pool.mem = true) :
    Memory.wf (s.arbiterSample x).pool.mem = true := by
  unfold State.arbiterSample
  dsimp only
  split
  · simpa using h
  · split
    · exact State.wf_alarmRaise _ (by simpa using h)
    · split
      · exact State.wf_alarmRaise _ (by simpa using h)
      · simpa using h

@[simp] theorem State.judge_mem (s : State) : s.judge.pool.mem = s.pool.mem := by
  unfold State.judge
  dsimp only
  split
  · rfl
  · split <;> simp

theorem State.wf_sample {s : State} (x : Sample) (h : Memory.wf s.pool.mem = true) :
    Memory.wf (s.sample x).pool.mem = true := by
  simpa [State.sample] using State.wf_arbiterSample x h

/-- A cold start begins with the memory lost. -/
theorem State.wf_coldStart (s : State) (pins : Pins) (x : Sample) : Memory.wf (s.coldStart pins x).pool.mem = true :=
  State.wf_sample x rfl

theorem State.wf_beginDepletion {s : State} (h : Memory.wf s.pool.mem = true) :
    Memory.wf s.beginDepletion.pool.mem = true := by
  have hw : ∀ t : State, t.withdrawAp.leaveSleep.pool.mem = t.pool.mem := fun t => by
    unfold State.leaveSleep State.withdrawAp
    dsimp only
    split <;> split <;> simp
  unfold State.beginDepletion
  dsimp only
  split
  · simp only [State.placeImage_mem, State.radioOff_mem]
    split <;> simpa [hw] using h
  · rfl

theorem State.wf_completeUpdate {s : State} (u : Update) (h : Memory.wf s.pool.mem = true) :
    Memory.wf (s.completeUpdate u).pool.mem = true :=
  State.wf_turnEnded _ (by simpa using h)

theorem State.wf_silentSwap {s : State} (u : Update) (h : Memory.wf s.pool.mem = true) :
    Memory.wf (s.silentSwap u).pool.mem = true :=
  State.wf_turnEnded _ (by simpa using h)

theorem State.wf_abortUpdate {s : State} (u : Update) (h : Memory.wf s.pool.mem = true) :
    Memory.wf (s.abortUpdate u).pool.mem = true :=
  State.wf_turnEnded _ (by simpa using h)

theorem State.wf_abandonUpdate {s : State} (h : Memory.wf s.pool.mem = true) :
    Memory.wf s.abandonUpdate.pool.mem = true :=
  State.wf_turnEnded _ (by simpa using h)

@[simp] theorem State.toRails_mem (s : State) : s.toRails.pool.mem = s.pool.mem := by
  unfold State.toRails
  split <;> simp

theorem State.wf_endPlanning {s : State} (u : Update) (h : Memory.wf s.pool.mem = true) :
    Memory.wf (s.endPlanning u).pool.mem = true := by
  unfold State.endPlanning
  dsimp only
  split
  · exact State.wf_silentSwap u h
  · split
    · simpa using h
    · exact State.wf_abandonUpdate h

theorem State.wf_frameEnds {s : State} (u : Update) (n : Nat) (h : Memory.wf s.pool.mem = true) :
    Memory.wf (s.frameEnds u n).pool.mem = true := by
  unfold State.frameEnds
  split
  · exact State.wf_abortUpdate u h
  · split
    · exact State.wf_completeUpdate u h
    · exact h

@[simp] theorem State.tempRead_mem (s : State) (u : Update) (r : Option Int) : (s.tempRead u r).pool.mem = s.pool.mem := by
  unfold State.tempRead
  dsimp only
  split
  · split <;> simp
  · rfl

/-! ### Slots that become READY, and keys -/

theorem State.wf_becomeReady {s : State} (n : Nat) (h : Memory.wf s.pool.mem = true) :
    Memory.wf (s.becomeReady n).pool.mem = true := by
  unfold State.becomeReady
  dsimp only
  split
  · exact State.wf_slotReady _ _ h
  · exact h

theorem State.wf_scanEnds {s : State} (n : Nat) (r : Option ImageFault) (h : Memory.wf s.pool.mem = true) :
    Memory.wf (s.scanEnds n r).pool.mem = true := by
  unfold State.scanEnds
  dsimp only
  split
  · exact h
  · split
    · exact State.wf_becomeReady n h
    · split
      · simpa using h
      · exact h

theorem State.wf_blankEnds {s : State} (p : Port) (n : Nat) (h : Memory.wf s.pool.mem = true) :
    Memory.wf (s.blankEnds p n).pool.mem = true := by
  unfold State.blankEnds
  dsimp only
  rw [State.tell_pool]
  split
  · exact h
  · exact State.wf_becomeReady n h

@[simp] theorem State.setKey_mem (s : State) (k : Key) (x : KeyInput) : (s.setKey k x).pool.mem = s.pool.mem := rfl

@[simp] theorem State.keyActivity_mem (s : State) : s.keyActivity.pool.mem = s.pool.mem := by
  unfold State.keyActivity
  split <;> rfl

@[simp] theorem State.pressAction_mem (s : State) (k : Key) : (s.pressAction k).pool.mem = s.pool.mem := by
  unfold State.pressAction
  split
  · simp [State.powerPress]
  · split
    · rfl
    · split <;> simp [State.stepPress]

@[simp] theorem State.acceptEdge_mem (s : State) (k : Key) : (s.acceptEdge k).pool.mem = s.pool.mem := by
  unfold State.acceptEdge
  dsimp only
  repeat' split
  all_goals simp

@[simp] theorem State.stepTime_mem (s : State) : s.stepTime.pool.mem = s.pool.mem := by
  unfold State.stepTime State.fireAlarm
  dsimp only
  repeat' split
  all_goals simp

end Sys2Proof.Machine

namespace Sys2Proof.Machine

/-! ### Requests -/

@[simp] theorem State.takeNoticeAt_mem (s : State) (p : Port) (k : Nat) :
    (s.takeNoticeAt p k).pool.mem = s.pool.mem := by simp [State.takeNoticeAt]

@[simp] theorem State.serveTakeNotice_mem (s : State) (p : Port) (x : TakeNoticeArgs) :
    (s.serveTakeNotice p x).pool.mem = s.pool.mem := by
  cases p <;> simp only [State.serveTakeNotice, State.takeAp, State.takeRm]
  all_goals repeat' split
  all_goals simp

@[simp] theorem State.paramEffect_mem (s : State) (old : Params) (n v : Nat) (b : Bool) :
    (s.paramEffect old n v b).pool.mem = s.pool.mem := by
  unfold State.paramEffect
  repeat' split
  all_goals simp

@[simp] theorem State.serveSetParam_mem (s : State) (p : Port) (x : SetParamArgs) :
    (s.serveSetParam p x).pool.mem = s.pool.mem := by
  unfold State.serveSetParam
  dsimp only
  repeat' split
  all_goals simp

@[simp] theorem State.serveGetParam_mem (s : State) (p : Port) (x : GetParamArgs) :
    (s.serveGetParam p x).pool.mem = s.pool.mem := by
  unfold State.serveGetParam
  split <;> simp

@[simp] theorem State.serveOpenSlot_mem (s : State) (p : Port) (x : OpenSlotArgs) :
    (s.serveOpenSlot p x).pool.mem = s.pool.mem := by
  unfold State.serveOpenSlot
  dsimp only
  repeat' split
  all_goals simp

@[simp] theorem State.serveBlankSlot_mem (s : State) (p : Port) (x : BlankSlotArgs) :
    (s.serveBlankSlot p x).pool.mem = s.pool.mem := by
  unfold State.serveBlankSlot
  dsimp only
  repeat' split
  all_goals simp

@[simp] theorem State.serveWriteSlot_mem (s : State) (p : Port) (x : WriteSlotArgs) :
    (s.serveWriteSlot p x).pool.mem = s.pool.mem := by
  unfold State.serveWriteSlot
  dsimp only
  repeat' split
  all_goals simp

@[simp] theorem State.serveCommitSlot_mem (s : State) (p : Port) (x : SlotArgs) :
    (s.serveCommitSlot p x).pool.mem = s.pool.mem := by
  unfold State.serveCommitSlot
  dsimp only
  repeat' split
  all_goals simp

@[simp] theorem State.serveCancelSlot_mem (s : State) (p : Port) (x : SlotArgs) :
    (s.serveCancelSlot p x).pool.mem = s.pool.mem := by
  unfold State.serveCancelSlot
  dsimp only
  repeat' split
  all_goals simp

@[simp] theorem State.serveSetClass_mem (s : State) (p : Port) (x : SetClassArgs) :
    (s.serveSetClass p x).pool.mem = s.pool.mem := by
  unfold State.serveSetClass
  dsimp only
  repeat' split
  all_goals simp

@[simp] theorem State.serveDesignate_mem (s : State) (p : Port) (x : DesignateArgs) :
    (s.serveDesignate p x).pool.mem = s.pool.mem := by
  unfold State.serveDesignate
  repeat' split
  all_goals simp

@[simp] theorem State.serveForget_mem (s : State) (p : Port) (x : ForgetArgs) :
    (s.serveForget p x).pool.mem = s.pool.mem := by
  unfold State.serveForget
  split
  · dsimp only
    rw [State.evalWatch_mem, State.tell_pool, State.foldl_mem State.forgetSlot_mem]
  · simp

theorem State.wf_serveTurn {s : State} (p : Port) (x : TurnArgs) (h : Memory.wf s.pool.mem = true) :
    Memory.wf (s.serveTurn p x).pool.mem = true := by
  unfold State.serveTurn
  split
  · exact State.wf_settle (by simpa using h)
  · simpa using h

@[simp] theorem State.serveSetKeyRoute_mem (s : State) (p : Port) (x : SetKeyRouteArgs) :
    (s.serveSetKeyRoute p x).pool.mem = s.pool.mem := by
  unfold State.serveSetKeyRoute
  split
  · dsimp only
    rw [State.say_pool]
    split <;> rfl
  · simp

@[simp] theorem State.serveWaveformWrite_mem (s : State) (p : Port) (x : WaveformWriteArgs) :
    (s.serveWaveformWrite p x).pool.mem = s.pool.mem := by
  unfold State.serveWaveformWrite
  repeat' split
  all_goals simp

@[simp] theorem State.serveWaveformCommit_mem (s : State) (p : Port) :
    (s.serveWaveformCommit p).pool.mem = s.pool.mem := by
  unfold State.serveWaveformCommit
  split <;> simp

@[simp] theorem State.serveLightSet_mem (s : State) (p : Port) (x : LightSetArgs) :
    (s.serveLightSet p x).pool.mem = s.pool.mem := by
  unfold State.serveLightSet
  split <;> simp

@[simp] theorem State.serveLoadCurve_mem (s : State) (p : Port) (x : LoadCurveArgs) :
    (s.serveLoadCurve p x).pool.mem = s.pool.mem := by
  unfold State.serveLoadCurve
  repeat' split
  all_goals simp

theorem State.wf_serveClearAlarm {s : State} (p : Port) (h : Memory.wf s.pool.mem = true) :
    Memory.wf (s.serveClearAlarm p).pool.mem = true := by
  unfold State.serveClearAlarm
  split
  · simpa using h
  · split
    · exact State.wf_settle (by simpa using h)
    · simpa using h

theorem State.wf_serveSleep {s : State} (p : Port) (x : SleepArgs) (h : Memory.wf s.pool.mem = true) :
    Memory.wf (s.serveSleep p x).pool.mem = true := by
  unfold State.serveSleep
  dsimp only
  split
  · split
    · simpa using h
    · exact State.wf_settle (by simpa using h)
  · split <;> simpa using h

theorem State.wf_serveRadioPower {s : State} (p : Port) (x : RadioPowerArgs) (h : Memory.wf s.pool.mem = true) :
    Memory.wf (s.serveRadioPower p x).pool.mem = true := by
  unfold State.serveRadioPower
  dsimp only
  split
  · simpa using h
  · exact State.wf_settle (by simpa using h)

@[simp] theorem State.serveSetAlarm_mem (s : State) (p : Port) (x : SetAlarmArgs) :
    (s.serveSetAlarm p x).pool.mem = s.pool.mem := by
  unfold State.serveSetAlarm
  repeat' split
  all_goals simp

theorem State.wf_serveAbortStream {s : State} (p : Port) (x : StreamArgs) (h : Memory.wf s.pool.mem = true) :
    Memory.wf (s.serveAbortStream p x).pool.mem = true := by
  unfold State.serveAbortStream
  dsimp only
  split
  · simpa using h
  · split
    · split
      · simpa using h
      · exact State.wf_settle (by simpa using h)
    · simpa using h

theorem State.wf_serveCloseStream {s : State} (p : Port) (x : CloseStreamArgs) (h : Memory.wf s.pool.mem = true) :
    Memory.wf (s.serveCloseStream p x).pool.mem = true := by
  unfold State.serveCloseStream
  split
  · simpa using h
  · split
    · split
      · simpa using h
      · split
        · simpa using h
        · exact State.wf_settle (by simpa using h)
    · simpa using h

@[simp] theorem State.serveDrain_mem (s : State) (p : Port) : (s.serveDrain p).pool.mem = s.pool.mem := by
  unfold State.serveDrain
  split <;> simp

@[simp] theorem State.serveClearNotices_mem (s : State) (p : Port) (x : ClearNoticesArgs) :
    (s.serveClearNotices p x).pool.mem = s.pool.mem := by
  unfold State.serveClearNotices
  split
  · rw [State.tell_pool, State.foldl_mem (f := fun t n => t.mapNotice (n - 1) Notice.taken) fun _ _ => rfl]
  · simp

@[simp] theorem State.serveSetNoticeLevel_mem (s : State) (p : Port) (x : SetNoticeLevelArgs) :
    (s.serveSetNoticeLevel p x).pool.mem = s.pool.mem := by
  unfold State.serveSetNoticeLevel
  dsimp only
  repeat' split
  all_goals simp

@[simp] theorem State.serveOpenStream_mem (s : State) (p : Port) (x : OpenStreamArgs) :
    (s.serveOpenStream p x).pool.mem = s.pool.mem := by
  unfold State.serveOpenStream
  repeat' split
  all_goals simp

@[simp] theorem State.putBlock_mem (s : State) (p : Port) (st : Stream) (x : PutBlockArgs) :
    (s.putBlock p st x).pool.mem = s.pool.mem := by
  unfold State.putBlock
  split
  · simp
  · split
    · next t ht => simpa using State.makeRoom_mem ht
    · simp

@[simp] theorem State.servePutBlock_mem (s : State) (p : Port) (x : PutBlockArgs) :
    (s.servePutBlock p x).pool.mem = s.pool.mem := by
  unfold State.servePutBlock
  repeat' split
  all_goals simp

@[simp] theorem State.serveWaitSpace_mem (s : State) (p : Port) (x : WaitSpaceArgs) :
    (s.serveWaitSpace p x).pool.mem = s.pool.mem := by
  unfold State.serveWaitSpace
  split <;> simp

@[simp] theorem State.serveTxLease_mem (s : State) (p : Port) (x : TxLeaseArgs) :
    (s.serveTxLease p x).pool.mem = s.pool.mem := by
  unfold State.serveTxLease
  dsimp only
  repeat' split
  all_goals simp

@[simp] theorem State.serveTxRelease_mem (s : State) (p : Port) : (s.serveTxRelease p).pool.mem = s.pool.mem := by
  unfold State.serveTxRelease
  split <;> simp

@[simp] theorem State.serveTxCancel_mem (s : State) (p : Port) : (s.serveTxCancel p).pool.mem = s.pool.mem := by
  unfold State.serveTxCancel
  repeat' split
  all_goals simp

@[simp] theorem State.serveReset_mem (s : State) (p : Port) : (s.serveReset p).pool.mem = s.pool.mem := by
  unfold State.serveReset
  split
  · simp
  · split <;> simp

/-- A request served by its block keeps the canonical form: a step of the request's own touches no byte, and what settles
behind it keeps the form. -/
theorem State.wf_serve {s : State} (p : Port) (q : Req) (h : Memory.wf s.pool.mem = true) :
    Memory.wf (s.serve p q).pool.mem = true := by
  cases q <;> simp only [State.serve]
  case resetPort => exact State.wf_settle (by simpa using h)
  case turn x => exact State.wf_serveTurn p x h
  case clearAlarm => exact State.wf_serveClearAlarm p h
  case sleep x => exact State.wf_serveSleep p x h
  case radioPower x => exact State.wf_serveRadioPower p x h
  case abortStream x => exact State.wf_serveAbortStream p x h
  case closeStream x => exact State.wf_serveCloseStream p x h
  case radioSleep => exact State.wf_settle (by simpa using h)
  case readShared x => unfold State.serveReadShared; split <;> simpa using h
  case identify => simpa [State.serveIdentify] using h
  case share x => simpa [State.serveShare] using h
  case listSlots => simpa [State.serveListSlots] using h
  case turnStatus => simpa [State.serveTurnStatus] using h
  case panelStatus => simpa [State.servePanelStatus] using h
  case lightState => simpa [State.serveLightState] using h
  case headroomStatus => simpa [State.serveHeadroomStatus] using h
  case setTime x => simpa [State.serveSetTime] using h
  case batteryStatus => simpa [State.serveBatteryStatus] using h
  case sleepStatus => simpa [State.serveSleepStatus] using h
  case stagingStatus => simpa [State.serveStagingStatus] using h
  case peekNotices => simpa [State.servePeekNotices] using h
  all_goals simpa using h

theorem State.wf_checkMessage {s : State} (p : Port) (m : Message) (h : Memory.wf s.pool.mem = true) :
    Memory.wf (s.checkMessage p m).pool.mem = true := by
  unfold State.checkMessage
  split
  · simpa using h
  · simpa using h
  · split
    · exact State.wf_serve p _ h
    · simpa using h

theorem State.wf_takeMessage {s : State} (p : Port) (m : Message) (live : Bool) (h : Memory.wf s.pool.mem = true) :
    Memory.wf (s.takeMessage p m live).pool.mem = true :=
  State.wf_checkMessage p m (by simpa using h)

theorem State.wf_takeHeld {s : State} (p : Port) (h : Memory.wf s.pool.mem = true) :
    Memory.wf (s.takeHeld p).pool.mem = true := by
  unfold State.takeHeld
  split
  · exact State.wf_takeMessage p _ _ (by simpa using h)
  · exact h

/-- A frame that arrives on a port keeps the canonical form. -/
theorem State.wf_frame {s : State} (f : Frame) (m : Message) (h : Memory.wf s.pool.mem = true) :
    Memory.wf (s.frame f m).pool.mem = true := by
  have ho : Memory.wf (s.openWindow f).pool.mem = true := by
    unfold State.openWindow; split <;> simpa using h
  unfold State.frame
  split
  · exact h
  · split
    · exact h
    · unfold State.completeFrame
      split
      · exact State.wf_settle (by simpa using ho)
      · split
        · simpa using ho
        · exact State.wf_takeMessage _ m true ho

/-! ### The ends of memory work -/

@[simp] theorem State.writeSlotEnds_mem (s : State) (p : Port) (n len stop : Nat) (lost : Bool) :
    (s.writeSlotEnds p n len stop lost).pool.mem = s.pool.mem := by
  unfold State.writeSlotEnds
  dsimp only
  repeat' split
  all_goals simp

@[simp] theorem State.commitEnds_mem (s : State) (p : Port) : (s.commitEnds p).pool.mem = s.pool.mem := by
  unfold State.commitEnds
  split <;> simp

@[simp] theorem State.blockWritten_mem (s : State) (p : Port) : (s.blockWritten p).pool.mem = s.pool.mem := by
  unfold State.blockWritten
  repeat' split
  all_goals simp

@[simp] theorem State.drainEnds_mem (s : State) (p : Port) (l : List Byte) : (s.drainEnds p l).pool.mem = s.pool.mem := by
  unfold State.drainEnds
  split <;> simp

@[simp] theorem State.repeatStep_mem (s : State) (k : Key) : (s.repeatStep k).pool.mem = s.pool.mem := by
  simp [State.repeatStep]

@[simp] theorem State.chargerEdge_mem (s : State) (l : ChgLine) (b : Bool) : (s.chargerEdge l b).pool.mem = s.pool.mem := by
  simp [State.chargerEdge]

@[simp] theorem State.chargerEdgeDepleted_mem (s : State) (l : ChgLine) (b : Bool) :
    (s.chargerEdgeDepleted l b).pool.mem = s.pool.mem := by
  cases l <;> rfl

@[simp] theorem State.afterRise_mem (s : State) : s.afterRise.pool.mem = s.pool.mem := by
  unfold State.afterRise
  repeat' split
  all_goals simp

@[simp] theorem State.afterFall_mem (s : State) : s.afterFall.pool.mem = s.pool.mem := by
  unfold State.afterFall
  repeat' split
  all_goals simp

@[simp] theorem State.railsDown_mem (s : State) : s.railsDown.pool.mem = s.pool.mem := by simp [State.railsDown]

@[simp] theorem State.feedBurst_mem (s : State) (src : FeedSource) (b : Bool) :
    (s.feedBurst src b).pool.mem = s.pool.mem := by
  unfold State.feedBurst
  repeat' split
  all_goals rfl

/-! ### Every command -/

/-- The state a command leads to has a memory of canonical form. -/
def LeavesWf (o : Host.Outcome State Fault Refusal) : Prop := ∀ t, o = .next t → t.MemoryLaw

theorem leavesWf_next {t : State} (h : Memory.wf t.pool.mem = true) : LeavesWf (.next t) := by
  intro u hu
  cases hu
  exact h

/-- A command that acts under a condition, and else leaves the state as it is. -/
theorem leavesWf_ite {p : Prop} [Decidable p] {a b : State} (ha : Memory.wf a.pool.mem = true)
    (hb : Memory.wf b.pool.mem = true) : LeavesWf (if p then .next a else .next b) := by
  split
  · exact leavesWf_next ha
  · exact leavesWf_next hb

/-- No command breaks the canonical form of the memory. -/
theorem exec_leavesWf (c : Instr) {s : State} (h : Memory.wf s.pool.mem = true) : LeavesWf (exec c s) := by
  cases c <;> simp only [exec]
  -- requests
  case identify | resetPort | takeNotice | setParam | getParam | share | readShared | openSlot | writeSlot | commitSlot
      | cancelSlot | blankSlot | setClass | designate | forget | listSlots | turn | setKeyRoute | turnStatus
      | waveformWrite | waveformCommit | panelStatus | lightSet | loadCurve | lightState | clearAlarm | headroomStatus
      | sleep | radioPower | setTime | setAlarm | batteryStatus | sleepStatus | abortStream | drain | stagingStatus
      | peekNotices | clearNotices | setNoticeLevel | openStream | putBlock | closeStream | waitSpace | txLease
      | txRelease | txCancel | radioSleep => exact leavesWf_next (State.wf_frame _ _ h)
  -- starts
  case powerOn => exact leavesWf_next (State.wf_coldStart _ _ _)
  case depletedRestartSample =>
    unfold execDepletedRestartSample
    split
    · exact leavesWf_ite (State.wf_coldStart _ _ _) h
    · exact leavesWf_next h
  -- windows
  case chipSelectRelease => exact leavesWf_next (by simpa using h)
  case windowIgnored => exact leavesWf_next (by unfold State.receive; split <;> simpa using h)
  case frameDiscarded => exact leavesWf_ite (by simpa using h) h
  case unknownRequest =>
    unfold execUnknownRequest
    split
    · exact leavesWf_next (State.wf_frame _ _ h)
    · exact leavesWf_next h
  -- ends of memory work
  case chunkGrant => exact leavesWf_next (s.wf_grantChunk h)
  case panelFeedBurst => exact leavesWf_next (by simpa using h)
  case writeSlotEnd =>
    unfold execWriteSlotEnd
    split
    · split
      · exact leavesWf_next (State.wf_takeHeld _ (by simpa using h))
      · exact leavesWf_next h
    · exact leavesWf_next h
  case blankSlotWriteEnd =>
    unfold execBlankSlotWriteEnd
    split
    · split
      · exact leavesWf_next (State.wf_takeHeld _ (State.wf_settle (State.wf_blankEnds _ _ (by simpa using h))))
      · exact leavesWf_next h
    · exact leavesWf_next h
  case waveformWriteEnd =>
    unfold execWaveformWriteEnd
    split
    · exact leavesWf_next (State.wf_takeHeld _ (by simpa using h))
    · exact leavesWf_next h
  case waveformCommitEnd =>
    unfold execWaveformCommitEnd
    split
    · exact leavesWf_next (State.wf_takeHeld _ (by simpa using h))
    · exact leavesWf_next h
  case putBlockWriteEnd =>
    unfold execPutBlockWriteEnd
    split
    · exact leavesWf_next (State.wf_takeHeld _ (State.wf_settle (by simpa using h)))
    · exact leavesWf_next h
  case drainEnd =>
    unfold execDrainEnd
    split
    · exact leavesWf_next (State.wf_takeHeld _ (State.wf_settle (by simpa using h)))
    · exact leavesWf_next h
  case verifyScanEnd =>
    unfold execVerifyScanEnd
    split
    · exact leavesWf_ite h (State.wf_settle (State.wf_scanEnds _ _ h))
    · exact leavesWf_next h
  -- keys and turns
  case keyRawEdge =>
    unfold execKeyRawEdge
    split
    · exact leavesWf_next h
    · exact leavesWf_ite h h
  case keyDebounceExpiry =>
    unfold execKeyDebounceExpiry
    split
    · exact leavesWf_next (State.wf_settle (by simpa using h))
    · exact leavesWf_next h
  case holdTimerExpiry =>
    unfold execHoldTimerExpiry
    split
    · exact leavesWf_next (State.wf_settle (by simpa using h))
    · exact leavesWf_next h
  case repeatTimerExpiry =>
    unfold execRepeatTimerExpiry
    split
    · exact leavesWf_next (State.wf_settle (by simpa using h))
    · exact leavesWf_next h
  case touchIntFall => exact leavesWf_ite (by simpa using h) h
  case missWaitExpiry =>
    unfold execMissWaitExpiry
    split
    · exact leavesWf_next (State.wf_settle (by simpa using h))
    · exact leavesWf_next h
  -- panel drive
  case tempReadEnd =>
    unfold execTempReadEnd
    split
    · exact leavesWf_ite (by simpa using h) h
    · exact leavesWf_next h
  case planningEnd =>
    unfold execPlanningEnd
    split
    · exact leavesWf_ite (State.wf_settle (State.wf_endPlanning _ h)) h
    · exact leavesWf_next h
  case railRiseEnd =>
    unfold execRailRiseEnd
    split
    · exact leavesWf_next (State.wf_settle (by simpa using h))
    · exact leavesWf_next h
  case powerWaitExpiry =>
    unfold execPowerWaitExpiry
    split
    · exact leavesWf_next (State.wf_settle (State.wf_abandonUpdate (by simpa using h)))
    · exact leavesWf_next h
  case frameEnd =>
    unfold execFrameEnd
    split
    · split
      · exact leavesWf_next (State.wf_settle (State.wf_frameEnds _ _ h))
      · exact leavesWf_next h
    · exact leavesWf_next h
  case railHoldExpiry =>
    unfold execRailHoldExpiry
    split
    · exact leavesWf_next (State.wf_settle (by simpa using h))
    · exact leavesWf_next h
  case railFallEnd =>
    unfold execRailFallEnd
    split
    · exact leavesWf_next (State.wf_settle (by simpa using h))
    · exact leavesWf_next h
  -- light and headroom
  case rampTimerExpiry =>
    unfold execRampTimerExpiry
    split
    · exact leavesWf_next (by simpa using h)
    · exact leavesWf_next h
  case periodBoundary => exact leavesWf_ite (State.wf_settle h) h
  case batterySample => exact leavesWf_ite h (State.wf_settle (State.wf_sample _ h))
  case alarmClearTimerExpiry =>
    unfold execAlarmClearTimerExpiry
    split
    · exact leavesWf_next (State.wf_settle (by simpa using h))
    · exact leavesWf_next h
  case leaseExpiry =>
    unfold execLeaseExpiry
    split
    · exact leavesWf_next (by simpa using h)
    · exact leavesWf_next h
  -- battery and sleep
  case awakeFall => exact leavesWf_ite (State.wf_settle (by simpa using h)) h
  case apOffTimerExpiry =>
    unfold execApOffTimerExpiry
    split
    · exact leavesWf_next (State.wf_settle (by simpa using h))
    · exact leavesWf_next h
  case dozeIdleExpiry =>
    unfold execDozeIdleExpiry
    split
    · exact leavesWf_ite h (State.wf_settle (by simpa using h))
    · exact leavesWf_next h
  case deferralExpiry =>
    unfold execDeferralExpiry
    split
    · exact leavesWf_next (State.wf_settle (by simpa using h))
    · exact leavesWf_next h
  case radioNoticeExpiry =>
    unfold execRadioNoticeExpiry
    split
    · exact leavesWf_next (State.wf_settle h)
    · exact leavesWf_next h
  case selfRefreshEntered =>
    unfold execSelfRefreshEntered
    split
    · exact leavesWf_ite (State.wf_settle (by simpa using h)) h
    · exact leavesWf_next h
  case selfRefreshLeft => exact leavesWf_ite h h
  case timeCounterStep => exact leavesWf_ite h (State.wf_settle (by simpa using h))
  case chargerLineChange =>
    unfold execChargerLineChange
    split
    · exact leavesWf_next h
    · exact leavesWf_ite (by simpa using h) (State.wf_settle (by simpa using h))
  case criticalGraceExpiry =>
    unfold execCriticalGraceExpiry
    dsimp only
    split
    · split
      · exact leavesWf_next h
      · exact leavesWf_ite h (State.wf_settle (State.wf_beginDepletion h))
    · exact leavesWf_next h
  case depletionTimerExpiry =>
    unfold execDepletionTimerExpiry
    split
    · exact leavesWf_next (rfl)
    · exact leavesWf_next h
  -- staging
  case stagingIdleExpiry =>
    unfold execStagingIdleExpiry
    dsimp only
    split
    · exact leavesWf_ite (State.wf_settle (by simpa using h)) h
    · exact leavesWf_next h

/-- Settles O4: a command keeps the canonical form, and a millisecond that passes leaves the memory alone. -/
theorem memoryLawIsKept : Obligations.MemoryLawIsKept := by
  intro s t h ht
  cases hp : s.pending with
  | nil =>
    simp only [step, hp, Host.Outcome.next.injEq] at ht
    subst ht
    exact h
  | cons c rest =>
    simp only [step, hp] at ht
    exact exec_leavesWf c (s := s.withPending rest) h t ht

end Sys2Proof.Machine

namespace Sys2Proof.Machine

/-! ### Power-on values -/

/-- At power-on extents 0 to 503 are FREE and 504 to 511 hold the waveform store (R2, R6). -/
theorem Pool.reset_owner {e : Nat} (h : e < 512) :
    Pool.reset.owners[e]? = some (if e < 504 then .free else .waveform) := by
  simp only [Pool.reset, List.getElem?_append, List.length_replicate, List.getElem?_replicate]
  split
  · rfl
  · rw [if_pos (by omega)]

theorem Pool.reset_owners_length : Pool.reset.owners.length = 512 :=
  List.length_append.trans (by rw [List.length_replicate, List.length_replicate])

/-- Settles O2, record by record. -/
theorem resetHoldsPowerOnValues : Obligations.ResetHoldsPowerOnValues := by
  refine ⟨rfl, fun e he => Pool.reset_owner he, Pool.reset_owners_length, rfl, rfl, rfl, rfl, rfl, rfl, rfl, rfl, ?noneCounted,
    rfl, rfl, rfl, rfl, fun p => ?port, fun i => ?item, rfl, rfl, rfl⟩
  case noneCounted => decide
  case port => cases p <;> rfl
  case item => cases i <;> rfl

/-- Settles O3: the memory lists nothing, the queue is empty, and nothing has been raised. -/
theorem resetMeetsTheLaws : Obligations.ResetMeetsTheLaws := by
  refine ⟨Memory.wf_reset, Nat.zero_le _, Nat.zero_le _, ?_⟩
  show ∀ n ∈ defaultNotices, n.count ≤ 255
  decide

end Sys2Proof.Machine

namespace Sys2Proof.Machine

/-! ### The memory arbiter -/

/-- The address of a byte within an extent of a list (R7). -/
theorem extentAddr_of_getElem? {extents : List Nat} {i e : Nat} (h : extents[i / 16384]? = some e) :
    extentAddr extents i = e * 16384 + i % 16384 := by
  simp [extentAddr, Config.extentBytes, List.getD_eq_getElem?_getD, h]

/-- Who owns the extent at a byte of an owner's data (R8). -/
theorem Pool.owns_of_getElem? {extents : List Nat} {i e : Nat} (p : Pool) (o : Owner) (h : extents[i / 16384]? = some e) :
    p.owns o extents i = decide (p.owners[e]? = some o) := by
  simp [Pool.owns, Config.extentBytes, h]

/-- The arbiter grants nothing where the memory is not active or the panel feed waits (R9, R14, R15). -/
theorem State.grantChunk_held {s : State} (h : s.pool.mode ≠ .active ∨ s.feedWaits = true) : s.grantChunk = s := by
  unfold State.grantChunk
  rw [if_neg]
  rcases h with h | h <;> simp [Pool.grants, h]

/-- A grant with no requester waiting changes nothing (log 4). -/
theorem State.grantChunk_idle {s : State} (h : ∀ r, s.pool.waits r = false) : s.grantChunk = s := by
  unfold State.grantChunk Pool.granted
  split
  · simp [h]
  · rfl

/-- The requester served is the first that waits, from the pointer on (R12). -/
theorem Pool.granted_eq {p : Pool} {r : Requester} (hr : p.waits r = true)
    (h : r = p.pointer ∨ (p.waits p.pointer = false ∧ r = p.pointer.next)
      ∨ (p.waits p.pointer = false ∧ p.waits p.pointer.next = false)) : p.granted = some r := by
  unfold Pool.granted
  rcases h with rfl | ⟨h1, rfl⟩ | ⟨h1, h2⟩
  · simp [hr]
  · simp [h1, hr]
  · have h0 : r ≠ p.pointer := by rintro rfl; simp [h1] at hr
    have hn : r ≠ p.pointer.next := by rintro rfl; simp [h2] at hr
    have : r = p.pointer.next.next := by
      revert h0 hn
      cases r <;> cases p.pointer <;> simp [Requester.next]
    simp [h1, h2, ← this, hr]

/-- A grant that is due gives the requester its chunk (R9, R12). -/
theorem State.grantChunk_due {s : State} {r : Requester} (ha : s.pool.mode = .active) (hf : s.feedWaits = false)
    (hg : s.pool.granted = some r) : s.grantChunk = s.chunkFor r := by
  simp [State.grantChunk, Pool.grants, ha, hf, hg]

/-- One chunk of a port's work, which lies in the extent `e` (R7, R8, R10). -/
theorem Pool.workChunk_eq {p : Pool} {w : Work} {e n : Nat} {kept : Bool} (he : w.extents[w.pos / 16384]? = some e)
    (hk : kept = (decide (p.owners[e]? = some w.owner) && !w.lost))
    (hn : n = min 256 (min (w.stop - w.pos) (16384 - w.pos % 16384))) :
    p.workChunk w =
      ({ w with
          pos := w.pos + n, data := w.data.drop n
          got := if kept = true ∧ w.kind = .drain then w.got ++ p.mem.readBytes (e * 16384 + w.pos % 16384) n else w.got
          lost := w.lost || !kept },
        if kept = true ∧ w.kind.writes = true then p.mem.writeBytes (e * 16384 + w.pos % 16384) (w.data.take n)
        else p.mem) := by
  have hl : w.chunkLen = n := hn ▸ rfl
  have hc : p.carries w = kept := by rw [Pool.carries, Pool.owns_of_getElem? p w.owner he, hk]
  rw [Pool.workChunk, hc, Work.advance, Work.stored, Work.fetched, hl, extentAddr_of_getElem? he]
  cases kept
  · simp
  · by_cases hd : w.kind = .drain <;> simp [hd]

/-- A chunk for Port A leaves the pointer at Port R (R12). -/
theorem State.chunkFor_portA {s : State} {w : Work} (hw : s.pool.workA = some w) : s.chunkFor .portA = { s with
    pool := { s.pool with
      pointer := .portR, workA := some (s.pool.workChunk w).1, mem := (s.pool.workChunk w).2 } } := by
  simp only [State.chunkFor, hw]
  rfl

/-- A chunk for Port R leaves the pointer at the verify scans (R12). -/
theorem State.chunkFor_portR {s : State} {w : Work} (hw : s.pool.workR = some w) : s.chunkFor .portR = { s with
    pool := { s.pool with
      pointer := .verify, workR := some (s.pool.workChunk w).1, mem := (s.pool.workChunk w).2 } } := by
  simp only [State.chunkFor, hw]
  rfl

/-- One chunk of a verify scan, which lies in the extent `e` of its slot (R7, R8, R32). -/
theorem State.scanChunk_eq {s : State} {c : Scan} {e n : Nat} {kept : Bool}
    (he : (s.slot c.slot).extents[c.pos / 16384]? = some e)
    (hk : kept = (decide (s.pool.owners[e]? = some (.slot c.slot)) && !c.lost))
    (hn : n = min 256 (min (c.len - c.pos) (16384 - c.pos % 16384))) :
    s.scanChunk c = { c with
      pos := c.pos + n
      check := if kept = true then c.check.feed (s.pool.mem.readBytes (e * 16384 + c.pos % 16384) n) else c.check
      lost := c.lost || !kept } := by
  have hl : c.chunkLen = n := hn ▸ rfl
  have hc : s.scanCarries c = kept := by rw [State.scanCarries, Pool.owns_of_getElem? _ _ he, hk]
  rw [State.scanChunk, hc, Scan.advance, hl, extentAddr_of_getElem? he]

/-! ### The panel feed -/

/-- A burst changes nothing where the memory is not active or the source has nothing left (R11, log 4). -/
theorem State.feedBurst_idle {s : State} {src : FeedSource} (room : Bool)
    (h : s.pool.mode ≠ .active ∨ s.panel.update = none ∨ s.feedRemaining src = 0) : s.feedBurst src room = s := by
  unfold State.feedBurst
  split
  · next u hu =>
    rw [if_neg]
    rcases h with h | h | h
    · simp [Pool.grants, h]
    · simp [hu] at h
    · simp [h]
  · rfl

/-- A burst of a source whose next byte lies in the extent `e`, of the owner `o` (R8, R11). -/
theorem State.feedBurst_due {s : State} {src : FeedSource} {u : Update} {e pos : Nat} {o : Owner} {es : List Nat}
    {kept : Bool} (room : Bool) (hu : s.panel.update = some u) (ha : s.pool.mode = .active)
    (hl : 0 < s.feedRemaining src) (ho : s.feedOwner u src = (o, es)) (hp : s.feedPos u src = pos)
    (he : es[pos / 16384]? = some e) (hk : kept = (decide (s.pool.owners[e]? = some o) && !s.pool.feed.lost)) :
    s.feedBurst src room = { s with
      pool := { s.pool with feed := s.pool.feed.add src (s.burstLen u src) room kept } } := by
  have hc : s.feedCarries u src = kept := by
    rw [State.feedCarries, ho, hp, Pool.owns_of_getElem? _ _ he, hk]
  simp [State.feedBurst, hu, Pool.grants, ha, hl, hc]

/-- Settles O15: the rotation, then one chunk of each requester, then one burst of each source. -/
theorem arbiterGrantsAndBursts : Obligations.ArbiterGrantsAndBursts := by
  refine ⟨⟨fun s h => congrArg _ (State.grantChunk_held h), fun s h => congrArg _ (State.grantChunk_idle h), ?chunk⟩, ?burst⟩
  case chunk =>
    intro s r ha hf hr hrot
    have hgrant : exec .chunkGrant s = .next (s.chunkFor r) :=
      congrArg _ (State.grantChunk_due ha hf (Pool.granted_eq hr hrot))
    rw [hgrant]
    refine ⟨?portA, ?portR, ?verify⟩
    case portA =>
      rintro w n e kept rfl hw he hk hn
      rw [State.chunkFor_portA hw, Pool.workChunk_eq he hk hn]
    case portR =>
      rintro w n e kept rfl hw he hk hn
      rw [State.chunkFor_portR hw, Pool.workChunk_eq he hk hn]
    case verify =>
      rintro c rest n e kept rfl hc hn he hk
      simp only [State.chunkFor, hc, State.scanChunk_eq he hk hn]
      rfl
  case burst =>
    intro s src room
    refine ⟨fun h => congrArg _ (State.feedBurst_idle room h), ?_⟩
    rintro u e kept left hu ha rfl hl
    refine ⟨?target, ?shown, ?waveform⟩
    case target =>
      rintro pos rfl hpos he hk
      refine congrArg _ ((State.feedBurst_due room hu ha hl rfl hpos.symm he hk).trans ?_)
      subst hpos
      rfl
    case shown =>
      rintro n pos rfl hn hpos he hk
      have ho : s.feedOwner u .shown = (.slot n, (s.slot n).extents) := by simp [State.feedOwner, hn]
      have hp : s.feedPos u .shown = pos := by simp [State.feedPos, hn, hpos]
      refine congrArg _ ((State.feedBurst_due room hu ha hl ho hp he hk).trans ?_)
      simp only [Feed.add, State.burstLen, hp]
      rfl
    case waveform =>
      rintro b pos rfl hb hpos he hk
      have hp : s.feedPos u .waveform = pos := by simp [State.feedPos, hb, hpos]
      refine congrArg _ ((State.feedBurst_due room hu ha hl rfl hp he hk).trans ?_)
      simp only [Feed.add, State.burstLen, hp]

end Sys2Proof.Machine

namespace Sys2Proof.Machine

/-! ### Spans as the check of R20 reads them -/

/-- The first byte of a RUN (R183). -/
theorem ImageCheck.step_run (row col : Nat) {a : Byte} (h : a.toNat < 64) :
    ImageCheck.step ⟨row, col, .start⟩ a = ⟨row, col, .run (a.toNat / 4) (a.toNat % 4)⟩ := by
  have hk : a.toNat / 64 = 0 := by omega
  simp [ImageCheck.step, ImageCheck.startSpan, hk]

/-- A ROW_REPEAT is one byte (R18, R183). -/
theorem ImageCheck.step_repeat (row col : Nat) {a : Byte} (h1 : 64 ≤ a.toNat) (h2 : a.toNat < 128) :
    ImageCheck.step ⟨row, col, .start⟩ a = ImageCheck.repeated ⟨row, col, .start⟩ (a.toNat - 63) := by
  have hk : a.toNat / 64 = 1 := by omega
  have hn : a.toNat % 64 + 1 = a.toNat - 63 := by omega
  simp [ImageCheck.step, ImageCheck.startSpan, hk, hn]

/-- The first byte of a LITERAL (R183). -/
theorem ImageCheck.step_literal (row col : Nat) :
    ImageCheck.step ⟨row, col, .start⟩ 0x80#8 = ⟨row, col, .literalCount⟩ := rfl

/-- An END is one byte (R19, R183). -/
theorem ImageCheck.step_end (row col : Nat) :
    ImageCheck.step ⟨row, col, .start⟩ 0xC0#8 = ImageCheck.atEnd ⟨row, col, .start⟩ := rfl

/-- A byte that begins no span (R20, R183). -/
theorem ImageCheck.step_noSpan (row col : Nat) {a : Byte} (h1 : 128 < a.toNat) (h2 : a.toNat ≠ 192) :
    ImageCheck.step ⟨row, col, .start⟩ a = ImageCheck.fail ⟨row, col, .start⟩ .badSpan := by
  have hlt := a.isLt
  have hk : a.toNat / 64 = 2 ∨ a.toNat / 64 = 3 := by omega
  have h128 : a.toNat ≠ 128 := by omega
  rcases hk with hk | hk <;> simp [ImageCheck.step, ImageCheck.startSpan, hk, h128, h2]

/-- The count byte of a LITERAL that is in range (R17, R183). -/
theorem ImageCheck.step_literalCount (row col : Nat) {b : Byte} (h1 : 1 ≤ b.toNat) (h2 : b.toNat ≤ 64) :
    ImageCheck.step ⟨row, col, .literalCount⟩ b = ⟨row, col, .literal b.toNat ((b.toNat + 1) / 2)⟩ := by
  simp [ImageCheck.step, inRange, h1, h2]

/-- The count byte of a LITERAL that is out of range (R20). -/
theorem ImageCheck.step_literalCount_bad (row col : Nat) {b : Byte} (h : b.toNat = 0 ∨ 64 < b.toNat) :
    ImageCheck.step ⟨row, col, .literalCount⟩ b = ImageCheck.fail ⟨row, col, .literalCount⟩ .badSpan := by
  have hr : inRange 1 64 b.toNat = false := by
    rcases h with h | h <;> simp [inRange, h]
  simp [ImageCheck.step, hr]

/-- Fewer level bytes than a LITERAL needs leave the check within it. -/
theorem ImageCheck.feed_literal_short (row col n : Nat) {left : Nat} {l : List Byte} (h : l.length < left) :
    ImageCheck.feed ⟨row, col, .literal n left⟩ l = ⟨row, col, .literal n (left - l.length)⟩ := by
  induction l generalizing left with
  | nil => rfl
  | cons b l ih =>
    simp only [List.length_cons] at h ⊢
    have hl : ¬ left ≤ 1 := by omega
    rw [ImageCheck.feed_cons, show left - (l.length + 1) = left - 1 - l.length by omega, ← ih (by omega)]
    simp [ImageCheck.step, hl]

/-! ### What each span comes to (R16 to R20) -/

section Faults
variable (r c : Nat) (rest : List Byte)

theorem imageFault_run {a b : Byte} (h : a.toNat < 64) : imageFault r c (a :: b :: rest) =
    ((ImageCheck.pixels ⟨r, c, .run (a.toNat / 4) (a.toNat % 4)⟩ (256 * (a.toNat % 4) + b.toNat + 1)).feed rest).result := by
  rw [imageFault, ImageCheck.feed_cons, ImageCheck.step_run r c h, ImageCheck.feed_cons]
  rfl

theorem imageFault_literal {b : Byte} {levels : List Byte} (h1 : 1 ≤ b.toNat) (h2 : b.toNat ≤ 64)
    (hl : levels.length = (b.toNat + 1) / 2) : imageFault r c (0x80#8 :: b :: levels ++ rest) =
    ((ImageCheck.pixels ⟨r, c, .literal b.toNat 1⟩ b.toNat).feed rest).result := by
  rw [imageFault, List.cons_append, List.cons_append, ImageCheck.feed_cons, ImageCheck.step_literal,
    ImageCheck.feed_cons, ImageCheck.step_literalCount r c h1 h2, ImageCheck.feed_append,
    ImageCheck.feed_literal r c b.toNat _ levels hl (by omega)]

theorem imageFault_repeat {a : Byte} (h1 : 64 ≤ a.toNat) (h2 : a.toNat < 128) : imageFault r c (a :: rest) =
    if c ≠ 0 ∨ r = 0 then some .badSpan
    else if 1600 < r + (a.toNat - 63) then some .rowCount
    else imageFault (r + (a.toNat - 63)) 0 rest := by
  rw [imageFault, ImageCheck.feed_cons, ImageCheck.step_repeat r c h1 h2]
  unfold ImageCheck.repeated
  simp only [Config.rows]
  split
  · exact ImageCheck.result_fail _ _ _
  · next hc =>
    split
    · exact ImageCheck.result_fail _ _ _
    · obtain rfl : c = 0 := by omega
      rfl

theorem imageFault_end : imageFault r c (0xC0#8 :: rest) =
    if c ≠ 0 then some .rowLength
    else if r < 1600 then some .rowCount
    else if rest = [] then none else some .trailingBytes := by
  rw [imageFault, ImageCheck.feed_cons, ImageCheck.step_end]
  unfold ImageCheck.atEnd
  simp only [Config.rows]
  split
  · exact ImageCheck.result_fail _ _ _
  · split
    · exact ImageCheck.result_fail _ _ _
    · cases rest with
      | nil => rfl
      | cons b l => exact ImageCheck.result_fail ⟨r, c, .ended⟩ .trailingBytes l

theorem imageFault_noSpan {a : Byte} (h1 : 128 < a.toNat) (h2 : a.toNat ≠ 192) :
    imageFault r c (a :: rest) = some .badSpan := by
  rw [imageFault, ImageCheck.feed_cons, ImageCheck.step_noSpan r c h1 h2]
  exact ImageCheck.result_fail _ _ _

theorem imageFault_literalCount_bad {b : Byte} (h : b.toNat = 0 ∨ 64 < b.toNat) :
    imageFault r c (0x80#8 :: b :: rest) = some .badSpan := by
  rw [imageFault, ImageCheck.feed_cons, ImageCheck.step_literal, ImageCheck.feed_cons,
    ImageCheck.step_literalCount_bad r c h]
  exact ImageCheck.result_fail _ _ _

theorem imageFault_run_cut {a : Byte} (h : a.toNat < 64) : imageFault r c [a] = some .badSpan := by
  rw [imageFault, ImageCheck.feed_cons, ImageCheck.step_run r c h]
  rfl

theorem imageFault_literal_cut {b : Byte} (h1 : 1 ≤ b.toNat) (h2 : b.toNat ≤ 64)
    (hl : rest.length < (b.toNat + 1) / 2) : imageFault r c (0x80#8 :: b :: rest) = some .badSpan := by
  rw [imageFault, ImageCheck.feed_cons, ImageCheck.step_literal, ImageCheck.feed_cons,
    ImageCheck.step_literalCount r c h1 h2, ImageCheck.feed_literal_short r c b.toNat hl]
  rfl

end Faults

/-! ### Spans as the decoding reads them -/

/-- Pixels that stay in the row, and what the bytes behind them give (R16). -/
theorem ImageDecode.rows_pixels (done : List (List Nat)) (cur px : List Nat) (ph : DecodePhase) (rest : List Byte)
    (h : cur.length + px.length ≤ 1200) :
    (rest.foldl ImageDecode.step (ImageDecode.pixels ⟨done.reverse, cur, ph⟩ px .start)).rows.reverse =
      if cur.length + px.length = 1200 then rowsAfter (done ++ [cur ++ px]) [] rest
      else rowsAfter done (cur ++ px) rest := by
  unfold ImageDecode.pixels
  simp only [Config.columns, List.length_append]
  by_cases hc : cur.length + px.length = 1200
  · rw [if_pos (by omega), if_pos hc, rowsAfter, List.reverse_append]
    rfl
  · rw [if_neg (by omega), if_neg hc]
    rfl

section Rows
variable (done : List (List Nat)) (cur : List Nat) (rest : List Byte)

theorem rowsAfter_nil : rowsAfter done cur [] = done := List.reverse_reverse done

theorem rowsAfter_run {a b : Byte} (h : a.toNat < 64) : rowsAfter done cur (a :: b :: rest) =
    (rest.foldl ImageDecode.step (ImageDecode.pixels ⟨done.reverse, cur, .run (a.toNat / 4) (a.toNat % 4)⟩
      (List.replicate (256 * (a.toNat % 4) + b.toNat + 1) (a.toNat / 4)) .start)).rows.reverse := by
  have hk : a.toNat / 64 = 0 := by omega
  simp [rowsAfter, ImageDecode.step, hk]

theorem rowsAfter_literal {b : Byte} {levels : List Byte} (h1 : 1 ≤ b.toNat) (hl : levels.length = (b.toNat + 1) / 2)
    (h : cur.length + b.toNat ≤ 1200) : rowsAfter done cur (0x80#8 :: b :: levels ++ rest) =
    (rest.foldl ImageDecode.step (ImageDecode.pixels ⟨done.reverse, cur, .start⟩
      ((levels.flatMap (fun x => [x.toNat / 16, x.toNat % 16])).take b.toNat) .start)).rows.reverse := by
  rw [rowsAfter, List.cons_append, List.cons_append, List.foldl_cons, List.foldl_cons, List.foldl_append,
    ← ImageDecode.foldl_literal done.reverse levels b.toNat cur h1 hl h]
  rfl

theorem rowsAfter_repeat {a : Byte} {row : List Nat} (h1 : 64 ≤ a.toNat) (h2 : a.toNat < 128)
    (hr : done.getLast? = some row) :
    rowsAfter done [] (a :: rest) = rowsAfter (done ++ List.replicate (a.toNat - 63) row) [] rest := by
  have hk : a.toNat / 64 = 1 := by omega
  have hn : a.toNat % 64 + 1 = a.toNat - 63 := by omega
  simp [rowsAfter, ImageDecode.step, hk, hn, hr]

theorem rowsAfter_end : rowsAfter done cur (0xC0#8 :: rest) = rowsAfter done cur rest := rfl

end Rows

/-- As many levels as a LITERAL counts come of its bytes (R17). -/
theorem length_literalLevels {n : Nat} {levels : List Byte} (hl : levels.length = (n + 1) / 2) :
    ((levels.flatMap (fun x => [x.toNat / 16, x.toNat % 16])).take n).length = n := by
  have : ∀ l : List Byte, (l.flatMap (fun x => [x.toNat / 16, x.toNat % 16])).length = 2 * l.length := by
    intro l
    induction l with
    | nil => rfl
    | cons b l ih => simp only [List.flatMap_cons, List.length_append, ih, List.length_cons, List.length_nil]; omega
  rw [List.length_take, this, hl]
  omega

end Sys2Proof.Machine

namespace Sys2Proof.Machine

/-! ### Requests at a ready port -/

/-- A fresh request other than RESET_PORT that a ready port is permitted is handed to its block (R176). -/
theorem State.frame_serve {s : State} {p : Port} {q : Req} (h : s.Ready p) (hq : q ≠ .resetPort)
    (hp : permitted (kindOf q) p = true) : s.frame (freshFrame p) (.request q) = (s.workingOn p).serve p q := by
  rw [State.frame_ready h (by simpa using hq), State.taken_eq h]
  simp [State.checkMessage, hp]

/-- The answer to a request that a ready port works on. -/
theorem State.say_workingOn {s : State} {p : Port} (c : Status) (h : s.Ready p) :
    (s.workingOn p).say p c = s.refusedWith p c := by
  rw [← State.taken_eq h, State.say_taken c h]

@[simp] theorem State.workingOn_slot (s : State) (p : Port) (n : Nat) : (s.workingOn p).slot n = s.slot n :=
  s.setPort_slot p _ n

/-! ### COMMIT_SLOT -/

/-- COMMIT_SLOT of a wholly written FILLING slot (R31). -/
theorem State.serveCommitSlot_accepted {s : State} {p : Port} {n : Nat} (hr : n ≤ 23)
    (hf : (s.slot n).takesWrites = true) (hw : (s.slot n).declared ≤ (s.slot n).written) (hq : s.staging.watch = none) :
    s.serveCommitSlot p ⟨n⟩ = ((s.setSlot n { s.slot n with state := .verifying, reservation := false }).queueScan n
      (s.slot n).written).say p .accepted := by
  have h24 : n < 24 := by omega
  simp only [State.serveCommitSlot, slotInRange, Config.slotCount, h24, hf, Nat.not_lt.mpr hw, decide_true, Bool.not_true,
    if_false, Bool.false_eq_true]
  exact State.evalWatch_none (by rw [State.say_staging]; exact hq)

/-- COMMIT_SLOT refused: a number out of range, a slot that takes no writes, or one partly written (R31). -/
theorem State.serveCommitSlot_refused {s : State} (p : Port) (n : Nat)
    (h : 23 < n ∨ (s.slot n).takesWrites = false ∨ (s.slot n).written < (s.slot n).declared) :
    s.serveCommitSlot p ⟨n⟩ = s.say p
      (if 23 < n then .badArgument else if (s.slot n).takesWrites = false then (s.slot n).notFilling else .badArgument) := by
  simp only [State.serveCommitSlot, slotInRange, Config.slotCount]
  by_cases hn : 23 < n
  · simp [hn, show ¬ n < 24 by omega]
  · have h24 : n < 24 := by omega
    by_cases hf : (s.slot n).takesWrites = false
    · simp [hn, h24, hf]
    · have hw : (s.slot n).written < (s.slot n).declared := (h.resolve_left hn).resolve_left hf
      simp [hn, h24, hf, hw]

/-! ### The end of a verify scan -/

/-- Whether a state is settled rests on the turn engine, the controller, the staging unit, the light unit, the panel drive
and the headroom arbiter, where no watch is armed. -/
theorem State.settled_congr {s t : State} (h : s.Settled) (hw : s.staging.watch = none) (h1 : t.turn = s.turn)
    (h2 : t.bs = s.bs) (h3 : t.staging = s.staging) (h4 : t.light = s.light) (h5 : t.panel = s.panel)
    (h6 : t.head = s.head) : t.Settled := by
  rw [State.settled_iff] at h ⊢
  obtain ⟨a1, a2, a3, a4, a5, a6, -⟩ := h
  refine ⟨?_, ?_, ?_, ?_, ?_, ?_, ?_⟩
  · simpa only [State.canTake, h1, h2] using a1
  · simpa only [State.deferralOver, h2, h3] using a2
  · simpa only [State.fadeStageOver, State.fadeComplete, h2, h4] using a3
  · simpa only [State.railsAsked, State.railStage, h2, h5] using a4
  · simpa only [State.refreshAsked, State.railStage, State.alarmed, h1, h2, h5, h6] using a5
  · simpa only [State.railsReported, h2, h5] using a6
  · simp [State.watchMet, h3, hw]

/-- The state with other verify scans waiting: what the end of a scan leaves beside its outcome (R32). -/
def State.withScans (s : State) (l : List Scan) : State := { s with pool := { s.pool with scans := l } }

@[simp] theorem State.withScans_slot (s : State) (l : List Scan) (n : Nat) : (s.withScans l).slot n = s.slot n := rfl

/-- A finished or failed scan ends at its slot (R32). -/
theorem execVerifyScanEnd_eq {s : State} {c : Scan} {rest : List Scan} (hc : s.pool.scans = c :: rest)
    (hd : c.len ≤ c.pos ∨ c.check.stopped = true) :
    exec .verifyScanEnd s = .next (((s.withScans rest).scanEnds c.slot c.check.result).settle) := by
  have hu : c.unfinished = false := by
    rcases hd with hd | hd
    · simp [Scan.unfinished, Nat.not_lt.mpr hd]
    · simp [Scan.unfinished, hd]
  simp [exec, execVerifyScanEnd, hc, hu, State.withScans]

@[simp] theorem State.slot_setSlot_same {s : State} {n : Nat} (x : Slot) (h : n < s.slots.slots.length) :
    (s.setSlot n x).slot n = x := by
  simp [State.setSlot, State.slot, List.getD_eq_getElem?_getD, h]

/-- A slot that no miss waits for becomes READY and is stamped (R22, R32). -/
theorem State.becomeReady_eq {s : State} {n : Nat} (hl : n < s.slots.slots.length)
    (hm : ∀ m, s.turn.miss = some m → (s.slot n).key ≠ some m.key) : s.becomeReady n = { s with
      slots := { s.slots with
        slots := s.slots.slots.set n { s.slot n with state := .ready, age := s.slots.use }
        use := min 4294967295 (s.slots.use + 1) } } := by
  have ht : (s.setSlot n { s.slot n with state := .ready }).stamp n = { s with
      slots := { s.slots with
        slots := s.slots.slots.set n { s.slot n with state := .ready, age := s.slots.use }
        use := min 4294967295 (s.slots.use + 1) } } := by
    rw [State.stamp, State.slot_setSlot_same _ hl]
    simp only [State.setSlot, List.set_set]
  unfold State.becomeReady
  rw [ht]
  cases hk : (s.slot n).key with
  | none => rfl
  | some k =>
    dsimp only
    unfold State.slotReady
    split
    · next m hmiss =>
      rw [if_neg]
      rintro ⟨rfl, -⟩
      exact hm m hmiss hk
    · rfl

/-- Emptying a slot of a state with another list of scans releases the same (R4). -/
theorem State.released_scans (s : State) (l : List Scan) (n : Nat) (b : Bool) :
    s.Released ((s.withScans l).emptySlot n b) [n] :=
  State.released_congr (State.released_one (s.withScans l) n b) rfl rfl rfl rfl rfl rfl rfl rfl

/-- A valid image makes its slot READY (R32). -/
theorem State.scanEnds_valid {s : State} {n : Nat} (hf : (s.slot n).forget = false) :
    s.scanEnds n none = s.becomeReady n := by
  simp [State.scanEnds, hf]

/-- An invalid image empties its slot and raises SLOT_REJECTED (R32). -/
theorem State.scanEnds_invalid {s : State} {n : Nat} {k : PageKey} (why : ImageFault) (hf : (s.slot n).forget = false)
    (hk : (s.slot n).key = some k) (hap : s.bs.ap = .on) :
    s.scanEnds n (some why) = (s.emptySlot n false).mark .slotRejected (.slotRejected n k why) := by
  simp only [State.scanEnds, hf, hk, Bool.false_eq_true, if_false]
  exact State.raise_on _ _ hap

/-- A forget mark empties the slot whatever the scan found (R33). -/
theorem State.scanEnds_forget {s : State} {n : Nat} (r : Option ImageFault) (hf : (s.slot n).forget = true) :
    s.scanEnds n r = s.emptySlot n false := by
  simp [State.scanEnds, hf]

/-- COMMIT_SLOT by the slot's state, as R31 has it. -/
theorem exec_commitSlot {s : State} {n : Nat} (h : s.Ready .a) :
    exec (.commitSlot (freshFrame .a) (.fields ⟨n⟩)) s = .next ((s.workingOn .a).serveCommitSlot .a ⟨n⟩) :=
  congrArg _ (State.frame_serve h (by simp) rfl)

/-- COMMIT_SLOT refused at a ready port. -/
theorem exec_commitSlot_refused {s : State} {n : Nat} (h : s.Ready .a)
    (hr : 23 < n ∨ (s.slot n).takesWrites = false ∨ (s.slot n).written < (s.slot n).declared) :
    exec (.commitSlot (freshFrame .a) (.fields ⟨n⟩)) s = .next (s.refusedWith .a
      (if 23 < n then .badArgument else if (s.slot n).takesWrites = false then (s.slot n).notFilling else .badArgument)) := by
  rw [exec_commitSlot h, State.serveCommitSlot_refused .a n (by simpa using hr), State.say_workingOn _ h,
    State.workingOn_slot]

/-- Settles O19: the request, the end of its scan, the grammar of R20, and the levels of an image. -/
theorem commitVerifiesThenSettlesSlot : Obligations.CommitVerifiesThenSettlesSlot := by
  refine ⟨?request, ?scan, ⟨fun _ => rfl, ImageCheck.feed_append, ?faults⟩, ⟨fun _ => rfl, ?rows⟩⟩
  case request =>
    intro s n h hw
    refine ⟨fun hn hf hv hd => ?accepted, fun hn hf hv hd => ?partly, fun hn => ?range, fun hn hf => ?state⟩
    case accepted =>
      have hq : (s.workingOn .a).staging.watch = none := hw
      rw [exec_commitSlot h, State.serveCommitSlot_accepted hn (by simp [Slot.takesWrites, hf, hv]) (by simpa using hd) hq,
        State.workingOn_slot, ← State.say_workingOn .accepted h]
      rfl
    case partly =>
      rw [exec_commitSlot_refused h (Or.inr (Or.inr hd))]
      simp [Slot.takesWrites, hf, hv]
    case range => rw [exec_commitSlot_refused h (Or.inl hn), if_pos hn]
    case state =>
      have ht : (s.slot n).takesWrites = false := by simp [Slot.takesWrites, hf]
      rw [exec_commitSlot_refused h (Or.inr (Or.inl ht)), if_neg (by omega), if_pos ht]
      rfl
  case scan =>
    intro s c rest hc hap hs hw hm hl hd
    rw [execVerifyScanEnd_eq hc hd]
    refine ⟨fun hf hv => ?valid, fun k why hf hv hk => ?invalid, fun hf => ?forget⟩
    case valid =>
      rw [hv, State.scanEnds_valid (s := s.withScans rest) hf, State.becomeReady_eq (s := s.withScans rest) hl hm]
      exact congrArg _ (State.settle_of_settled (State.settled_congr hs hw rfl rfl rfl rfl rfl rfl))
    case invalid =>
      rw [hv, State.scanEnds_invalid (s := s.withScans rest) why hf hk hap]
      exact ⟨_, congrArg _ (State.settle_of_settled (State.settled_congr hs hw rfl rfl rfl rfl rfl rfl)), rfl, rfl,
        State.released_scans s rest c.slot false, rfl⟩
    case forget =>
      rw [State.scanEnds_forget (s := s.withScans rest) _ hf]
      exact ⟨_, congrArg _ (State.settle_of_settled (State.settled_congr hs hw rfl rfl rfl rfl rfl rfl)), rfl, rfl,
        State.released_scans s rest c.slot false⟩
  case faults =>
    intro r c rest
    refine ⟨rfl, ?pixels, fun a => imageFault_repeat r c rest, imageFault_end r c rest, fun a => imageFault_noSpan r c rest,
      fun b => imageFault_literalCount_bad r c rest, fun a => imageFault_run_cut r c, rfl,
      fun b => imageFault_literal_cut r c rest⟩
    rintro n z rfl
    refine ⟨?_, ?_⟩
    · rintro a b ha rfl
      rw [imageFault_run r c rest ha]
      exact ImageCheck.result_pixels r c _ _ rest
    · rintro b levels h1 h2 rfl hl
      rw [imageFault_literal r c rest h1 h2 hl]
      exact ImageCheck.result_pixels r c _ _ rest
  case rows =>
    intro done cur rest
    refine ⟨rowsAfter_nil done cur, ?levels, fun a row => rowsAfter_repeat done rest, rowsAfter_end done cur rest⟩
    rintro px z hpx rfl
    refine ⟨?_, ?_⟩
    · rintro a b ha rfl
      rw [rowsAfter_run done cur rest ha]
      exact ImageDecode.rows_pixels done cur _ _ rest hpx
    · rintro b levels h1 h2 hl rfl
      rw [rowsAfter_literal done cur rest h1 hl (by rwa [length_literalLevels hl] at hpx)]
      exact ImageDecode.rows_pixels done cur _ _ rest hpx

end Sys2Proof.Machine

namespace Sys2Proof.Machine

/-! ### When a state on the way to DEEP or DEPLETED is settled -/

/-- Nothing comes about by itself where the engine takes nothing, no deferral runs, no watch is armed, and the sleep entry
waits for its image, its fade or its warning. -/
theorem State.settled_of_waiting {s : State} (hc : s.canTake = false) (hd : s.bs.deferTimer = none)
    (hw : s.staging.watch = none) (hf : s.fadeStageOver = false) (hr : s.railStage = false) : s.Settled := by
  rw [State.settled_iff]
  refine ⟨hc, by simp [State.deferralOver, hd], hf, by simp [State.railsAsked, hr], by simp [State.refreshAsked, hr], ?_,
    by simp [State.watchMet, hw]⟩
  simp only [State.railStage, Bool.or_eq_false_iff] at hr
  simp [State.railsReported, hr.1]

theorem State.canTake_of_noTake {s : State} (h : s.NoTake) : s.canTake = false := by
  rcases h with h | h <;> simp [State.canTake, h]

/-- In ENTERING_DEEP the engine takes no entry but one of origin SLEEP (R54). -/
theorem State.canTake_entering {s : State} (hp : s.bs.power = .enteringDeep)
    (h : ∀ e, s.turn.queue.head? = some e → e.origin ≠ .sleep) : s.canTake = false := by
  unfold State.canTake
  rw [hp]
  cases hq : s.turn.queue.head? with
  | none => simp
  | some e => simp [h e hq]

/-- The warning of the radio module leaves nothing to come about by itself: its timer runs (R143). -/
theorem State.warned_settled {s : State} (hc : s.canTake = false) (hd : s.bs.deferTimer = none)
    (hw : s.staging.watch = none) : s.warned.Settled :=
  State.settled_of_waiting hc hd hw (by simp [State.fadeStageOver, State.warned]) rfl

/-- DEPLETED is settled: the queue is empty and every timer of the sleep entries stopped (R149). -/
theorem State.settle_enterDepleted (s : State) : s.enterDepleted.settle = s.enterDepleted :=
  State.settle_quiet ⟨rfl, rfl, rfl⟩ (Or.inr rfl)

/-- DEPLETED as it is entered from a state that has the charge, parameters, shares and pins of `s`. -/
theorem State.entered_of_kept {s u : State} (hq : u.bs.q = s.bs.q) (hr : u.bs.r = s.bs.r) (hp : u.params = s.params)
    (hh : u.shares = s.shares) (hi : u.pins = s.pins) : s.EnteredDepleted u.now u.enterDepleted := by
  have h := u.enterDepleted_entered
  unfold State.EnteredDepleted at h ⊢
  rwa [hq, hr, hp, hh, hi] at h

/-! ### Entries the controller places, and their end -/

/-- An image entry placed where no miss wait is in progress (R52, R65). -/
theorem State.placeImage_eq {s : State} {p : Purpose} {k : PageKey} {why : Abandon} {q : List Entry} {ap : List Notice}
    (he : s.turn.engine ≠ .waitingPage)
    (h : PlacedAtHead ⟨.sleep, .goto k, .full, some p⟩ s.turn.queue s.notices.ap q ap) (hn : s.NoWake .turnOverrun) :
    s.placeImage p k why = { s with turn := { s.turn with queue := q }, notices := { s.notices with ap := ap } } := by
  refine Eq.trans ?_ (State.placeHead_eq h hn)
  unfold State.placeImage
  dsimp only
  split
  · rw [if_neg he]
  · rfl

/-- An image entry placed during a miss wait, which ends with TURN_ABANDONED (R52, R65). -/
theorem State.placeImage_miss {s : State} {p : Purpose} {k : PageKey} {why : Abandon} {q : List Entry} {ap : List Notice}
    {m : Miss} (he : s.turn.engine = .waitingPage) (hm : s.turn.miss = some m)
    (h : PlacedAtHead ⟨.sleep, .goto k, .full, some p⟩ s.turn.queue
      (s.notices.ap.modify 14 (fun x => x.raised (.turnAbandoned (some m.key) why))) q ap)
    (hn : s.NoWake .turnOverrun) (ha : s.NoWake .turnAbandoned) :
    s.placeImage p k why = { s with
      turn := { s.turn with queue := q, engine := .idle, miss := none }, notices := { s.notices with ap := ap } } := by
  have ht : { s with turn := { s.turn with engine := .idle, miss := none } }.abandon (some m.key) why
      = { s with turn := { s.turn with engine := .idle, miss := none } }.mark .turnAbandoned
          (.turnAbandoned (some m.key) why) := State.raise_quiet _ _ ha
  unfold State.placeImage
  simp only [hm, he, if_true]
  rw [ht]
  exact State.placeHead_eq h (State.NoWake.mark (s := { s with turn := _ }) hn .turnAbandoned _)

/-- An image entry whose page is shown already, or cannot be shown, ends as it is taken (R57, R65). -/
theorem State.takeGoto_ends {s : State} {e : Entry} {k : PageKey} (hp : imagePurpose e.purpose = true)
    (hi : s.turn.engine = .idle)
    (h : s.panel.shownKey = some k
      ∨ ∀ j, s.slotOfKey k = some j → (s.slot j).state ≠ .ready ∨ s.panel.wave ≠ .valid) :
    s.takeGoto e k = s.endImage e.purpose := by
  have hidle : { s with turn := { s.turn with engine := .idle } } = s := by rw [← hi]
  unfold State.takeGoto
  rw [if_neg (by simp [hp])]
  by_cases hs : s.panel.shownKey = some k
  · rw [if_pos hs, if_pos hp]
  · rw [if_neg hs]
    unfold State.lookUp
    split
    · next j hj =>
      split
      · next hr =>
        have hw := ((h.resolve_left hs) j hj).resolve_left (not_not.mpr hr)
        unfold State.beginTurn
        rw [if_neg (by simp [hp]), if_pos hw, if_pos hp, hidle]
      · rfl
    · rw [if_pos hp]

/-- An image entry whose page is READY is handed over to the panel drive in FULL (R61, R62, R65). -/
theorem State.takeGoto_begins {s : State} {e : Entry} {k : PageKey} {j : Nat} (hp : imagePurpose e.purpose = true)
    (hm : e.mode = .full) (hs : s.panel.shownKey ≠ some k) (hj : s.slotOfKey k = some j)
    (hr : (s.slot j).state = .ready) (hw : s.panel.wave = .valid) :
    s.takeGoto e k = s.handOver ⟨k, .full, .full, e.origin, e.purpose⟩ j := by
  have hc : s.chooseMode .full j = .full := by
    unfold State.chooseMode
    split
    · rfl
    · simp [Params.modeOf]
  unfold State.takeGoto
  rw [if_neg (by simp [hp]), if_neg hs]
  unfold State.lookUp
  simp only [hj, hr, if_true]
  unfold State.beginTurn
  rw [if_neg (by simp [hp]), if_neg (by simp [hw]), hm, hc]

/-- The engine takes a GOTO at the head of the queue, and what is left is settled. -/
theorem State.settle_takes {s t : State} {e : Entry} {k : PageKey} {qs : List Entry} (hc : s.canTake = true)
    (hq : s.turn.queue = e :: qs) (hk : e.kind = .goto k)
    (ht : { s with turn := { s.turn with queue := qs } }.takeGoto e k = t) (hs : t.Settled) : s.settle = t := by
  refine State.settle_step ?_ hs
  unfold State.nextAction State.takeHead
  rw [if_pos hc, hq]
  simp only [hk, ht]

/-- The engine may take an entry of origin SLEEP in DOZE and in ENTERING_DEEP (R54). -/
theorem State.canTake_sleepEntry {s : State} {e : Entry} {qs : List Entry} (hi : s.turn.engine = .idle)
    (hq : s.turn.queue = e :: qs) (ho : e.origin = .sleep) (hp : s.bs.power = .enteringDeep ∨ s.bs.power = .doze) :
    s.canTake = true := by
  unfold State.canTake
  rcases hp with hp | hp <;> simp [hi, hq, ho, hp]

/-- An image entry placed where the engine is IDLE, or in a miss wait that it ends: `z` is the state without the entry. -/
theorem State.placeImage_taken {b z : State} {p : Purpose} {k : PageKey} {why : Abandon} {qs : List Entry}
    {ap0 ap : List Notice} (hp : PlacedAtHead ⟨.sleep, .goto k, .full, some p⟩ b.turn.queue ap0
      (⟨.sleep, .goto k, .full, some p⟩ :: qs) ap)
    (hn : b.NoWake .turnOverrun) (ha : b.NoWake .turnAbandoned)
    (hz : (b.turn.engine = .idle ∧ ap0 = b.notices.ap
        ∧ z = { b with turn := { b.turn with queue := qs }, notices := { b.notices with ap := ap } })
      ∨ ∃ m, b.turn.engine = .waitingPage ∧ b.turn.miss = some m
        ∧ ap0 = b.notices.ap.modify 14 (fun x => x.raised (.turnAbandoned (some m.key) why))
        ∧ z = { b with
            turn := { b.turn with queue := qs, engine := .idle, miss := none }, notices := { b.notices with ap := ap } }) :
    ∃ tn, z = { b with turn := tn, notices := { b.notices with ap := ap } } ∧ tn.engine = .idle ∧ tn.queue = qs
      ∧ b.placeImage p k why = { b with
          turn := { tn with queue := ⟨.sleep, .goto k, .full, some p⟩ :: qs }, notices := { b.notices with ap := ap } } := by
  rcases hz with ⟨hi, rfl, rfl⟩ | ⟨m, hi, hm, rfl, rfl⟩
  · exact ⟨_, rfl, hi, rfl, State.placeImage_eq (by simp [hi]) hp hn⟩
  · exact ⟨_, rfl, rfl, rfl, State.placeImage_miss hi hm hp hn ha⟩

/-- What settling makes of an image entry that the engine takes at once: `t` comes of taking it, and is settled. -/
theorem State.settle_placed {b t : State} {tn : TurnEngine} {e : Entry} {k : PageKey} (hi : tn.engine = .idle)
    (ho : e.origin = .sleep) (hk : e.kind = .goto k) (hp : b.bs.power = .enteringDeep ∨ b.bs.power = .doze)
    (ht : { b with turn := tn }.takeGoto e k = t) (hs : t.Settled) :
    State.settle { b with turn := { tn with queue := e :: tn.queue } } = t :=
  State.settle_takes (State.canTake_sleepEntry hi rfl ho hp) rfl hk ht hs

/-- A turn of an image entry ends without a refill want or TURN_ABANDONED (R62, R65). -/
theorem State.turnEnded_image {s : State} {x : Turn} {e : EndReport} (h : s.turn.turn = some x)
    (hp : imagePurpose x.purpose = true) (he : e ≠ .held) :
    s.turnEnded e = { s with turn := { s.turn with turn := none, engine := s.restEngine } }.endImage x.purpose := by
  unfold State.turnEnded
  rw [h]
  cases e
  case held => exact absurd rfl he
  all_goals exact if_pos hp

/-! ### Updates that end -/

/-- The LIGHT grant set, and what the light unit makes of it (R104). -/
theorem State.setLight_eq (s : State) (g : Nat) : s.setLight g = { s with
    light := s.litBy g, head := { s.head with light := { s.head.light with grant := g } } } := by
  unfold State.setLight State.followGrant State.litBy
  dsimp only
  split
  · rfl
  · by_cases hc : s.lightComputes = true
    · rw [if_pos hc, if_pos (by exact hc)]; rfl
    · rw [if_neg hc, if_neg (by exact hc)]

/-- Under the power alarm a rebalance takes the LIGHT grant away and grants nothing (R117). -/
theorem State.rebalance_alarm {s : State} {c : AlarmCause} (h : s.head.alarm = some c) : s.rebalance = { s with
    light := s.litBy 0, head := { s.head with light := { s.head.light with grant := 0 } } } := by
  rw [State.rebalance, if_pos (by simp [State.alarmed, h]), State.setLight_eq]

end Sys2Proof.Machine

namespace Sys2Proof.Machine

/-! ### What an image entry's end does -/

/-- The end of the REST entry begins stage 3 (R143). -/
theorem State.endImage_rest {s : State} (hp : s.bs.power = .enteringDeep) (hs : s.bs.stage = some .restImage)
    (hr : s.bs.radio = true) : s.endImage (some .rest) = s.warned :=
  (if_pos ⟨hp, hs⟩).trans (State.startFade_on hr)

/-- The end of the EMPTY entry ends depletion (R148). -/
theorem State.endImage_empty {s : State} (hd : s.bs.depleting = true) : s.endImage (some .empty) = s.enterDepleted :=
  if_pos hd

/-- With the power alarm clear a turn's end leaves the engine IDLE (R62). -/
theorem State.restEngine_calm {s : State} (h : s.head.alarm = none) : s.restEngine = .idle := by
  simp [State.restEngine, State.alarmed, h]

/-- With the power alarm set a turn's end leaves the engine HALTED (R62). -/
theorem State.restEngine_alarm {s : State} {c : AlarmCause} (h : s.head.alarm = some c) : s.restEngine = .halted := by
  simp [State.restEngine, State.alarmed, h]

/-! ### A power wait that runs out -/

/-- The state once a power wait has run out at `d` and its turn has ended, the light given `f` (R84, R85, R117, R120). -/
def State.waitOver (s : State) (d f : Nat) : State :=
  { s with
    now := max s.now d, light := s.litBy f
    head := { s.head with
      panel := ⟨s.head.panel.grant, s.head.panel.grant⟩, panelWait := none, light := ⟨s.head.light.demand, f⟩ }
    panel := { s.panel with target := none, update := none, waitTimer := none }
    turn := { s.turn with turn := none, engine := .idle } }

/-- The power wait of an image entry's update runs out with the rails off (R62, R65, R84). -/
theorem exec_powerWaitExpiry_image {s : State} {x : Turn} {d f : Nat} (hx : s.turn.turn = some x)
    (hp : imagePurpose x.purpose = true) (hd : s.panel.waitTimer = some d) (hr : s.panel.rail = .off)
    (ha : s.head.alarm = none) (hw : s.head.apWait = none) (hk : s.head.parked = none)
    (hf : f = min s.head.light.demand (s.head.ceiling - s.head.loads)) :
    exec .powerWaitExpiry s = .next ((s.waitOver d f).endImage x.purpose).settle := by
  have hb : (s.atTime d).withdrawPanel.rebalance = { s with
      now := max s.now d, light := s.litBy f
      head := { s.head with
        panel := ⟨s.head.panel.grant, s.head.panel.grant⟩, panelWait := none, light := ⟨s.head.light.demand, f⟩ }
      panel := { s.panel with waitTimer := none } } := by
    rw [State.rebalance_eq (s := (s.atTime d).withdrawPanel) ⟨ha, hw, rfl, hk⟩, hf]
    rfl
  have he : exec .powerWaitExpiry s = .next ((s.atTime d).withdrawPanel.rebalance.abandonUpdate.settle) := by
    simp [exec, execPowerWaitExpiry, hd]
  rw [he, hb]
  unfold State.abandonUpdate State.holdIfHot
  rw [if_neg (by simp [State.dropUpdate, hr]), State.turnEnded_image (x := x) (by exact hx) hp (by simp)]
  rw [State.restEngine_calm (by exact ha)]
  rfl

/-! ### A drive frame that ends the update -/

/-- The PANEL entry takes the hot demand with no grant waiting (R117, R120). -/
theorem State.presentHot_eq {s : State} {h g : Nat} (hw : s.NoWaits) (hh : h = min (max 1 s.params.hotMW) s.head.panel.grant)
    (hg : g = min s.head.light.demand (s.head.ceiling - (s.head.ap.grant + h + s.head.radio.grant))) :
    s.presentHot = { s with
      light := s.litBy g, head := { s.head with panel := ⟨h, h⟩, light := ⟨s.head.light.demand, g⟩ } } := by
  subst hg hh
  unfold State.presentHot
  rw [State.rebalance_eq (by exact hw)]
  rfl

/-- The PANEL entry takes the hot demand under the power alarm (R117, R120). -/
theorem State.presentHot_alarm {s : State} {h : Nat} {c : AlarmCause} (ha : s.head.alarm = some c)
    (hh : h = min (max 1 s.params.hotMW) s.head.panel.grant) :
    s.presentHot = { s with
      light := s.litBy 0, head := { s.head with panel := ⟨h, h⟩, light := ⟨s.head.light.demand, 0⟩ } } := by
  subst hh
  unfold State.presentHot
  rw [State.rebalance_alarm (by exact ha)]
  rfl

/-- The state once the last frame of an update has shown its target, whose key is `k`, at `d`: the rails HOT at the demand
`h`, the light given `g`, UPDATE_DONE raised, the hold still to begin (R83, R89). -/
def State.drawn (s : State) (u : Update) (k : PageKey) (d h g : Nat) : State :=
  { s with
    now := max s.now d, light := s.litBy g
    notices := { s.notices with ap := s.notices.ap.modify 17 (fun n => n.raised (.updateDone k u.mode)) }
    head := { s.head with panel := ⟨h, h⟩, light := ⟨s.head.light.demand, g⟩ }
    panel := { s.panel with
      shown := some u.target, shownKey := some k, target := none
      fidelity := if u.mode = .fast then .twoLevel else .exact
      ghost := if u.mode = .full then 0 else min 255 (s.panel.ghost + 1)
      update := none, rail := .hot, riseTimer := none, holdTimer := none }
    slots := { s.slots with
      slots := s.slots.slots.set u.target { s.slot u.target with age := s.slots.use }
      use := min 4294967295 (s.slots.use + 1) } }

/-- The last frame of an update that the alarm does not stop (R88, R89). -/
theorem exec_frameEnd_completes {s : State} {u : Update} {p : Plan} {k : PageKey} {d h g : Nat}
    (hu : s.panel.update = some u) (hd : u.frameTimer = some d) (hp : u.plan = some p) (hs : u.stopping = false)
    (hf : p.frames ≤ u.frame + 1) (hn : s.NoWake .updateDone) (hw : s.NoWaits) (hk : (s.slot u.target).key = some k)
    (hh : h = min (max 1 s.params.hotMW) s.head.panel.grant)
    (hg : g = min s.head.light.demand (s.head.ceiling - (s.head.ap.grant + h + s.head.radio.grant))) :
    exec .frameEnd s = .next (((s.drawn u k d h g).startHold.turnEnded .completed).settle) := by
  have he : exec .frameEnd s = .next (((s.atTime d).completeUpdate u).settle) := by
    simp [exec, execFrameEnd, hu, hd, hp, State.frameEnds, hs, hf]
  have hkey : (s.atTime d |>.showTarget u.target (fidelityAfter u.mode) (ghostAfter u.mode s.panel.ghost)).panel.shownKey
      = some k := hk
  have hr : ((s.atTime d).showTarget u.target (fidelityAfter u.mode) (ghostAfter u.mode s.panel.ghost)).updateDone u.mode
      = ((s.atTime d).showTarget u.target (fidelityAfter u.mode) (ghostAfter u.mode s.panel.ghost)).mark .updateDone
          (.updateDone k u.mode) := by
    unfold State.updateDone
    rw [hkey]
    exact State.raise_quiet _ _ hn
  rw [he]
  unfold State.completeUpdate
  rw [show (s.atTime d).panel.ghost = s.panel.ghost from rfl, hr]
  unfold State.railsHot
  rw [State.presentHot_eq (by exact hw) (by exact hh) (by exact hg)]
  unfold State.showTarget
  rw [show ((s.atTime d).slot u.target).key = some k from hk]
  rfl

/-- The state once the frame after an alarm has ended the drive of an update at `d`: its target SHOWN with nothing known of
the panel, the rails falling at the demand `h`, and no light (R83, R91). -/
def State.stoppedDrive (s : State) (u : Update) (d h : Nat) : State :=
  { s with
    now := max s.now d, light := s.litBy 0
    head := { s.head with panel := ⟨h, h⟩, light := ⟨s.head.light.demand, 0⟩ }
    panel := { s.panel with
      shown := some u.target, shownKey := (s.slot u.target).key, target := none, fidelity := .unknown, update := none
      rail := .falling, riseTimer := none, holdTimer := none, fallTimer := some (max s.now d + s.params.railFallMs) }
    slots := { s.slots with
      slots := s.slots.slots.set u.target { s.slot u.target with age := s.slots.use }
      use := min 4294967295 (s.slots.use + 1) } }

/-- The frame after the power alarm ends the drive (R91). -/
theorem exec_frameEnd_aborts {s : State} {u : Update} {p : Plan} {c : AlarmCause} {d h : Nat}
    (hu : s.panel.update = some u) (hd : u.frameTimer = some d) (hp : u.plan = some p) (hs : u.stopping = true)
    (ha : s.head.alarm = some c) (hh : h = min (max 1 s.params.hotMW) s.head.panel.grant) :
    exec .frameEnd s = .next (((s.stoppedDrive u d h).turnEnded .aborted).settle) := by
  have he : exec .frameEnd s = .next (((s.atTime d).abortUpdate u).settle) := by
    simp [exec, execFrameEnd, hu, hd, hp, State.frameEnds, hs]
  rw [he]
  unfold State.abortUpdate State.railsFall
  rw [State.presentHot_alarm (by exact ha) (by exact hh)]
  rfl

/-- Starting the hold, or falling at once, touches the panel drive, the light and the allotments alone (R87). -/
theorem State.startHold_frame {s : State} (hw : s.NoWaits) :
    ∃ l hd pn, s.startHold = { s with light := l, head := hd, panel := pn } := by
  unfold State.startHold
  split
  · unfold State.railsFall
    rw [State.presentHot_eq (by exact hw) rfl rfl]
    exact ⟨_, _, _, rfl⟩
  · exact ⟨_, _, _, rfl⟩

end Sys2Proof.Machine

namespace Sys2Proof.Machine

/-! ### Closed streams -/

/-- What an entry of the stream table reads as after one is set (section 8.2). -/
theorem Staging.stream_setStream (g : Staging) (i j : Nat) (x : Option Stream) :
    (g.setStream i x).stream j = if j = i ∧ (i = 1 ∨ i = 2) then x else g.stream j := by
  unfold Staging.setStream Staging.stream
  by_cases h1 : i = 1
  · subst h1
    by_cases hj : j = 1 <;> simp [hj]
  · by_cases h2 : i = 2
    · subst h2
      by_cases hj : j = 1
      · simp [hj]
      · by_cases hj2 : j = 2 <;> simp [hj, hj2]
    · simp [h1, h2]

/-- A stream OPEN after a close was OPEN before it, and is another than the one closed (R161). -/
theorem Staging.isOpen_closeOpen {g : Staging} {r : CloseReason} {i j : Nat} (h : (g.closeOpen r i).isOpen j = true) :
    g.isOpen j = true ∧ j ≠ i := by
  unfold Staging.closeOpen at h
  split at h
  · unfold Staging.isOpen at h ⊢
    rw [Staging.stream_setStream] at h
    split at h
    · cases hs : g.stream i <;> simp [hs, Stream.closed] at h
    · next hi hn =>
      refine ⟨h, fun e => hn ⟨e, ?_⟩⟩
      unfold Staging.isOpen Staging.stream at hi
      by_contra hc
      rw [not_or] at hc
      simp [hc.1, hc.2] at hi
  · next hi => exact ⟨h, fun e => hi (e ▸ h)⟩

/-- Freeing an entry opens no stream (R152). -/
theorem Staging.isOpen_pruned {g : Staging} {i j : Nat} (h : (g.pruned i).isOpen j = true) : g.isOpen j = true := by
  unfold Staging.pruned at h
  split at h
  · unfold Staging.isOpen at h ⊢
    rw [Staging.stream_setStream] at h
    split at h
    · simp at h
    · exact h
  · exact h

/-- Once every OPEN stream is closed none is OPEN (R161). -/
theorem State.closeAllOpen_anyOpen (s : State) (r : CloseReason) : (s.closeAllOpen r).staging.anyOpen = false := by
  have hc : ∀ j, (s.closeAllOpen r).staging.isOpen j = true → s.staging.isOpen j = true ∧ j ≠ 1 ∧ j ≠ 2 := fun j h => by
    obtain ⟨h2, hj2⟩ := Staging.isOpen_closeOpen (Staging.isOpen_pruned (Staging.isOpen_pruned h))
    obtain ⟨h1, hj1⟩ := Staging.isOpen_closeOpen h2
    exact ⟨h1, hj1, hj2⟩
  have h1 : (s.closeAllOpen r).staging.isOpen 1 = false := Bool.eq_false_iff.mpr fun h => (hc 1 h).2.1 rfl
  have h2 : (s.closeAllOpen r).staging.isOpen 2 = false := Bool.eq_false_iff.mpr fun h => (hc 2 h).2.2 rfl
  rw [Staging.anyOpen, h1, h2, Bool.or_self]

/-- The ring kept over two closes, the first of which leaves what is queued and in writing. -/
theorem State.RingKept.trans {s t u : State} (h1 : s.RingKept t) (h2 : t.RingKept u)
    (hq : t.staging.queue = s.staging.queue) (hw : t.staging.writing = s.staging.writing) : s.RingKept u := by
  obtain ⟨a1, a2⟩ := h1
  obtain ⟨b1, b2⟩ := h2
  refine ⟨b1.trans a1, fun h => ?_⟩
  obtain ⟨c1, c2, c3, c4⟩ := a2 h
  obtain ⟨d1, d2, d3, d4⟩ := b2 (by rwa [hq, hw])
  exact ⟨d1.trans c1, d2.trans c2, d3.trans c3, d4.trans c4⟩

/-! ### The radio domain goes off -/

/-- Dropping the leases touches their own records alone (R126). -/
theorem State.dropLeases_frame (s : State) : ∃ radio, s.dropLeases = { s with
    head := { s.head with radio := radio, active := none, parked := none, unreleased := none } } := by
  unfold State.dropLeases
  dsimp only
  split
  · exact ⟨_, rfl⟩
  · next h =>
    refine ⟨s.head.radio, ?_⟩
    rw [← h]

/-- The radio domain switched off with no grant waiting: its lease, window, watch and notices go, the light takes what is
left, and every OPEN stream is closed (R117, R126, R146, R166, R173). -/
theorem State.radioOff_frame {s : State} {g : Nat} (hr : s.bs.radio = true) (hw : s.NoWaits)
    (hg : g = min s.head.light.demand (s.head.ceiling - (s.head.ap.grant + s.head.panel.grant))) :
    ∃ o f a b r w, s.radioOff = { s with
        pool := { s.pool with owners := o, free := f }
        staging := { s.staging with stream1 := a, stream2 := b, ring := r, write := w, watch := none }
        notices := { s.notices with rm := List.replicate 5 none }
        bs := { s.bs with radio := false }
        portR := s.portR.domainOff
        head := { s.head with
          radio := ⟨0, 0⟩, active := none, unreleased := none, light := ⟨s.head.light.demand, g⟩ }
        light := s.litBy g }
      ∧ s.radioOff.staging.anyOpen = false ∧ s.RingKept s.radioOff := by
  obtain ⟨h1, h2, h3, h4⟩ := hw
  obtain ⟨rad, hl⟩ := s.dropLeases_frame
  obtain ⟨o, f, a, b, r, w, hc⟩ := s.dropLeases.closeAllOpen_frame .radioReset
  have ho := s.dropLeases.closeAllOpen_anyOpen .radioReset
  have hk := s.dropLeases.closeAllOpen_ringKept .radioReset
  rw [hc, hl] at ho hk
  have he : s.radioOff = { s with
      pool := { s.pool with owners := o, free := f }
      staging := { s.staging with stream1 := a, stream2 := b, ring := r, write := w, watch := none }
      notices := { s.notices with rm := List.replicate 5 none }
      bs := { s.bs with radio := false }
      portR := s.portR.domainOff
      head := { s.head with
        radio := ⟨0, 0⟩, active := none, unreleased := none, light := ⟨s.head.light.demand, g⟩ }
      light := s.litBy g } := by
    unfold State.radioOff State.resetRadioSide
    rw [if_pos hr, hc, hl, State.rebalance_eq (by exact ⟨h1, h2, h3, rfl⟩), hg]
    simp only [h4]
    rfl
  refine ⟨o, f, a, b, r, w, he, ?_, ?_⟩
  · rw [he]; exact ho
  · rw [he]; exact hk

/-! ### The entry to DEEP -/

/-- Stage 1 of ENTERING_DEEP (R143). -/
def State.deepBegun (s : State) : State :=
  { s with
    bs := { s.bs with
      power := .enteringDeep, idleTimer := none, deferTimer := none, resumeKey := s.panel.shownKey
      stage := some .restImage } }

/-- With no REST slot and the radio ON, ENTERING_DEEP goes to stage 3 at once (R143). -/
theorem State.enterEnteringDeep_plain {s : State} (hr : s.slots.rest = none) (ho : s.bs.radio = true) :
    s.enterEnteringDeep = s.deepBegun.warned := by
  unfold State.enterEnteringDeep
  dsimp only
  rw [hr]
  exact State.startFade_on (s := s.deepBegun) ho

/-- With a page in the REST slot, ENTERING_DEEP places the REST entry (R65, R143). -/
theorem State.enterEnteringDeep_rest {s : State} {n : Nat} {k : PageKey} (hr : s.slots.rest = some n)
    (hk : (s.slot n).key = some k) : s.enterEnteringDeep = s.deepBegun.placeImage .rest k .sleep := by
  unfold State.enterEnteringDeep
  dsimp only
  rw [hr, Option.bind_some, hk]
  rfl

/-- The DOZE idle timer runs out at `d`. -/
def State.idleOut (s : State) (d : Nat) : State := { s with now := max s.now d, bs := { s.bs with idleTimer := none } }

/-- The DOZE idle timer runs out with the AP OFF and no depletion: the DEEP entry begins or is deferred (R142). -/
theorem exec_dozeIdleExpiry {s : State} {d : Nat} (hi : s.bs.idleTimer = some d) (ha : s.bs.ap = .off)
    (hd : s.bs.depleting = false) : exec .dozeIdleExpiry s = .next (s.idleOut d).beginDeepEntry.settle := by
  simp [exec, execDozeIdleExpiry, hi, ha, hd, State.idleOut, State.atTime]

/-- The DEEP entry begins where no stream is OPEN or no deferral is asked for (R142). -/
theorem State.beginDeepEntry_now {s : State} (h : s.params.deepDeferMin = 0 ∨ s.staging.anyOpen = false) :
    s.beginDeepEntry = s.enterEnteringDeep := by
  unfold State.beginDeepEntry
  rw [if_neg]
  rcases h with h | h <;> simp [h]

/-- The DEEP entry is deferred while a stream is OPEN (R142). -/
theorem State.beginDeepEntry_deferred {s : State} (hp : 0 < s.params.deepDeferMin) (ho : s.staging.anyOpen = true)
    (hd : s.bs.deferTimer = none) : s.beginDeepEntry
      = { s with bs := { s.bs with deferTimer := some (s.now + s.params.deepDeferMin * 60000) } } := by
  unfold State.beginDeepEntry
  rw [if_pos ⟨hp, ho⟩, if_neg (by simp [hd])]
  rfl

/-! ### Stage 4 and stage 6 -/

/-- The fade and the warning over, the radio goes off and, with the rails off and the engine IDLE, self-refresh is asked
for in the same step (R143). -/
theorem State.settle_radioStage {s u : State} (hf : s.canTake = false) (hd : s.bs.deferTimer = none)
    (ho : s.fadeStageOver = true) (hu : (s.closeAllOpen .sleep).radioOff = u) (hn : u.NoTake) (hi : u.turn.engine = .idle)
    (hud : u.bs.deferTimer = none) (hw : u.staging.watch = none) (hr : u.panel.rail = .off) (ha : u.head.alarm = none) :
    s.settle = { u with
      pool := { u.pool with mode := .entering }, bs := { u.bs with stage := some .selfRefresh } } := by
  have h1 : s.nextAction = some { u with bs := { u.bs with stage := some .rails } } := by
    unfold State.nextAction
    rw [if_neg (by simp [hf]), if_neg (by simp [State.deferralOver, hd]), if_pos ho, State.radioStage, hu]
  have hc : State.canTake { u with bs := { u.bs with stage := some .rails } } = false := State.canTake_of_noTake hn
  have h2 : State.nextAction { u with bs := { u.bs with stage := some .rails } } = some { u with
      pool := { u.pool with mode := .entering }, bs := { u.bs with stage := some .selfRefresh } } := by
    unfold State.nextAction
    rw [if_neg (by simp [hc]), if_neg (by simp [State.deferralOver, hud]), if_neg (by simp [State.fadeStageOver]),
      if_neg (by simp [State.railsAsked, hr]),
      if_pos (by simp [State.refreshAsked, State.railStage, hr, hi, State.alarmed, ha])]
    rfl
  have h3 : State.Settled { u with
      pool := { u.pool with mode := .entering }, bs := { u.bs with stage := some .selfRefresh } } :=
    State.settled_of_waiting (State.canTake_of_noTake hn) hud hw (by simp [State.fadeStageOver]) rfl
  have h3' : State.nextAction { u with
      pool := { u.pool with mode := .entering }, bs := { u.bs with stage := some .selfRefresh } } = none := by
    simpa [State.Settled] using h3
  unfold State.settle State.settleN
  rw [h1]
  dsimp only
  unfold State.settleN
  rw [h2]
  dsimp only
  unfold State.settleN
  rw [h3']

end Sys2Proof.Machine

namespace Sys2Proof.Machine

/-! ### The REST entry -/

/-- Stage 1 of ENTERING_DEEP as the DOZE idle timer runs out at `d` with no deferral running (R142, R143). -/
def State.deepFrom (s : State) (d : Nat) : State :=
  { s with
    now := max s.now d
    bs := { s.bs with
      power := .enteringDeep, idleTimer := none, resumeKey := s.panel.shownKey, stage := some .restImage } }

theorem State.deepBegun_idleOut {s : State} (d : Nat) (h : s.bs.deferTimer = none) :
    (s.idleOut d).deepBegun = s.deepFrom d := by
  simp only [State.deepBegun, State.idleOut, State.deepFrom, h]

/-- The DOZE idle timer runs out with a page in the REST slot: the REST entry is placed, and the engine may take it. -/
theorem exec_dozeIdleExpiry_rest {s : State} {d n : Nat} {k : PageKey} (hi : s.bs.idleTimer = some d) (ha : s.bs.ap = .off)
    (hp : s.bs.depleting = false) (hd : s.bs.deferTimer = none)
    (ho : s.params.deepDeferMin = 0 ∨ s.staging.anyOpen = false) (hr : s.slots.rest = some n)
    (hk : (s.slot n).key = some k) :
    exec .dozeIdleExpiry s = .next ((s.deepFrom d).placeImage .rest k .sleep).settle := by
  rw [exec_dozeIdleExpiry hi ha hp, State.beginDeepEntry_now (by exact ho),
    State.enterEnteringDeep_rest (by exact hr) (by exact hk), State.deepBegun_idleOut d hd]

/-- An update of the REST entry has ended: stage 3 begins, and nothing more comes about by itself (R143). -/
theorem State.settle_restEnded {s : State} (hp : s.bs.power = .enteringDeep) (hs : s.bs.stage = some .restImage)
    (hr : s.bs.radio = true) (hd : s.bs.deferTimer = none) (hw : s.staging.watch = none)
    (hq : ∀ e, s.turn.queue.head? = some e → e.origin ≠ .sleep) :
    (s.endImage (some .rest)).settle = s.warned := by
  rw [State.endImage_rest hp hs hr]
  exact State.settle_of_settled (State.warned_settled (State.canTake_entering hp hq) hd hw)

/-- The state with the radio notice timer run out at `d` (R143). -/
def State.noticeOut (s : State) (d : Nat) : State :=
  { s with now := max s.now d, bs := { s.bs with radioTimer := none } }

theorem exec_radioNoticeExpiry {s : State} {d : Nat} (h : s.bs.radioTimer = some d) :
    exec .radioNoticeExpiry s = .next (s.noticeOut d).settle := by
  simp only [exec, execRadioNoticeExpiry, h]
  rfl

/-- The radio notice timer runs out with the fade complete, the rails off and the engine IDLE: the streams close, the radio
goes off and self-refresh is asked for (R143). -/
theorem exec_radioNoticeExpiry_over {s : State} {d g : Nat} (h : s.bs.radioTimer = some d) (hs : s.bs.stage = some .fade)
    (hn : s.NoTake) (hd : s.bs.deferTimer = none) (hf : s.fadeComplete = true) (hr : s.bs.radio = true) (hw : s.NoWaits)
    (ho : s.panel.rail = .off) (hi : s.turn.engine = .idle)
    (hg : g = min s.head.light.demand (s.head.ceiling - (s.head.ap.grant + s.head.panel.grant))) :
    ∃ t, exec .radioNoticeExpiry s = .next t
      ∧ t = { s with
          now := max s.now d
          bs := { s.bs with radioTimer := none, radio := false, stage := some .selfRefresh }
          pool := { s.pool with mode := .entering, owners := t.pool.owners, free := t.pool.free }
          portR := s.portR.domainOff
          head := { s.head with
            radio := ⟨0, 0⟩, active := none, unreleased := none, light := ⟨s.head.light.demand, g⟩ }
          light := s.litBy g
          staging := { s.staging with
            stream1 := t.staging.stream1, stream2 := t.staging.stream2, ring := t.staging.ring
            write := t.staging.write, watch := none }
          notices := { s.notices with rm := List.replicate 5 none } }
      ∧ t.staging.anyOpen = false ∧ s.RingKept t := by
  obtain ⟨o, f, a, b, r, w, hc⟩ := (s.noticeOut d).closeAllOpen_frame .sleep
  have hk := (s.noticeOut d).closeAllOpen_ringKept .sleep
  have hq : ((s.noticeOut d).closeAllOpen .sleep).staging.queue = s.staging.queue := by rw [hc]; rfl
  have hb : ((s.noticeOut d).closeAllOpen .sleep).staging.writing = s.staging.writing := by rw [hc]; rfl
  obtain ⟨o', f', a', b', r', w', hu, hopen, hk'⟩ := State.radioOff_frame (s := (s.noticeOut d).closeAllOpen .sleep)
    (g := g) (by rw [hc]; exact hr) (by rw [hc]; exact hw) (by rw [hc]; exact hg)
  have hring := State.RingKept.trans hk hk' hq hb
  rw [hu, hc] at hring hopen
  rw [hc] at hu
  have hfade : (s.noticeOut d).fadeStageOver = true := by
    simp only [State.fadeStageOver, Bool.and_eq_true, decide_eq_true_eq]
    exact ⟨⟨hs, hf⟩, rfl⟩
  have hset := State.settle_radioStage (s := s.noticeOut d) (State.canTake_of_noTake hn) hd hfade
    ((congrArg State.radioOff hc).trans hu) hn hi hd rfl ho hw.1
  exact ⟨_, (exec_radioNoticeExpiry h).trans (congrArg _ hset), rfl, hopen, hring⟩

/-- Settles O50: the idle timer and the deferral, the radio notice timer, self-refresh, the REST entry, and its end. -/
theorem deepEntryGoesStageByStage : Obligations.DeepEntryGoesStageByStage := by
  refine ⟨?entry, ⟨?warning, ?refresh⟩, ?rest, ?ends⟩
  case entry =>
    intro s hn hs hw hrest hr
    refine ⟨fun d hi => ⟨fun ha => ?again, fun ha hp hd hm ho => ?deferred, fun ha hp hd ho => ?begun⟩,
      fun d hd => ?deferralOver⟩
    case again =>
      simp only [exec, execDozeIdleExpiry, hi, if_pos ha]
      rfl
    case deferred =>
      rw [exec_dozeIdleExpiry hi ha hp, State.beginDeepEntry_deferred (by exact hm) (by exact ho) (by exact hd)]
      refine congrArg _ (State.settle_of_settled ((State.settled_iff _).mpr ?_))
      refine ⟨State.canTake_of_noTake hn, ?_, ?_, ?_, ?_, ?_, ?_⟩
      · simp [State.deferralOver, State.idleOut, ho]
      · simp [State.fadeStageOver, State.idleOut, hs]
      · simp [State.railsAsked, State.railStage, State.idleOut, hs]
      · simp [State.refreshAsked, State.railStage, State.idleOut, hs]
      · simp [State.railsReported, State.idleOut, hs]
      · simp [State.watchMet, State.idleOut, hw]
    case begun =>
      rw [exec_dozeIdleExpiry hi ha hp, State.beginDeepEntry_now (by exact ho),
        State.enterEnteringDeep_plain (by exact hrest) (by exact hr)]
      exact congrArg _ (State.settle_of_settled (State.warned_settled (State.canTake_of_noTake hn) rfl hw))
    case deferralOver =>
      obtain ⟨o, f, a, b, r, w, hc⟩ := (s.atTime d).closeAllOpen_frame .sleep
      have hopen := (s.atTime d).closeAllOpen_anyOpen .sleep
      have hring := (s.atTime d).closeAllOpen_ringKept .sleep
      have he : exec .deferralExpiry s = .next (((s.atTime d).closeAllOpen .sleep).enterEnteringDeep.settle) := by
        simp only [exec, execDeferralExpiry, hd]
      rw [hc] at hopen hring
      rw [he, hc, State.enterEnteringDeep_plain (by exact hrest) (by exact hr)]
      exact ⟨_, congrArg _ (State.settle_of_settled (State.warned_settled (State.canTake_of_noTake hn) rfl hw)), rfl,
        hopen, hring⟩
  case warning =>
    intro s d h hs hn hd hw
    refine ⟨fun hf => ?fading, fun hf hr hwaits ho hi => exec_radioNoticeExpiry_over h hs hn hd hf hr hwaits ho hi rfl⟩
    rw [exec_radioNoticeExpiry h]
    have hfade : (s.noticeOut d).fadeStageOver = false := by
      rw [State.fadeStageOver, show (s.noticeOut d).fadeComplete = false from hf]
      simp
    have hrail : (s.noticeOut d).railStage = false := by simp [State.railStage, State.noticeOut, hs]
    exact congrArg _ (State.settle_of_settled (State.settled_of_waiting (State.canTake_of_noTake hn) hd hw hfade hrail))
  case refresh =>
    intro s
    refine ⟨fun hm hh => ?_, fun hm => if_neg hm, fun hm => if_pos hm, fun hm => if_neg hm⟩
    simp only [exec, execSelfRefreshEntered, if_pos hm, hh, Bool.false_eq_true, if_false]
    rfl
  case rest =>
    rintro s y d n k e ap0 ap qs hi ha hp hs hd ho hw hr hrest hk hno hna rfl hpl rfl
    rw [exec_dozeIdleExpiry_rest hi ha hp hd ho hrest hk]
    refine ⟨fun hidle hwait hap => ?busy, fun z hz => ?takes⟩
    case busy =>
      subst hap
      rw [State.placeImage_eq (s := s.deepFrom d) hwait hpl hno]
      exact congrArg _ (State.settle_of_settled
        (State.settled_of_waiting (State.canTake_of_noTake (Or.inl hidle)) hd hw rfl rfl))
    case takes =>
      obtain ⟨tn, rfl, htn, rfl, hplace⟩ := State.placeImage_taken (b := s.deepFrom d) (z := z) hpl hno hna (by exact hz)
      rw [hplace]
      refine ⟨fun hq hends => ?unshown, fun j hne hj hready hv => ?begins⟩
      case unshown =>
        refine congrArg _ (State.settle_placed
          (b := { s.deepFrom d with notices := { s.notices with ap := ap } }) htn rfl rfl (Or.inl rfl)
          ((State.takeGoto_ends rfl htn (by exact hends)).trans
            (State.endImage_rest rfl rfl (by exact hr))) ?_)
        exact State.warned_settled (State.canTake_entering rfl hq) hd hw
      case begins =>
        refine congrArg _ (State.settle_placed
          (b := { s.deepFrom d with notices := { s.notices with ap := ap } }) htn rfl rfl (Or.inl rfl)
          (State.takeGoto_begins rfl rfl (by exact hne) (by exact hj) (by exact hready) (by exact hv)) ?_)
        exact State.settled_of_waiting (State.canTake_of_noTake (Or.inl (by simp))) hd hw rfl rfl
  case ends =>
    intro s x hx hpur hp hs hd hw hr hq
    have himage : imagePurpose x.purpose = true := by rw [hpur]; rfl
    refine ⟨fun d f hwt hrail halarm hap hpk hf => ?waitOver, fun u p d h hu hft hpl hh =>
      ⟨fun k g hst hfr hn hwaits hhold hk hg => ?drawn, fun c hst hc => ?stopped⟩⟩
    case waitOver =>
      rw [exec_powerWaitExpiry_image hx himage hwt hrail halarm hap hpk hf, hpur]
      exact congrArg _ (State.settle_restEnded (s := s.waitOver d f) hp hs hr hd hw hq)
    case drawn =>
      have hstart : (s.drawn u k d h g).startHold = { s.drawn u k d h g with
          panel := { (s.drawn u k d h g).panel with holdTimer := some (max s.now d + s.params.railHoldMs) } } := by
        unfold State.startHold
        rw [if_neg (by show ¬ s.params.railHoldMs = 0; omega)]
        rfl
      rw [exec_frameEnd_completes hu hft hpl hst hfr hn hwaits hk hh hg, hstart,
        State.turnEnded_image (x := x) (by exact hx) himage (by simp), State.restEngine_calm (by exact hwaits.1), hpur]
      exact congrArg _ (State.settle_restEnded (by exact hp) (by exact hs) (by exact hr) (by exact hd) (by exact hw)
        (by exact hq))
    case stopped =>
      rw [exec_frameEnd_aborts hu hft hpl hst hc hh, State.turnEnded_image (x := x) (by exact hx) himage (by simp),
        State.restEngine_alarm (c := c) (by exact hc), hpur]
      exact congrArg _ (State.settle_restEnded (by exact hp) (by exact hs) (by exact hr) (by exact hd) (by exact hw)
        (by exact hq))

end Sys2Proof.Machine

namespace Sys2Proof.Machine

/-! ### Depletion begins -/

/-- What the grace timer run out at `d` off charge leaves before depletion begins. -/
def State.graceOut (s : State) (d : Nat) : State :=
  { s with now := max s.now d, bs := { s.bs with graceTimer := none } }

/-- The grace timer runs out off charge, and depletion begins (R138, R148). -/
theorem exec_criticalGraceExpiry {s : State} {d : Nat} (h : s.bs.graceTimer = some d) (hc : s.bs.charger = .absent)
    (hd : s.bs.depleting = false) : exec .criticalGraceExpiry s = .next (s.graceOut d).beginDepletion.settle := by
  simp [exec, execCriticalGraceExpiry, h, State.onCharge, hc, hd, State.graceOut, State.atTime]

/-- The memory's mode once an entry to DEEP, or DEEP itself, is left (R14, R148). -/
def Pool.modeAwake (p : Pool) : PoolMode :=
  if p.mode = .entering then .active else if p.mode = .selfRefresh then .leaving else p.mode

/-- Leaving self-refresh changes the mode of the memory alone (R14). -/
theorem Pool.leaveRefresh_eq (p : Pool) : p.leaveRefresh = { p with mode := p.modeAwake } := by
  obtain ⟨_, _, _, _, mode, _, _, _, _⟩ := p
  cases mode <;> rfl

/-- The light once an entry to DEEP, or DEEP itself, is left (R110, R148). -/
def State.lightAwake (s : State) : LightUnit :=
  if s.bs.power = .deep then
    { s.light with fading := false, running := true, duty := ⟨0, 0, s.params.deadGap⟩, buffer := none }
  else { s.light with fading := false }

/-- Leaving sleep touches the memory and the light alone (R110, R148). -/
theorem State.leaveSleep_eq (s : State) :
    s.leaveSleep = { s with pool := { s.pool with mode := s.pool.modeAwake }, light := s.lightAwake } := by
  unfold State.leaveSleep State.lightAwake
  rw [Pool.leaveRefresh_eq]
  dsimp only
  split <;> rfl

/-- What depletion begins with where both domains are OFF: the entries to sleep are given up, the memory and the light leave
DEEP, and the power state is DOZE with no idle timer (R148). -/
def State.sleepGivenUp (s : State) : State :=
  { s with
    pool := { s.pool with mode := s.pool.modeAwake }, light := s.lightAwake
    bs := { s.bs with
      power := .doze, idleTimer := none, depleting := true, stage := none, deferTimer := none, radioTimer := none
      apOffTimer := none, sleepTarget := none } }

/-- The depletion timer starts as the EMPTY entry is placed (R148). -/
def State.depletionTimed (s : State) : State := { s with bs := { s.bs with depletionTimer := some (s.now + 10000) } }

/-- Depletion with both domains OFF: DEPLETED at once, or the EMPTY entry first (R65, R148). -/
theorem State.beginDepletion_off {s : State} {o : Option PageKey} (ha : s.bs.ap = .off) (hr : s.bs.radio = false)
    (hb : s.slots.empty.bind (fun n => (s.slot n).key) = o) :
    s.beginDepletion = o.elim s.sleepGivenUp.enterDepleted
      (fun k => s.sleepGivenUp.depletionTimed.placeImage .empty k .battery) := by
  have hw : s.withdrawAp = s := if_neg (by simp [ha])
  have hg : s.bs.giveUp = { s.bs with
      depleting := true, stage := none, deferTimer := none, radioTimer := none, apOffTimer := none
      sleepTarget := none } := by simp [Controller.giveUp, ha]
  have ho : ∀ u : State, u.bs.radio = false → u.radioOff = u := fun u hu => if_neg (by simp [hu])
  unfold State.beginDepletion
  rw [hw, s.leaveSleep_eq, ha]
  dsimp only
  rw [if_neg (by simp), hg, ho _ (by exact hr)]
  split
  · next k hk => obtain rfl : o = some k := hb.symm.trans hk; rfl
  · next hk => obtain rfl : o = none := hb.symm.trans hk; rfl

/-- Depletion as it begins with a page in the EMPTY slot and both domains OFF, the grace timer run out at `d` (R148). -/
def State.depletionFrom (s : State) (d : Nat) : State := (s.graceOut d).sleepGivenUp.depletionTimed

/-- The grace timer runs out with a page in the EMPTY slot: the EMPTY entry is placed, and the engine may take it. -/
theorem exec_criticalGraceExpiry_empty {s : State} {d n : Nat} {k : PageKey} (h : s.bs.graceTimer = some d)
    (hc : s.bs.charger = .absent) (ha : s.bs.ap = .off) (hr : s.bs.radio = false) (hd : s.bs.depleting = false)
    (hn : s.slots.empty = some n) (hk : (s.slot n).key = some k) :
    exec .criticalGraceExpiry s = .next ((s.depletionFrom d).placeImage .empty k .battery).settle := by
  rw [exec_criticalGraceExpiry h hc hd, State.beginDepletion_off (o := some k) (by exact ha) (by exact hr)
    (by simp only [State.graceOut, hn, Option.bind_some]; exact hk)]
  rfl

/-- DEPLETED is settled (R149). -/
theorem State.enterDepleted_settled (s : State) : s.enterDepleted.Settled :=
  State.settled_of_quiet ⟨rfl, rfl, rfl⟩ (Or.inr rfl)

/-- The end of the EMPTY entry ends depletion, and nothing more comes about by itself (R148). -/
theorem State.settle_emptyEnded {s : State} (h : s.bs.depleting = true) :
    (s.endImage (some .empty)).settle = s.enterDepleted := by
  rw [State.endImage_empty h, State.settle_enterDepleted]

/-- Settles O52: the grace and depletion timers, the EMPTY entry, and the end of its update. -/
theorem depletionComesToDepleted : Obligations.DepletionComesToDepleted := by
  refine ⟨⟨fun s d hg => ⟨fun hc => ?charged, fun hc ha hr hd hn => ?atOnce⟩, fun s d ht => ?timeOut⟩, ?image, ?ends⟩
  case charged =>
    have ho : s.onCharge = true := decide_eq_true hc
    simp only [exec, execCriticalGraceExpiry, hg, ho, if_true]
    rfl
  case atOnce =>
    refine ⟨_, ?_, State.entered_of_kept (u := (s.graceOut d).sleepGivenUp) rfl rfl rfl rfl rfl⟩
    rw [exec_criticalGraceExpiry hg hc hd, State.beginDepletion_off (o := none) (by exact ha) (by exact hr)
      (by simp [State.graceOut, hn])]
    exact congrArg _ (State.settle_enterDepleted _)
  case timeOut =>
    refine ⟨_, ?_, State.entered_of_kept (u := s.atTime d) rfl rfl rfl rfl rfl⟩
    simp only [exec, execDepletionTimerExpiry, ht]
  case image =>
    rintro s y d n k e ap0 ap qs lt md hg hc ha hr hd hw hn hk hno hna rfl hpl hmd hlt rfl
    obtain rfl : md = s.pool.modeAwake := hmd
    obtain rfl : lt = s.lightAwake := hlt
    rw [exec_criticalGraceExpiry_empty hg hc ha hr hd hn hk]
    refine ⟨fun hidle hwait hap => ?busy, fun z hz => ?takes⟩
    case busy =>
      subst hap
      rw [State.placeImage_eq (s := s.depletionFrom d) hwait hpl hno]
      exact congrArg _ (State.settle_of_settled
        (State.settled_of_waiting (State.canTake_of_noTake (Or.inl hidle)) rfl hw rfl rfl))
    case takes =>
      obtain ⟨tn, rfl, htn, rfl, hplace⟩ :=
        State.placeImage_taken (b := s.depletionFrom d) (z := z) hpl hno hna (by exact hz)
      rw [hplace]
      refine ⟨fun hends => ?unshown, fun j hne hj hready hv => ?begins⟩
      case unshown =>
        refine ⟨_, congrArg _ (State.settle_placed
          (b := { s.depletionFrom d with notices := { s.notices with ap := ap } }) htn rfl rfl (Or.inr rfl)
          ((State.takeGoto_ends rfl htn (by exact hends)).trans (State.endImage_empty rfl))
          (State.enterDepleted_settled _)), ?_⟩
        exact State.entered_of_kept
          (u := { s.depletionFrom d with turn := tn, notices := { s.notices with ap := ap } }) rfl rfl rfl rfl rfl
      case begins =>
        refine congrArg _ (State.settle_placed
          (b := { s.depletionFrom d with notices := { s.notices with ap := ap } }) htn rfl rfl (Or.inr rfl)
          (State.takeGoto_begins rfl rfl (by exact hne) (by exact hj) (by exact hready) (by exact hv)) ?_)
        exact State.settled_of_waiting (State.canTake_of_noTake (Or.inl (by simp))) rfl hw rfl rfl
  case ends =>
    intro s x hx hpur hd
    have himage : imagePurpose x.purpose = true := by rw [hpur]; rfl
    have hdone : ∀ (u : State), u.bs.depleting = true → (u.endImage x.purpose).settle = u.enterDepleted :=
      fun u hu => by rw [hpur, State.settle_emptyEnded hu]
    refine ⟨fun d hwt hrail halarm hap hpk => ?waitOver, fun u p d hu hft hpl =>
      ⟨fun k hst hfr hn hwaits hk => ?drawn, fun c hst hc => ?stopped⟩⟩
    case waitOver =>
      rw [exec_powerWaitExpiry_image hx himage hwt hrail halarm hap hpk rfl, hdone _ (by exact hd)]
      exact ⟨_, rfl, State.entered_of_kept (by exact rfl) rfl rfl rfl rfl⟩
    case drawn =>
      rw [exec_frameEnd_completes hu hft hpl hst hfr hn hwaits hk rfl rfl]
      generalize hh : min (max 1 s.params.hotMW) s.head.panel.grant = h
      generalize hg : min s.head.light.demand (s.head.ceiling - (s.head.ap.grant + h + s.head.radio.grant)) = g
      obtain ⟨l, hd', pn, hstart⟩ := State.startHold_frame (s := s.drawn u k d h g) (by exact hwaits)
      rw [hstart, State.turnEnded_image (x := x) (by exact hx) himage (by simp), hdone _ (by exact hd)]
      exact ⟨_, rfl, State.entered_of_kept (by exact rfl) rfl rfl rfl rfl⟩
    case stopped =>
      rw [exec_frameEnd_aborts hu hft hpl hst hc rfl, State.turnEnded_image (x := x) (by exact hx) himage (by simp),
        hdone _ (by exact hd)]
      exact ⟨_, rfl, State.entered_of_kept (by exact rfl) rfl rfl rfl rfl⟩

end Sys2Proof.Machine

namespace Sys2Proof.Machine

/-! ### Answers at a port that works on a request -/

/-- The answer to a request that a port works on, and nothing else differs (R177). -/
theorem State.give_workingOn (s : State) (p : Port) (a : Answer) : (s.workingOn p).give p a = s.replied p a := by
  cases p <;> rfl

/-- A fresh request that is answered at once, with nothing else changed. -/
theorem State.frame_answers {s : State} {p : Port} {q : Req} {a : Answer} (h : s.Ready p) (hq : q ≠ .resetPort)
    (hp : permitted (kindOf q) p = true) (hs : (s.workingOn p).serve p q = (s.workingOn p).give p a) :
    s.frame (freshFrame p) (.request q) = s.replied p a := by
  rw [State.frame_serve h hq hp, hs, State.give_workingOn]

/-! ### Status requests -/

/-- The space figure rests on no port (R165). -/
theorem State.space_workingOn (s : State) (p : Port) : (s.workingOn p).space = s.space := by
  cases p <;> exact State.space_congr rfl rfl rfl rfl rfl rfl

/-- What STAGING_STATUS reports rests on no port (R164, R165). -/
theorem State.stagingView_workingOn (s : State) : (s.workingOn .a).stagingView = s.stagingView := by
  simp only [State.stagingView, State.space_workingOn]
  rfl

/-- Settles O13: each of the nine answers with its view, which the port working on the request does not change. -/
theorem statusRequestsChangeNothing : Obligations.StatusRequestsChangeNothing := by
  intro s h
  have answers {q : Req} {a : Answer} (hq : q ≠ .resetPort) (hp : permitted (kindOf q) .a = true)
      (hs : (s.workingOn .a).serve .a q = (s.workingOn .a).give .a a) :
      s.frame (freshFrame .a) (.request q) = s.replied .a a := State.frame_answers h hq hp hs
  refine ⟨congrArg _ (answers (by simp) rfl rfl), congrArg _ (answers (by simp) rfl rfl),
    congrArg _ (answers (by simp) rfl rfl), congrArg _ (answers (by simp) rfl rfl),
    congrArg _ (answers (by simp) rfl rfl), congrArg _ (answers (by simp) rfl rfl),
    congrArg _ (answers (by simp) rfl rfl), congrArg _ (answers (by simp) rfl ?staging),
    congrArg _ (answers (by simp) rfl rfl)⟩
  case staging =>
    rw [← State.stagingView_workingOn]
    rfl

/-! ### Slot records -/

theorem State.slot_setSlot_ne {s : State} {m n : Nat} (x : Slot) (h : m ≠ n) : (s.setSlot n x).slot m = s.slot m := by
  simp [State.setSlot, State.slot, List.getD_eq_getElem?_getD, List.getElem?_set_ne (Ne.symm h)]

theorem State.slot_emptySlot_same {s : State} {n : Nat} (b : Bool) (h : n < s.slots.slots.length) :
    (s.emptySlot n b).slot n = Slot.cleared b := State.slot_setSlot_same (s := s) _ h

theorem State.slot_emptySlot_ne {s : State} {m n : Nat} (b : Bool) (h : m ≠ n) :
    (s.emptySlot n b).slot m = s.slot m := State.slot_setSlot_ne (s := s) _ h

/-- A number that no record has reads as an EMPTY slot. -/
theorem State.slot_of_length_le {s : State} {n : Nat} (h : s.slots.slots.length ≤ n) :
    s.slot n = Slot.cleared false := by
  simp [State.slot, List.getD_eq_getElem?_getD, List.getElem?_eq_none h]

/-- A slot that is not EMPTY is one of the table. -/
theorem State.lt_length_of_slot {s : State} {n : Nat} (h : (s.slot n).state ≠ .empty) : n < s.slots.slots.length := by
  by_contra hn
  rw [State.slot_of_length_le (not_lt.mp hn)] at h
  exact h rfl

/-- All that becoming EMPTY changes (R4, R21, R25). -/
theorem State.emptySlot_frame (s : State) (n : Nat) (b : Bool) : s.emptySlot n b = { s with
    pool := { s.pool with owners := (s.emptySlot n b).pool.owners, free := (s.emptySlot n b).pool.free }
    slots := { s.slots with
      slots := s.slots.slots.set n (Slot.cleared b)
      rest := (s.emptySlot n b).slots.rest, empty := (s.emptySlot n b).slots.empty } } := rfl

theorem slotInRange_of_le {n : Nat} (h : n ≤ 23) : slotInRange n = true := decide_eq_true (Nat.lt_succ_of_le h)

theorem slotInRange_of_lt {n : Nat} (h : 23 < n) : slotInRange n = false := decide_eq_false (not_lt.mpr h)

/-! ### WRITE_SLOT (R29, R30, R40) -/

theorem Slot.takesWrites_iff (x : Slot) : x.takesWrites = true ↔ x.state = .filling ∧ x.reservation = true := by
  simp [Slot.takesWrites]

theorem Slot.takesWrites_of_state {x : Slot} (h : x.state ≠ .filling) : x.takesWrites = false := by
  simp [Slot.takesWrites, h]

theorem payloadInRange_iff (l : List Byte) : payloadInRange l = true ↔ 1 ≤ l.length ∧ l.length ≤ 4096 := by
  simp [payloadInRange, inRange, Config.payloadMax]

/-- WRITE_SLOT in range, by the slot's record. -/
theorem State.serveWriteSlot_inRange (s : State) (p : Port) {x : WriteSlotArgs} (hn : x.slot ≤ 23)
    (hp : payloadInRange x.payload = true) : s.serveWriteSlot p x =
      if (s.slot x.slot).takesWrites = false then s.say p (s.slot x.slot).notFilling
      else if x.offset ≠ (s.slot x.slot).written then s.say p .badOffset
      else if (s.slot x.slot).declared < x.offset + x.payload.length then s.say p .badArgument
      else s.setWork p (some (writeWork x.slot (s.slot x.slot) x.offset x.payload)) := by
  simp [State.serveWriteSlot, slotInRange_of_le hn, hp]

/-- A port that holds no frame takes none (R176). -/
theorem State.takeHeld_none {s : State} {p : Port} (h : (s.port p).held = none) : s.takeHeld p = s := by
  unfold State.takeHeld
  rw [h]
  cases (s.port p).busy <;> rfl

/-- An answer leaves a held frame held (R177). -/
theorem PortUnit.answered_held (u : PortUnit) (a : Answer) : (u.answered a).held = u.held := by
  unfold PortUnit.answered
  split <;> rfl

/-- The answer at the end of a WRITE_SLOT's work, with what it counts (R30, R40). -/
theorem State.writeSlotEnds_held (s : State) (n len stop : Nat) (lost : Bool) :
    (s.writeSlotEnds .a n len stop lost).portA.held = s.portA.held := by
  unfold State.writeSlotEnds
  dsimp only
  split
  · exact PortUnit.answered_held _ _
  · split <;> exact PortUnit.answered_held _ _

/-- The end of a WRITE_SLOT's work at a port that holds no frame (R13, R30). -/
theorem exec_writeSlotEnd {s : State} {w : Work} {n len : Nat} (hw : s.pool.workA = some w)
    (hk : w.kind = .writeSlot n len) (hd : w.stop ≤ w.pos) (hh : s.portA.held = none) :
    exec .writeSlotEnd s = .next ((s.setWork .a none).writeSlotEnds .a n len w.stop w.lost) := by
  have hf : finishedWork s.pool.workA (fun k => (writeOf k).isSome) = some w := by
    simp [finishedWork, hw, hk, writeOf, Work.unfinished, Nat.not_lt.mpr hd]
  have hn : writeOf w.kind = some (n, len) := by rw [hk]; rfl
  have ht : ((s.setWork .a none).writeSlotEnds .a n len w.stop w.lost).takeHeld .a
      = (s.setWork .a none).writeSlotEnds .a n len w.stop w.lost :=
    State.takeHeld_none ((State.writeSlotEnds_held _ _ _ _ _).trans hh)
  simp only [exec, execWriteSlotEnd]
  rw [hf]
  dsimp only
  rw [hn]
  exact congrArg _ ht

/-- Settles O18: the request by its arguments and the slot's record, then the three outcomes of its end. -/
theorem writeSlotStoresAndCounts : Obligations.WriteSlotStoresAndCounts := by
  refine ⟨?request, ?ends⟩
  case request =>
    intro s x h
    have serves : exec (.writeSlot (freshFrame .a) (.fields x)) s = .next ((s.workingOn .a).serveWriteSlot .a x) :=
      congrArg _ (State.frame_serve h (by simp) rfl)
    have refuses {c : Status} (hc : (s.workingOn .a).serveWriteSlot .a x = (s.workingOn .a).say .a c) :
        exec (.writeSlot (freshFrame .a) (.fields x)) s = .next (s.refusedWith .a c) := by
      rw [serves, hc, State.say_workingOn c h]
    refine ⟨fun hn h1 h2 => ?inRange, fun hb => refuses ?range⟩
    case inRange =>
      have hp : payloadInRange x.payload = true := (payloadInRange_iff _).mpr ⟨h1, h2⟩
      have hserve := (s.workingOn .a).serveWriteSlot_inRange .a hn hp
      simp only [State.workingOn_slot] at hserve
      refine ⟨fun hf hv => ?filling, fun he => refuses ?empty, fun hs => refuses ?other⟩
      case filling =>
        have ht : ¬(s.slot x.slot).takesWrites = false := by simp [Slot.takesWrites, hf, hv]
        rw [if_neg ht] at hserve
        refine ⟨fun ho hl => ?begins, fun ho hl => refuses ?tooLong, fun ho => refuses ?elsewhere⟩
        case begins =>
          rw [serves, hserve, if_neg (not_not.mpr ho), if_neg (not_lt.mpr hl)]
          rfl
        case tooLong => rw [hserve, if_neg (not_not.mpr ho), if_pos hl]
        case elsewhere => rw [hserve, if_pos ho]
      case empty =>
        rw [hserve, if_pos (Slot.takesWrites_of_state (by simp [he])), Slot.notFilling]
        simp [he]
      case other =>
        have hne : (s.slot x.slot).state ≠ .filling ∧ (s.slot x.slot).state ≠ .empty := by
          rcases hs with hs | hs <;> simp [hs]
        rw [hserve, if_pos (Slot.takesWrites_of_state hne.1), Slot.notFilling, if_neg (by simp [hne.2])]
    case range =>
      have hr : (!slotInRange x.slot || !payloadInRange x.payload) = true := by
        by_cases hn : x.slot ≤ 23
        · have hp : ¬ payloadInRange x.payload = true := fun hp => hb ⟨hn, (payloadInRange_iff _).mp hp⟩
          simp [hp]
        · simp [slotInRange_of_lt (not_le.mp hn)]
      rw [State.serveWriteSlot, if_pos hr]
  case ends =>
    intro s w n len hw hk hd _ hh
    rw [exec_writeSlotEnd hw hk hd hh]
    unfold State.writeSlotEnds
    refine ⟨fun hf hv hl => ?counts, fun hf hl => ?broken, fun hl => ?lost⟩
    case counts =>
      rw [if_neg (by simp [hl]), if_pos (by exact (Slot.takesWrites_iff _).mpr ⟨hf, hv⟩)]
      rfl
    case broken =>
      rw [if_neg (by simp [hl]), if_neg (by exact mt (Slot.takesWrites_iff _).mp hf)]
      rfl
    case lost =>
      rw [if_pos hl]
      rfl

/-! ### CANCEL_SLOT (R34) -/

/-- Settles O20: a number out of range, then the slot's state. -/
theorem cancelSlotAnswersByState : Obligations.CancelSlotAnswersByState := by
  intro s n h
  have serves : exec (.cancelSlot (freshFrame .a) (.fields ⟨n⟩)) s = .next ((s.workingOn .a).serveCancelSlot .a ⟨n⟩) :=
    congrArg _ (State.frame_serve h (by simp) rfl)
  have refuses {c : Status} (hc : (s.workingOn .a).serveCancelSlot .a ⟨n⟩ = (s.workingOn .a).say .a c) :
      exec (.cancelSlot (freshFrame .a) (.fields ⟨n⟩)) s = .next (s.refusedWith .a c) := by
    rw [serves, hc, State.say_workingOn c h]
  refine ⟨fun hn => refuses ?range, fun hn hf hw => ?filling, fun hn he hl => ?marked, fun hn hs => refuses ?other⟩
  case range => simp only [State.serveCancelSlot, slotInRange_of_lt hn, Bool.not_false, if_true]
  case filling =>
    have hserve : (s.workingOn .a).serveCancelSlot .a ⟨n⟩
        = (((s.workingOn .a).emptySlot n false).say .a .ok).evalWatch := by
      simp only [State.serveCancelSlot, slotInRange_of_le hn, State.workingOn_slot, hf, Bool.not_true,
        Bool.false_eq_true, if_false]
    refine ⟨(s.emptySlot n false).refusedWith .a .ok, ?_, rfl, rfl, s.released_one n false⟩
    rw [serves, hserve, State.evalWatch_none (by exact hw)]
    rfl
  case marked =>
    have hserve : (s.workingOn .a).serveCancelSlot .a ⟨n⟩
        = ((s.workingOn .a).setSlot n { s.slot n with lost := false }).say .a .lost := by
      simp only [State.serveCancelSlot, slotInRange_of_le hn, State.workingOn_slot, he, hl, Bool.not_true,
        Bool.false_eq_true, if_false, if_true]
    rw [serves, hserve]
    rfl
  case other =>
    rcases hs with ⟨he, hl⟩ | hs | hs
    · simp [State.serveCancelSlot, slotInRange_of_le hn, he, hl]
    · simp [State.serveCancelSlot, slotInRange_of_le hn, hs]
    · simp [State.serveCancelSlot, slotInRange_of_le hn, hs]

/-! ### SET_CLASS and DESIGNATE (R36, R37) -/

/-- SET_CLASS of a slot that may take the class, with no watch armed (R36). -/
theorem State.serveSetClass_sets {s : State} {p : Port} {n : Nat} {c : Cls} (hn : n ≤ 23)
    (he : (s.slot n).state ≠ .empty)
    (hc : ¬(c = .pinned ∧ (s.slot n).cls ≠ some .pinned ∧ 8 ≤ s.pinned)) (hw : s.staging.watch = none) :
    s.serveSetClass p ⟨n, c⟩ = ({ s with
      slots := { s.slots with
        slots := s.slots.slots.set n { s.slot n with cls := some c }
        rest := if c ≠ .pinned ∧ s.slots.rest = some n then none else s.slots.rest
        empty := if c ≠ .pinned ∧ s.slots.empty = some n then none else s.slots.empty } } : State).say p .ok := by
  simp only [State.serveSetClass, slotInRange_of_le hn, Bool.not_true, Bool.false_eq_true, if_false, if_neg he]
  rw [if_neg (by exact hc)]
  by_cases hp : c = .pinned
  · simp only [hp, if_true, ne_eq, not_true_eq_false, false_and, if_false]
    exact State.evalWatch_none (by rw [State.say_staging]; exact hw)
  · simp only [hp, if_false, ne_eq, not_false_eq_true, true_and]
    exact State.evalWatch_none (by rw [State.say_staging]; exact hw)

/-- Settles O22: SET_CLASS by its checks in order, then DESIGNATE by the slot it names. -/
theorem classAndDesignationRequests : Obligations.ClassAndDesignationRequests := by
  refine ⟨?setClass, ?designate⟩
  case setClass =>
    intro s n c h hw
    have serves : exec (.setClass (freshFrame .a) (.fields ⟨n, c⟩)) s
        = .next ((s.workingOn .a).serveSetClass .a ⟨n, c⟩) := congrArg _ (State.frame_serve h (by simp) rfl)
    have refuses {st : Status} (hc : (s.workingOn .a).serveSetClass .a ⟨n, c⟩ = (s.workingOn .a).say .a st) :
        exec (.setClass (freshFrame .a) (.fields ⟨n, c⟩)) s = .next (s.refusedWith .a st) := by
      rw [serves, hc, State.say_workingOn st h]
    refine ⟨fun hn he hc => ?sets, fun hn he hc hp hm => refuses ?ninth, fun hn he => refuses ?empty,
      fun hn => refuses ?range⟩
    case sets =>
      rw [serves, State.serveSetClass_sets hn (by exact he) (by exact hc) (by exact hw)]
      rfl
    case ninth =>
      simp only [State.serveSetClass, slotInRange_of_le hn, State.workingOn_slot, Bool.not_true, Bool.false_eq_true,
        if_false, if_neg he]
      exact if_pos ⟨hc, hp, hm⟩
    case empty =>
      simp only [State.serveSetClass, slotInRange_of_le hn, State.workingOn_slot, Bool.not_true, Bool.false_eq_true,
        if_false, if_pos he]
    case range => simp only [State.serveSetClass, slotInRange_of_lt hn, Bool.not_false, if_true]
  case designate =>
    intro s n h
    have serves (x : DesignateArgs) : exec (.designate (freshFrame .a) (.fields x)) s
        = .next ((s.workingOn .a).serveDesignate .a x) := congrArg _ (State.frame_serve h (by simp) rfl)
    have refuses {x : DesignateArgs} {st : Status}
        (hc : (s.workingOn .a).serveDesignate .a x = (s.workingOn .a).say .a st) :
        exec (.designate (freshFrame .a) (.fields x)) s = .next (s.refusedWith .a st) := by
      rw [serves, hc, State.say_workingOn st h]
    refine ⟨serves _, serves _, fun hn hc hr => ?names,
      fun d => ⟨fun hn hb => refuses ?other, fun hn => refuses ?range⟩⟩
    case names =>
      have hserve (d : Designation) : (s.workingOn .a).serveDesignate .a ⟨d, some n⟩
          = ({ s.workingOn .a with slots := s.slots.designate d (some n) } : State).say .a .ok := by
        simp only [State.serveDesignate, slotInRange_of_le hn, State.workingOn_slot, hc, hr, Bool.not_true,
          Bool.false_eq_true, if_false, and_self, if_true]
        rfl
      rw [serves, serves, hserve, hserve]
      exact ⟨rfl, rfl⟩
    case other =>
      simp only [State.serveDesignate, slotInRange_of_le hn, State.workingOn_slot, Bool.not_true, Bool.false_eq_true,
        if_false]
      exact if_neg hb
    case range => simp only [State.serveDesignate, slotInRange_of_lt hn, Bool.not_false, if_true]

/-! ### The space watch and the idle timer (R160, R165) -/

/-- The space figure does not rest on the armed watch (R165). -/
theorem State.space_watch (s : State) (w : Option Nat) :
    (s.withStaging { s.staging with watch := w }).space = s.space := by
  have hr : (s.withStaging { s.staging with watch := w }).reclaimable = s.reclaimable :=
    State.reclaimable_congr rfl rfl rfl
  unfold State.space
  rw [hr]
  rfl

/-- WAIT_SPACE of a number in range (R165). -/
theorem State.serveWaitSpace_inRange (s : State) (p : Port) {n : Nat} (h1 : 1 ≤ n) (h2 : n ≤ 4194304) :
    s.serveWaitSpace p ⟨n⟩ = ((s.withStaging { s.staging with watch := some n }).evalWatch).say p .ok :=
  if_pos (by simp [inRange, h1, h2])

/-- An armed watch above the space figure stays armed (R165). -/
theorem State.evalWatch_unmet {s : State} {n : Nat} (hn : s.staging.watch = some n) (h : s.space < n) :
    s.evalWatch = s := by
  unfold State.evalWatch
  rw [hn]
  exact if_neg (not_le.mpr h)

/-- A met watch raises SPACE with the figure, the radio domain being ON, and is disarmed (R165, R173). -/
theorem State.evalWatch_met {s : State} {n : Nat} (hn : s.staging.watch = some n) (h : n ≤ s.space)
    (hr : s.bs.radio = true) : s.evalWatch = { s with
      staging := { s.staging with watch := none }
      notices := { s.notices with rm := s.notices.rm.set 0 (some (.space s.space)) } } := by
  unfold State.evalWatch
  rw [hn]
  exact (if_pos h).trans (if_pos hr)

/-- A list put in order of age has the members it had (R22). -/
theorem State.insertByAge_perm (s : State) (n : Nat) : ∀ l : List Nat, (s.insertByAge n l).Perm (n :: l)
  | [] => List.Perm.refl _
  | m :: ms => by
    unfold State.insertByAge
    split
    · exact List.Perm.refl _
    · exact ((s.insertByAge_perm n ms).cons m).trans (List.Perm.swap n m ms)

theorem State.oldestFirst_perm (s : State) (l : List Nat) : (s.oldestFirst l).Perm l := by
  induction l with
  | nil => exact List.Perm.refl _
  | cons n l ih => exact (s.insertByAge_perm n _).trans (ih.cons n)

/-- Which slots a state and a class leave unprotected (R42, R43). -/
theorem State.mem_unprotected {s : State} {st : SlotState} {c : Cls} {n : Nat} :
    n ∈ s.unprotected st c ↔ n < s.slots.slots.length ∧ (s.slot n).state = st ∧ (s.slot n).cls = some c
      ∧ s.panel.shown ≠ some n ∧ s.panel.target ≠ some n := by
  simp [State.unprotected, State.slotNumbers, State.hasRole, State.isShown, State.isTarget, and_assoc]

/-- Filtering and summing is summing with 0 for what is filtered out. -/
theorem sum_map_filter (f : Nat → Nat) (p : Nat → Bool) (l : List Nat) :
    ((l.filter p).map f).sum = (l.map (fun n => if p n = true then f n else 0)).sum := by
  rw [List.sum_map_ite]
  simp

/-- The extents a reclaim could take: those of the READY and FILLING STREAMED slots without a role (R42, R165). -/
theorem State.sum_reclaimable (s : State) : (s.reclaimable.map (fun n => (s.slot n).extents.length)).sum
    = ((List.range s.slots.slots.length).map (fun n => if (s.slot n).cls = some .streamed
        ∧ ((s.slot n).state = .ready ∨ (s.slot n).state = .filling) ∧ s.panel.shown ≠ some n ∧ s.panel.target ≠ some n
        then (s.slot n).extents.length else 0)).sum := by
  rw [State.reclaimable, List.map_append, List.sum_append, ((s.oldestFirst_perm _).map _).sum_eq,
    ((s.oldestFirst_perm _).map _).sum_eq, State.unprotected, State.unprotected, sum_map_filter, sum_map_filter,
    ← List.sum_map_add]
  refine congrArg List.sum (List.map_congr_left fun n _ => ?_)
  cases (s.slot n).state <;> simp [State.hasRole, State.isShown, State.isTarget]

/-- Settles O58: WAIT_SPACE by its number, the idle timer, and the space figure. -/
theorem spaceWatchAndIdleTimer : Obligations.SpaceWatchAndIdleTimer := by
  refine ⟨fun s n => ⟨fun h => ?request, fun d hd hap hq ht => ?idle⟩, ?figure⟩
  case request =>
    have serves : exec (.waitSpace (freshFrame .r) (.fields ⟨n⟩)) s = .next ((s.workingOn .r).serveWaitSpace .r ⟨n⟩) :=
      congrArg _ (State.frame_serve h (by simp) rfl)
    have hspace : ((s.workingOn .r).withStaging { (s.workingOn .r).staging with watch := some n }).space = s.space :=
      ((s.workingOn .r).space_watch _).trans (s.space_workingOn .r)
    refine ⟨fun hb => ?range, fun h1 h2 hn => ?arms, fun h1 h2 hn => ?raises⟩
    case range =>
      have hr : ¬ inRange 1 4194304 n = true := by simpa [inRange] using hb
      rw [serves, State.serveWaitSpace, if_neg hr, State.say_workingOn _ h]
    case arms =>
      rw [serves, State.serveWaitSpace_inRange _ _ h1 h2, State.evalWatch_unmet rfl (hspace.trans_lt hn)]
      rfl
    case raises =>
      rw [serves, State.serveWaitSpace_inRange _ _ h1 h2, State.evalWatch_met rfl (hn.trans_eq hspace.symm) h.1]
      exact congrArg (fun f => Host.Outcome.next { s.refusedWith .r .ok with
        staging := { s.staging with watch := none }
        notices := { s.notices with rm := s.notices.rm.set 0 (some (.space f)) } }) hspace
  case idle =>
    simp only [exec, execStagingIdleExpiry, hd]
    refine ⟨fun hb => ?nothing, fun hb => ?staged⟩
    case nothing =>
      rw [if_neg (by omega)]
      rfl
    case staged =>
      rw [if_pos hb, State.raise_on _ _ (by exact hap)]
      exact congrArg _ (State.settle_quiet (by exact hq) (by exact ht))
  case figure =>
    rintro s u a page e rfl rfl rfl rfl
    rw [← s.sum_reclaimable]
    unfold State.space
    cases s.staging.write <;> simp [Config.extentBytes]

end Sys2Proof.Machine

namespace Sys2Proof.Machine

/-! ### Slots emptied one after another (R4, R25, R38, R40) -/

/-- What an emptying of several slots does to one of them: it becomes EMPTY with a lost mark or without, or its record is
set. -/
inductive SlotEffect where
  | emptied (lost : Bool)
  | kept (x : Slot)

/-- The effect carried out on a slot. -/
def State.affect (s : State) (n : Nat) : SlotEffect → State
  | .emptied b => s.emptySlot n b
  | .kept x => s.setSlot n x

/-- The record an effect leaves. -/
def SlotEffect.record : SlotEffect → Slot
  | .emptied b => Slot.cleared b
  | .kept x => x

/-- Does the effect empty the slot? -/
def SlotEffect.empties : SlotEffect → Bool
  | .emptied _ => true
  | .kept _ => false

/-- All that an effect on a slot may change. -/
def State.SlotsChanged (s t : State) : Prop :=
  t = { s with
    slots := { t.slots with use := s.slots.use }
    pool := { s.pool with owners := t.pool.owners, free := t.pool.free } }
  ∧ t.slots.slots.length = s.slots.slots.length

theorem State.SlotsChanged.refl (s : State) : s.SlotsChanged s := ⟨rfl, rfl⟩

theorem State.SlotsChanged.trans {s t u : State} (h1 : s.SlotsChanged t) (h2 : t.SlotsChanged u) :
    s.SlotsChanged u := by
  obtain ⟨h1, hl1⟩ := h1
  obtain ⟨h2, hl2⟩ := h2
  refine ⟨?_, hl2.trans hl1⟩
  rw [h1] at h2
  exact h2

theorem State.SlotsChanged.panel {s t : State} (h : s.SlotsChanged t) : t.panel = s.panel := by rw [h.1]

theorem State.affect_changed (s : State) (n : Nat) (e : SlotEffect) : s.SlotsChanged (s.affect n e) := by
  cases e <;> exact ⟨rfl, List.length_set⟩

theorem State.slot_affect_same {s : State} {n : Nat} (e : SlotEffect) (h : n < s.slots.slots.length) :
    (s.affect n e).slot n = e.record := by
  cases e
  · exact State.slot_emptySlot_same _ h
  · exact State.slot_setSlot_same _ h

theorem State.slot_affect_ne {s : State} {m n : Nat} (e : SlotEffect) (h : m ≠ n) :
    (s.affect n e).slot m = s.slot m := by
  cases e
  · exact State.slot_emptySlot_ne _ h
  · exact State.slot_setSlot_ne _ h

/-- Setting a record releases nothing. -/
theorem State.released_setSlot (s : State) (n : Nat) (x : Slot) : s.Released (s.setSlot n x) [] :=
  State.released_congr s.released_nil rfl rfl rfl rfl rfl rfl rfl rfl

theorem State.released_affect (s : State) (n : Nat) (e : SlotEffect) :
    s.Released (s.affect n e) (if e.empties then [n] else []) := by
  cases e
  · exact s.released_one n _
  · exact s.released_setSlot n _

/-- Effects on the slots of a list, each from the record its slot had before all of them: the records, what is released in
the order of the list, and nothing else. -/
theorem State.foldl_affect {f : State → Nat → State} {e : Nat → SlotEffect} : ∀ (l : List Nat) (s : State),
    l.Nodup → (∀ n ∈ l, n < s.slots.slots.length) →
    (∀ t n, n ∈ l → t.slot n = s.slot n → t.panel = s.panel → f t n = t.affect n (e n)) →
    s.SlotsChanged (l.foldl f s) ∧ (∀ n, (l.foldl f s).slot n = if n ∈ l then (e n).record else s.slot n)
      ∧ s.Released (l.foldl f s) (l.filter (fun n => (e n).empties))
  | [], s, _, _, _ => ⟨.refl s, by simp, s.released_nil⟩
  | n :: l, s, hd, hl, hf => by
    obtain ⟨hn, hd⟩ := List.nodup_cons.mp hd
    have ne_of_mem {m} (hm : m ∈ l) : m ≠ n := fun h => hn (h ▸ hm)
    have hfirst : f s n = s.affect n (e n) := hf s n (by simp) rfl rfl
    have hc := s.affect_changed n (e n)
    obtain ⟨ih, irec, irel⟩ := State.foldl_affect (f := f) (e := e) l (s.affect n (e n)) hd
      (fun m hm => by rw [hc.2]; exact hl m (by simp [hm]))
      (fun t m hm ht hp => hf t m (by simp [hm]) (ht.trans (State.slot_affect_ne _ (ne_of_mem hm))) (hp.trans hc.panel))
    rw [List.foldl_cons, hfirst]
    refine ⟨hc.trans ih, fun m => ?_, ?_⟩
    · rw [irec]
      by_cases hm : m = n
      · subst hm
        simp [hn, State.slot_affect_same _ (hl m (by simp))]
      · simp [hm, State.slot_affect_ne _ hm]
    · have := State.released_append (s.released_affect n (e n)) irel
        (fun m hm => by rw [State.slot_affect_ne _ (ne_of_mem (List.mem_of_mem_filter hm))])
      cases he : (e n).empties <;> simpa [he] using this

/-- A record set to what it is. -/
theorem State.setSlot_self (s : State) (n : Nat) : s.setSlot n (s.slot n) = s := by
  have hl : s.slots.slots.set n (s.slot n) = s.slots.slots := by
    by_cases h : n < s.slots.slots.length
    · simp [State.slot, List.getD_eq_getElem?_getD, h]
    · exact List.set_eq_of_length_le (not_lt.mp h)
  unfold State.setSlot
  rw [hl]

theorem State.mem_slotNumbers {s : State} {n : Nat} : n ∈ s.slotNumbers ↔ n < s.slots.slots.length := List.mem_range

theorem State.slotNumbers_nodup (s : State) : s.slotNumbers.Nodup := List.nodup_range

/-! ### Broken reservations (R40, R41) -/

/-- A broken reservation empties a FILLING slot with the lost mark and leaves another as it is. -/
def State.breakEffect (s : State) (n : Nat) : SlotEffect :=
  if (s.slot n).state = .filling then .emptied true else .kept (s.slot n)

/-- What breaking every reservation comes to (R40, log 30). -/
theorem State.breakReservations_spec (s : State) : s.SlotsChanged s.breakReservations
    ∧ (∀ n, s.breakReservations.slot n = if (s.slot n).state = .filling then Slot.cleared true else s.slot n)
    ∧ s.Released s.breakReservations (s.slotNumbers.filter (fun n => decide ((s.slot n).state = .filling))) := by
  obtain ⟨hc, hrec, hrel⟩ := State.foldl_affect (e := s.breakEffect)
    (f := fun t n => if (t.slot n).state = .filling then t.emptySlot n true else t) s.slotNumbers s s.slotNumbers_nodup
    (fun n hn => State.mem_slotNumbers.mp hn) (fun t n _ ht _ => by
      unfold State.breakEffect
      rw [ht]
      split
      · rfl
      · rw [← ht]; exact (t.setSlot_self n).symm)
  have empties (n : Nat) : (s.breakEffect n).empties = decide ((s.slot n).state = .filling) := by
    unfold State.breakEffect
    split <;> simp_all [SlotEffect.empties]
  refine ⟨hc, fun n => (hrec n).trans ?_, ?_⟩
  · unfold State.breakEffect
    by_cases hf : (s.slot n).state = .filling
    · rw [if_pos (State.mem_slotNumbers.mpr (State.lt_length_of_slot (by simp [hf]))), if_pos hf, if_pos hf]
      rfl
    · rw [if_neg hf, if_neg hf]
      exact ite_self _
  · simp only [empties] at hrel
    exact hrel

/-- A state in which only slots have changed is settled if the one before it was, with no watch armed. -/
theorem State.SlotsChanged.settled {s t : State} (h : s.SlotsChanged t) (hs : s.Settled) (hw : s.staging.watch = none) :
    t.Settled := by
  obtain ⟨h, -⟩ := h
  refine State.settled_congr hs hw ?_ ?_ ?_ ?_ ?_ ?_ <;> rw [h]

/-- A fresh RESET_PORT at a powered port, whatever the port was doing (R181). -/
theorem exec_resetPort {s : State} {p : Port} (h : s.portPowered p = true) :
    exec (.resetPort (freshFrame p) (.fields ())) s = .next ((s.setPort p (s.port p).released).takeReset p) := by
  refine congrArg _ (?_ : s.frame (freshFrame p) (.request .resetPort) = _)
  simp [State.frame, freshFrame, h, State.openWindow, State.completeFrame]

/-- Settles O9: the port is reset, the reservations break, and what is left is settled as before. -/
theorem resetPortABreaksReservations : Obligations.ResetPortABreaksReservations := by
  intro s hp hs hw
  have hws : (s.setPort .a s.portA.released.resetTaken).Settled := (s.settled_setPort .a _).mpr hs
  obtain ⟨hc, hrec, hrel⟩ := (s.setPort .a s.portA.released.resetTaken).breakReservations_spec
  generalize ht : (s.setPort .a s.portA.released.resetTaken).breakReservations = t at hc hrec hrel
  have hset : (t.setPort .a t.portA.resetAnswered).Settled := (t.settled_setPort .a _).mpr (hc.settled hws hw)
  have hexec : exec (.resetPort (freshFrame .a) (.fields ())) s = .next (t.setPort .a t.portA.resetAnswered) := by
    rw [exec_resetPort hp]
    unfold State.takeReset
    rw [State.port_setPort, State.setPort_setPort]
    unfold State.serveReset
    rw [show (s.port .a).released.resetTaken = s.portA.released.resetTaken from rfl, ht]
    exact congrArg _ (State.settle_of_settled hset)
  have hA : t.portA = s.portA.released.resetTaken := by rw [hc.1]; rfl
  refine ⟨_, hexec, ?frame, hrec, hrel, ?port⟩
  case frame =>
    rw [hc.1]
    rfl
  case port =>
    show t.portA.resetAnswered = _
    rw [hA]
    cases hb : s.portA.busy <;> simp [PortUnit.resetAnswered, PortUnit.resetTaken, PortUnit.released, hb]

/-! ### FORGET (R38) -/

/-- What FORGET does to a matching slot (R38). -/
def State.forgetEffect (s : State) (n : Nat) : SlotEffect :=
  if s.hasRole n then .kept (s.slot n)
  else match (s.slot n).state with
    | .ready => .emptied false
    | .filling => .emptied true
    | .verifying => .kept { s.slot n with forget := true }
    | .empty => .kept (s.slot n)

/-- FORGET at one slot, whose record and roles are still those of `s`. -/
theorem State.forgetSlot_eq {s t : State} {n : Nat} (hn : t.slot n = s.slot n) (hp : t.panel = s.panel) :
    t.forgetSlot n = t.affect n (s.forgetEffect n) := by
  have hr : t.hasRole n = s.hasRole n := by simp only [State.hasRole, State.isShown, State.isTarget, hp]
  unfold State.forgetSlot State.forgetEffect
  rw [hr, hn]
  split
  · rw [← hn]; exact (t.setSlot_self n).symm
  · cases (s.slot n).state
    case empty => rw [← hn]; exact (t.setSlot_self n).symm
    all_goals rfl

/-- The slots FORGET matches, in number order (R38). -/
def State.forgetHits (s : State) (x : ForgetArgs) : List Nat :=
  s.slotNumbers.filter (fun n => (s.slot n).matchesForget x)

theorem State.mem_forgetHits {s : State} {x : ForgetArgs} {n : Nat} :
    n ∈ s.forgetHits x ↔ (s.slot n).matchesForget x = true := by
  unfold State.forgetHits
  rw [List.mem_filter, State.mem_slotNumbers]
  refine ⟨And.right, fun h => ⟨State.lt_length_of_slot fun he => ?_, h⟩⟩
  simp [Slot.matchesForget, he] at h

/-- A matching slot is emptied unless a role holds it or a scan is reading it (R33, R38). -/
theorem State.forgetEffect_empties {s : State} {x : ForgetArgs} {n : Nat} (h : (s.slot n).matchesForget x = true) :
    (s.forgetEffect n).empties = (!s.hasRole n && decide ((s.slot n).state ≠ .verifying)) := by
  unfold State.forgetEffect
  cases s.hasRole n
  · cases hs : (s.slot n).state
    case empty => simp [Slot.matchesForget, hs] at h
    all_goals rfl
  · rfl

/-- What FORGET comes to in the slot table (R38, log 30). -/
theorem State.forgetSlots_spec (s : State) (x : ForgetArgs) : s.SlotsChanged ((s.forgetHits x).foldl State.forgetSlot s)
    ∧ (∀ n, ((s.forgetHits x).foldl State.forgetSlot s).slot n =
        if (s.slot n).matchesForget x = true ∧ s.hasRole n = false then
          (match (s.slot n).state with
            | .ready => Slot.cleared false
            | .filling => Slot.cleared true
            | .verifying => { s.slot n with forget := true }
            | .empty => s.slot n)
        else s.slot n)
    ∧ s.Released ((s.forgetHits x).foldl State.forgetSlot s) (s.slotNumbers.filter (fun n =>
        (s.slot n).matchesForget x && !s.hasRole n && decide ((s.slot n).state ≠ .verifying))) := by
  obtain ⟨hc, hrec, hrel⟩ := State.foldl_affect (e := s.forgetEffect) (f := State.forgetSlot) (s.forgetHits x) s
    (s.slotNumbers_nodup.filter _) (fun n hn => State.mem_slotNumbers.mp (List.mem_of_mem_filter hn))
    (fun t n _ ht hp => State.forgetSlot_eq ht hp)
  refine ⟨hc, fun n => (hrec n).trans ?_, ?_⟩
  · simp only [State.mem_forgetHits]
    by_cases hm : (s.slot n).matchesForget x = true
    · unfold State.forgetEffect
      cases s.hasRole n
      · simp only [hm, Bool.false_eq_true, if_false, and_self, if_true]
        cases (s.slot n).state <;> rfl
      · simp [hm, SlotEffect.record]
    · rw [if_neg hm, if_neg (fun h => hm h.1)]
  · have hl : (s.forgetHits x).filter (fun n => (s.forgetEffect n).empties) = s.slotNumbers.filter (fun n =>
        (s.slot n).matchesForget x && !s.hasRole n && decide ((s.slot n).state ≠ .verifying)) := by
      rw [State.forgetHits, List.filter_filter]
      refine List.filter_congr fun n _ => ?_
      cases hm : (s.slot n).matchesForget x
      · simp
      · rw [State.forgetEffect_empties hm]
        simp
    rwa [hl] at hrel

/-- The numbers of the matching slots are as many as the matching records (R38). -/
theorem State.forgetHits_length (s : State) (x : ForgetArgs) :
    (s.forgetHits x).length = s.slots.slots.countP (fun r => r.matchesForget x) := by
  have hs : s.slotNumbers.map s.slot = s.slots.slots := by
    refine List.ext_getElem (by simp [State.slotNumbers]) fun n h1 h2 => ?_
    simp [State.slotNumbers, State.slot, List.getD_eq_getElem?_getD, h2]
  rw [← hs, List.countP_map, List.countP_eq_length_filter]
  rfl

theorem forgetInRange_iff (x : ForgetArgs) : forgetInRange x = true ↔
    1 ≤ x.book ∧ x.book ≤ 65535 ∧ ∀ a b, x.range = some (a, b) → a ≤ b ∧ b ≤ 16777215 := by
  unfold forgetInRange
  cases hr : x.range with
  | none => simp [inRange, Config.bookMax]
  | some r =>
    obtain ⟨a, b⟩ := r
    simp only [inRange, Config.bookMax, Config.pageMax, Bool.and_eq_true, decide_eq_true_eq, Option.some.injEq,
      Prod.mk.injEq]
    constructor
    · rintro ⟨⟨h1, h2⟩, ⟨h3, h4⟩, h5⟩
      exact ⟨h1, h2, by rintro _ _ ⟨rfl, rfl⟩; exact ⟨h5, h4⟩⟩
    · rintro ⟨h1, h2, h⟩
      obtain ⟨h5, h4⟩ := h a b ⟨rfl, rfl⟩
      exact ⟨⟨h1, h2⟩, ⟨h5.trans h4, h4⟩, h5⟩

/-- Settles O23: a request out of range, or the matching slots one after another. -/
theorem forgetEmptiesMatchingSlots : Obligations.ForgetEmptiesMatchingSlots := by
  intro s x h
  have serves : exec (.forget (freshFrame .a) (.fields x)) s = .next ((s.workingOn .a).serveForget .a x) :=
    congrArg _ (State.frame_serve h (by simp) rfl)
  refine ⟨fun hx hw => ?forgets, fun hb => ?range⟩
  case forgets =>
    obtain ⟨hc, hrec, hrel⟩ := (s.workingOn .a).forgetSlots_spec x
    generalize ht : ((s.workingOn .a).forgetHits x).foldl State.forgetSlot (s.workingOn .a) = t at hc hrec hrel
    have hexec : exec (.forget (freshFrame .a) (.fields x)) s = .next (t.tell .a (.forgot
        ((s.forgetHits x).length - (s.forgetHits x).countP s.hasRole) ((s.forgetHits x).countP s.hasRole))) := by
      have hwt : t.staging.watch = none := by rw [hc.1]; exact hw
      rw [serves, State.serveForget, if_pos hx]
      dsimp only
      rw [show (s.workingOn .a).slotNumbers.filter (fun n => ((s.workingOn .a).slot n).matchesForget x)
        = (s.workingOn .a).forgetHits x from rfl, ht, State.evalWatch_none (by rw [State.tell_staging]; exact hwt)]
      rfl
    have hA : t.portA = s.portA.working := by rw [hc.1]; rfl
    refine ⟨_, hexec, ?frame, hrec, hrel, (s.forgetHits x).length - (s.forgetHits x).countP s.hasRole,
      (s.forgetHits x).countP s.hasRole, ?answer, ?sum, ?skipped⟩
    case frame =>
      rw [hc.1]
      rfl
    case answer =>
      show t.portA.answered _ = _
      rw [hA]
      rfl
    case sum => rw [Nat.sub_add_cancel List.countP_le_length, State.forgetHits_length]
    case skipped =>
      rw [State.forgetHits, List.countP_filter]
      exact List.countP_congr fun n _ => by rw [Bool.and_comm]
  case range =>
    rw [serves, State.serveForget, if_neg (fun hx => hb ((forgetInRange_iff x).mp hx)), State.say_workingOn _ h]

/-! ### SLEEP and the end of AP_STOPPING (R139, R140, R142) -/

/-- DOZE as the AP goes off, its reservations already broken, with the light given `g` (R117, R139, R140, R142). -/
def State.dozed (s : State) (g : Nat) : State :=
  { s with
    bs := { s.bs with
      ap := .off, power := .doze, sleepTarget := none, heldWake := false
      idleTimer := some (s.now + s.params.dozeIdleMin * 60000) }
    head := { s.head with ap := ⟨0, 0⟩, light := ⟨s.head.light.demand, g⟩ }
    light := s.litBy g
    portA := s.portA.domainOff }

/-- With nothing pending no wake is presented (R172). -/
theorem State.presentWake_idle {s : State} (b : Bool) (h : ∀ n ∈ s.notices.ap, n.pending = false) :
    State.presentWake b s = s := by
  have hc : s.notices.ap.any (fun n => n.pending && decide (s.params.wakeThreshold < n.level)) = false := by
    rw [List.any_eq_false]
    intro n hn
    simp [h n hn]
  unfold State.presentWake State.wakeCond
  rw [hc]
  simp

/-- The AP domain off, its grant given back and the light given `g`, with no grant waiting and nothing pending (R117,
R139, R172). -/
def State.apDown (s : State) (g : Nat) : State :=
  { s with
    bs := { s.bs with ap := .off }
    portA := s.portA.domainOff
    head := { s.head with ap := ⟨0, 0⟩, light := ⟨s.head.light.demand, g⟩ }
    light := s.litBy g }

/-- The AP power-down behind its broken reservations (R117, R139, R172). -/
theorem State.apPowerDown_eq {s : State} {g : Nat} (hw : s.breakReservations.NoWaits)
    (hn : ∀ n ∈ s.breakReservations.notices.ap, n.pending = false)
    (hg : g = min s.breakReservations.head.light.demand (s.breakReservations.head.ceiling
      - (s.breakReservations.head.panel.grant + s.breakReservations.head.radio.grant))) :
    s.apPowerDown = s.breakReservations.apDown g := by
  unfold State.apPowerDown
  generalize s.breakReservations = r at hw hn hg
  dsimp only
  rw [State.rebalance_eq (by exact hw), hg, State.presentWake_idle _ (by exact hn)]
  simp only [Headroom.loads, Nat.zero_add]
  rfl

/-- The state as the AP is switched off, its off timer stopped. -/
def State.apTimerStopped (s : State) : State := { s with bs := { s.bs with apOffTimer := none } }

/-- The AP goes off into DOZE where no wake is held and the target is not DEEP (R140). -/
theorem State.stopAp_doze {s : State} {g : Nat} (hw : s.NoWaits) (hn : ∀ n ∈ s.notices.ap, n.pending = false)
    (hh : s.bs.heldWake = false) (ht : s.bs.sleepTarget ≠ some .deep)
    (hg : g = min s.head.light.demand (s.head.ceiling - (s.head.panel.grant + s.head.radio.grant))) :
    s.stopAp = s.apTimerStopped.breakReservations.dozed g := by
  obtain ⟨⟨hc, -⟩, -, -⟩ := s.apTimerStopped.breakReservations_spec
  have hhead : s.apTimerStopped.breakReservations.head = s.head := by rw [hc]; rfl
  have hnot : s.apTimerStopped.breakReservations.notices = s.notices := by rw [hc]; rfl
  have hheld : s.apTimerStopped.breakReservations.bs.heldWake = false := by rw [hc]; exact hh
  have hdown := State.apPowerDown_eq (s := s.apTimerStopped) (g := g) (by simpa only [State.NoWaits, hhead] using hw)
    (by rwa [hnot]) (by rwa [hhead])
  unfold State.stopAp
  rw [show ({ s with bs := { s.bs with apOffTimer := none } } : State) = s.apTimerStopped from rfl, hdown]
  dsimp only
  rw [if_neg (by simp [State.apDown, hheld]), if_neg ht]
  rfl

/-- What switching the AP off into DOZE comes to, with nothing left to come about by itself (R40, R117, R139, R140). -/
theorem State.stopAp_settles {s : State} {g : Nat} (hq : s.Quiet) (he : s.NoTake) (hw : s.NoWaits)
    (hn : ∀ n ∈ s.notices.ap, n.pending = false) (hh : s.bs.heldWake = false) (ht : s.bs.sleepTarget ≠ some .deep)
    (hg : g = min s.head.light.demand (s.head.ceiling - (s.head.panel.grant + s.head.radio.grant))) :
    ∃ t, s.stopAp.settle = t
      ∧ t = { s with
          bs := { s.bs with
            ap := .off, power := .doze, sleepTarget := none, apOffTimer := none
            idleTimer := some (s.now + s.params.dozeIdleMin * 60000) }
          head := { s.head with ap := ⟨0, 0⟩, light := ⟨s.head.light.demand, g⟩ }, light := s.litBy g
          portA := s.portA.domainOff, slots := t.slots
          pool := { s.pool with owners := t.pool.owners, free := t.pool.free } }
      ∧ (∀ n, t.slot n = if (s.slot n).state = .filling then Slot.cleared true else s.slot n)
      ∧ s.Released t (s.slotNumbers.filter (fun n => decide ((s.slot n).state = .filling))) := by
  obtain ⟨⟨hc, -⟩, hrec, hrel⟩ := s.apTimerStopped.breakReservations_spec
  have hstop := State.stopAp_doze hw hn hh ht hg
  generalize s.apTimerStopped.breakReservations = r at hc hrec hrel hstop
  have hquiet : (r.dozed g).Quiet := by
    rw [hc]
    exact hq
  have hnotake : (r.dozed g).NoTake := by
    rw [hc]
    exact he
  refine ⟨r.dozed g, by rw [hstop, State.settle_quiet hquiet hnotake], ?_, hrec, hrel⟩
  rw [hc]
  simp only [State.dozed, State.apTimerStopped, ← hh]
  rfl

/-- Settles O49: the request, then the two ways the AP is switched off. -/
theorem sleepStopsTheAp : Obligations.SleepStopsTheAp := by
  refine ⟨?request, ?off⟩
  case request =>
    intro s x awake h
    have serves : exec (.sleep (freshFrame .a) (.fields ⟨x⟩) awake) s
        = .next ((State.workingOn { s with pins := { s.pins with awake := awake } } .a).serveSleep .a ⟨x⟩) :=
      congrArg _ (State.frame_serve (s := { s with pins := { s.pins with awake := awake } }) (p := .a) h (by simp) rfl)
    refine ⟨fun hp ha => ?run, fun hp => ?stopping⟩
    case run =>
      subst ha
      rw [serves, State.serveSleep, if_pos (by exact hp)]
      rfl
    case stopping =>
      rw [serves, State.serveSleep, if_neg (by show ¬ s.bs.power = _; simp [hp]), if_pos (by exact hp)]
      rfl
  case off =>
    intro s g hq he hw hn hh ht hp hg
    refine ⟨?fall, fun d hd => ?expiry⟩
    case fall =>
      obtain ⟨t, hset, ht⟩ :=
        State.stopAp_settles (s := { s with pins := { s.pins with awake := false } }) hq he hw hn hh
        ht hg
      refine ⟨t, ?_, ht⟩
      simp only [exec, execAwakeFall, if_pos hp, hset]
    case expiry =>
      obtain ⟨t, hset, ht⟩ :=
        State.stopAp_settles (s := s.atTime d) hq he hw hn hh ht hg
      refine ⟨t, ?_, ht⟩
      simp only [exec, execApOffTimerExpiry, hd, hset]

end Sys2Proof.Machine

namespace Sys2Proof.Machine

/-! ### The plan of an opening (R26 to R28) -/

/-- With a record and the extents at hand no victim is taken (R27). -/
theorem State.takeVictims_room (s : State) {n records extents : Nat} (vs : List Nat) (hr : 1 ≤ records)
    (he : n ≤ extents) : s.takeVictims n vs records extents = some [] := by
  unfold State.takeVictims
  exact if_pos ⟨hr, he⟩

/-- Without a slot that may be taken, want of a record or of extents is final (R27). -/
theorem State.takeVictims_nil (s : State) {n records extents : Nat} (h : records = 0 ∨ extents < n) :
    s.takeVictims n [] records extents = none := by
  unfold State.takeVictims
  exact if_neg (by omega)

/-- A victim that makes enough room is the only one (R27). -/
theorem State.takeVictims_one (s : State) {n v records extents : Nat} (vs : List Nat)
    (h : records = 0 ∨ extents < n) (he : n ≤ extents + (s.slot v).extents.length) :
    s.takeVictims n (v :: vs) records extents = some [v] := by
  unfold State.takeVictims
  rw [if_neg (by omega)]
  dsimp only
  rw [State.takeVictims_room s vs (by omega) he]
  rfl

/-- Victims are taken from the front of the order (R27). -/
theorem State.takeVictims_prefix (s : State) (n : Nat) : ∀ (vs : List Nat) (records extents : Nat) (l : List Nat),
    s.takeVictims n vs records extents = some l → l <+: vs
  | vs, records, extents, l, h => by
    unfold State.takeVictims at h
    split at h
    · cases h
      exact List.nil_prefix
    · cases vs with
      | nil => cases h
      | cons v vs =>
        obtain ⟨m, hm, rfl⟩ := Option.map_eq_some_iff.mp h
        exact List.cons_prefix_cons.mpr ⟨rfl, State.takeVictims_prefix s n vs _ _ m hm⟩

/-- A page whose slot has a role or is being read is refused (R26). -/
theorem State.planOpen_inUse {s : State} {k : PageKey} (c : Cls) (n : Nat) (h : s.dupInUse (s.slotOfKey k) = true) :
    s.planOpen k c n = .error .inUse := if_pos h

/-- A ninth PINNED slot is refused (R24, R27). -/
theorem State.planOpen_pins {s : State} {k : PageKey} {c : Cls} (n : Nat) (h : s.dupInUse (s.slotOfKey k) = false)
    (hp : s.pinExcess c (s.slotOfKey k) = true) : s.planOpen k c n = .error .refusedState := by
  unfold State.planOpen
  dsimp only
  rw [if_neg (by simp [h]), if_pos hp]

/-- The EMPTY records an opening finds, the replaced slot's among them (R27). -/
def State.recordsFor (s : State) (dup : Option Nat) : Nat := s.emptyRecords.length + (if dup.isSome then 1 else 0)

/-- The free extents an opening finds, the replaced slot's among them (R27). -/
def State.extentsFor (s : State) (dup : Option Nat) : Nat :=
  s.pool.free.length + (dup.map (fun d => (s.slot d).extents.length)).getD 0

/-- An opening with victims enough and a record (R27, R28). -/
theorem State.planOpen_plan {s : State} {k : PageKey} {c : Cls} {n r : Nat} {victims : List Nat}
    (h : s.dupInUse (s.slotOfKey k) = false) (hp : s.pinExcess c (s.slotOfKey k) = false)
    (hv : s.takeVictims n (s.evictable (s.slotOfKey k)) (s.recordsFor (s.slotOfKey k)) (s.extentsFor (s.slotOfKey k))
      = some victims) (hr : s.recordFor (s.slotOfKey k) victims = some r) :
    s.planOpen k c n = .ok ⟨s.slotOfKey k, victims, r⟩ := by
  unfold State.recordsFor State.extentsFor at hv
  unfold State.planOpen
  dsimp only
  rw [if_neg (by simp [h]), if_neg (by simp [hp]), hv]
  dsimp only
  rw [hr]

/-- An opening with no victims enough (R27). -/
theorem State.planOpen_short {s : State} {k : PageKey} {c : Cls} {n : Nat}
    (h : s.dupInUse (s.slotOfKey k) = false) (hp : s.pinExcess c (s.slotOfKey k) = false)
    (hv : s.takeVictims n (s.evictable (s.slotOfKey k)) (s.recordsFor (s.slotOfKey k)) (s.extentsFor (s.slotOfKey k))
      = none) : s.planOpen k c n = .error
        (if s.recordsFor (s.slotOfKey k) + (s.evictable (s.slotOfKey k)).length = 0 then .noSlot else .noSpace) := by
  unfold State.recordsFor State.extentsFor at hv
  unfold State.planOpen
  dsimp only
  rw [if_neg (by simp [h]), if_neg (by simp [hp]), hv]
  exact (apply_ite Except.error _ _ _).symm

/-- What an accepted opening has found (R26 to R28). -/
theorem State.planOpen_ok {s : State} {k : PageKey} {c : Cls} {n : Nat} {plan : OpenPlan}
    (h : s.planOpen k c n = .ok plan) : plan.dup = s.slotOfKey k ∧ plan.victims <+: s.evictable (s.slotOfKey k)
      ∧ s.recordFor (s.slotOfKey k) plan.victims = some plan.record := by
  unfold State.planOpen at h
  dsimp only at h
  split at h
  · cases h
  · split at h
    · cases h
    · split at h
      · next victims hv =>
        split at h
        · next r hr =>
          cases h
          exact ⟨rfl, State.takeVictims_prefix _ _ _ _ _ _ hv, hr⟩
        · cases h
      · split_ifs at h

/-! ### The record of a new page (R23, R28) -/

/-- The record R28 chooses among those EMPTY before, whatever the victims. -/
theorem State.recordFor_freeRecord {s : State} {n : Nat} (victims : List Nat) (h : s.FreeRecord n) :
    s.recordFor none victims = some n := by
  obtain ⟨hn, he, h⟩ := h
  unfold State.recordFor State.emptyRecords State.slotNumbers
  rw [List.find?_filter, List.head?_filter]
  rcases h with ⟨hl, hb⟩ | ⟨hl, hb⟩
  · rw [List.find?_range_eq_some.mpr
      ⟨by simp [he, hl], List.mem_range.mpr hn, fun m hm => by simpa [imp_iff_not_or] using hb m hm⟩]
    rfl
  · rw [List.find?_eq_none.mpr fun m hm => by simpa using hl m (List.mem_range.mp hm),
      List.find?_range_eq_some.mpr ⟨by simp [he], List.mem_range.mpr hn, fun m hm => by simpa using hb m hm⟩]
    rfl

theorem State.mem_emptyRecords {s : State} {n : Nat} :
    n ∈ s.emptyRecords ↔ n < s.slots.slots.length ∧ (s.slot n).state = .empty := by
  simp [State.emptyRecords, State.slotNumbers]

theorem State.emptyRecords_of_none {s : State} (h : ∀ m < s.slots.slots.length, (s.slot m).state ≠ .empty) :
    s.emptyRecords = [] :=
  List.eq_nil_iff_forall_not_mem.mpr fun m hm =>
    h m (State.mem_emptyRecords.mp hm).1 (State.mem_emptyRecords.mp hm).2

theorem State.emptyRecords_pos {s : State} {n : Nat} (hn : n < s.slots.slots.length) (he : (s.slot n).state = .empty) :
    1 ≤ s.emptyRecords.length := List.length_pos_of_mem (State.mem_emptyRecords.mpr ⟨hn, he⟩)

/-- The record of a new page is the replaced slot's, an EMPTY one's, or the first victim's (R28). -/
theorem State.recordFor_mem {s : State} {dup : Option Nat} {victims : List Nat} {r : Nat}
    (h : s.recordFor dup victims = some r) : dup = some r ∨ (s.slot r).state = .empty ∨ r ∈ victims := by
  unfold State.recordFor at h
  rcases Option.or_eq_some_iff.mp h with h | ⟨-, h⟩
  · exact .inl h
  · rcases Option.or_eq_some_iff.mp h with h | ⟨-, h⟩
    · exact .inr (.inl (State.mem_emptyRecords.mp (List.mem_of_find?_eq_some h)).2)
    · rcases Option.or_eq_some_iff.mp h with h | ⟨-, h⟩
      · exact .inr (.inl (State.mem_emptyRecords.mp (List.mem_of_mem_head? h)).2)
      · exact .inr (.inr (List.mem_of_mem_head? h))

/-! ### The new page (R3, R22, R28) -/

/-- The state once a new page has its record, the first `n` free extents and its stamp (R3, R22, R28). -/
def State.pageEntered (s : State) (r n : Nat) (x : Slot) : State :=
  { s with
    pool := { s.pool with
      free := s.pool.free.drop n, owners := setOwners s.pool.owners (s.pool.free.take n) (.slot r) }
    slots := { s.slots with
      slots := s.slots.slots.set r { x with extents := s.pool.free.take n, age := s.slots.use }
      use := min 4294967295 (s.slots.use + 1) } }

/-- Who owns each extent once a new page has its own (R3). -/
theorem State.pageEntered_owners (s : State) (r n : Nat) (x : Slot) (e : Nat) :
    (s.pageEntered r n x).pool.owners[e]? = if e ∈ s.pool.free.take n ∧ e < s.pool.owners.length then some (.slot r)
      else s.pool.owners[e]? := by
  refine (setOwners_getElem? _ _ _ _).trans ?_
  by_cases he : e < s.pool.owners.length
  · simp [he]
  · simp [he]

theorem State.slot_pageEntered_same {s : State} {r n : Nat} (x : Slot) (h : r < s.slots.slots.length) :
    (s.pageEntered r n x).slot r = { x with extents := s.pool.free.take n, age := s.slots.use } :=
  State.slot_setSlot_same (s := s) _ h

/-- Slots emptied one after another. -/
theorem State.foldl_emptySlot_changed (l : List Nat) (b : Bool) (s : State) :
    s.SlotsChanged (l.foldl (fun t v => t.emptySlot v b) s) := by
  induction l generalizing s with
  | nil => exact .refl s
  | cons v l ih => exact (s.affect_changed v (.emptied b)).trans (ih _)

/-- The replaced slot and the victims go, and nothing but slots changes (R28). -/
theorem State.clearFor_changed (s : State) (p : OpenPlan) : s.SlotsChanged (s.clearFor p) := by
  unfold State.clearFor
  split
  · next d _ => exact (s.affect_changed d (.emptied false)).trans (State.foldl_emptySlot_changed _ _ _)
  · exact State.foldl_emptySlot_changed _ _ _

/-- What an opening empties rests on no port (R28). -/
theorem State.clearFor_workingOn (s : State) (p : Port) (plan : OpenPlan) :
    (s.workingOn p).clearFor plan = (s.clearFor plan).workingOn p := by
  have hempty (t : State) (v : Nat) : (t.workingOn p).emptySlot v false = (t.emptySlot v false).workingOn p := by
    cases p <;> rfl
  have hfold (l : List Nat) : ∀ t : State, l.foldl (fun t v => t.emptySlot v false) (t.workingOn p)
      = (l.foldl (fun t v => t.emptySlot v false) t).workingOn p := by
    induction l with
    | nil => exact fun _ => rfl
    | cons v l ih => exact fun t => by rw [List.foldl_cons, List.foldl_cons, hempty, ih]
  unfold State.clearFor
  cases plan.dup with
  | none => exact hfold _ _
  | some d => dsimp only; rw [hempty, hfold]

/-- The refill wants of an opening's victims (R28, R67). -/
def State.refillAll (s t : State) (victims : List Nat) : State :=
  victims.foldl (fun w v => w.refillFor ((s.slot v).key.map PageKey.book)) t

/-- The page of an accepted opening with extents enough, before the refill wants of its victims (R28). -/
theorem State.carryOut_enters {s : State} {p : OpenPlan} {n : Nat} (x : Slot) (hr : p.record < s.slots.slots.length)
    (hn : n ≤ (s.clearFor p).pool.free.length) : s.carryOut p n x =
      s.refillAll ((s.clearFor p).pageEntered p.record n x) p.victims := by
  have hl : p.record < (s.clearFor p).slots.slots.length := by rwa [(s.clearFor_changed p).2]
  unfold State.carryOut
  generalize s.clearFor p = t at hn hl
  dsimp only
  rw [Pool.allocate, if_pos hn]
  dsimp only
  rw [State.stamp, State.slot_setSlot_same _ (by exact hl)]
  simp only [State.setSlot, List.set_set]
  rfl

/-- Victims are taken by the lengths of their extent lists (R27). -/
theorem State.takeVictims_congr {s t : State} (h : ∀ n, t.slot n = s.slot n) (n : Nat) : ∀ (vs : List Nat) (r e : Nat),
    t.takeVictims n vs r e = s.takeVictims n vs r e
  | [], r, e => by unfold State.takeVictims; rfl
  | v :: vs, r, e => by
    unfold State.takeVictims
    dsimp only
    rw [h, State.takeVictims_congr h n vs]

/-- The order of eviction rests on no port (R27). -/
theorem State.evictable_workingOn (s : State) (p : Port) (dup : Option Nat) :
    (s.workingOn p).evictable dup = s.evictable dup := by
  have ho : (s.workingOn p).oldestFirst = s.oldestFirst :=
    funext fun l => State.oldestFirst_congr (by cases p <;> rfl) l
  unfold State.evictable
  rw [ho]
  cases p <;> rfl

/-- The plan of an opening rests on no port (R26 to R28). -/
theorem State.planOpen_workingOn (s : State) (p : Port) (k : PageKey) (c : Cls) (n : Nat) :
    (s.workingOn p).planOpen k c n = s.planOpen k c n := by
  unfold State.planOpen
  dsimp only
  rw [State.evictable_workingOn, State.takeVictims_congr (s.workingOn_slot p)]
  cases p <;> rfl

/-- OPEN_SLOT at a ready port (R26 to R28). -/
theorem exec_openSlot {s : State} (x : OpenSlotArgs) (h : s.Ready .a) :
    exec (.openSlot (freshFrame .a) (.fields x)) s = .next ((s.workingOn .a).serveOpenSlot .a x) :=
  congrArg _ (State.frame_serve h (by simp) rfl)

/-- BLANK_SLOT at a ready port (R35). -/
theorem exec_blankSlot {s : State} (x : BlankSlotArgs) (h : s.Ready .a) :
    exec (.blankSlot (freshFrame .a) (.fields x)) s = .next ((s.workingOn .a).serveBlankSlot .a x) :=
  congrArg _ (State.frame_serve h (by simp) rfl)

/-- OPEN_SLOT with a plan (R26 to R28). -/
theorem State.serveOpenSlot_plan {s : State} {p : Port} {x : OpenSlotArgs} {plan : OpenPlan} (hx : openInRange x = true)
    (hp : s.planOpen x.key x.cls (extentsNeeded x.length) = .ok plan) : s.serveOpenSlot p x =
      ((s.carryOut plan (extentsNeeded x.length) (openedSlot x)).tell p (.opened plan.record
        ((s.carryOut plan (extentsNeeded x.length) (openedSlot x)).slot plan.record).extents)).evalWatch := by
  simp only [State.serveOpenSlot, if_pos hx, hp]

/-- BLANK_SLOT with a plan (R35). -/
theorem State.serveBlankSlot_plan {s : State} {p : Port} {x : BlankSlotArgs} {plan : OpenPlan}
    (hx : blankInRange x = true) (hp : s.planOpen x.key x.cls 1 = .ok plan) : s.serveBlankSlot p x =
      ((s.carryOut plan 1 (blankSlotRecord x)).setWork p (some (blankWork plan.record
        ((s.carryOut plan 1 (blankSlotRecord x)).slot plan.record).extents x.level))).evalWatch := by
  simp only [State.serveBlankSlot, if_pos hx, hp]

/-! ### Refusals (R24, R26, R27, R35) -/

theorem openInRange_iff (x : OpenSlotArgs) : openInRange x = true ↔ 1 ≤ x.key.book ∧ x.key.book ≤ 65535
    ∧ x.key.page ≤ 16777215 ∧ 1 ≤ x.length ∧ x.length ≤ 1048576 := by
  simp [openInRange, keyInRange, inRange, Config.bookMax, Config.pageMax, Config.imageMax, and_assoc]

theorem blankInRange_iff (x : BlankSlotArgs) : blankInRange x = true ↔ 1 ≤ x.key.book ∧ x.key.book ≤ 65535
    ∧ x.key.page ≤ 16777215 ∧ x.level ≤ 15 := by
  simp [blankInRange, keyInRange, inRange, Config.bookMax, Config.pageMax, and_assoc]

/-- OPEN_SLOT refused by its plan. -/
theorem exec_openSlot_refused {s : State} {x : OpenSlotArgs} {c : Status} (h : s.Ready .a) (hx : openInRange x = true)
    (hp : s.planOpen x.key x.cls (extentsNeeded x.length) = .error c) :
    exec (.openSlot (freshFrame .a) (.fields x)) s = .next (s.refusedWith .a c) := by
  rw [exec_openSlot x h, ← State.say_workingOn c h]
  simp only [State.serveOpenSlot, if_pos hx, State.planOpen_workingOn, hp]

/-- BLANK_SLOT refused by its plan. -/
theorem exec_blankSlot_refused {s : State} {x : BlankSlotArgs} {c : Status} (h : s.Ready .a)
    (hx : blankInRange x = true) (hp : s.planOpen x.key x.cls 1 = .error c) :
    exec (.blankSlot (freshFrame .a) (.fields x)) s = .next (s.refusedWith .a c) := by
  rw [exec_blankSlot x h, ← State.say_workingOn c h]
  simp only [State.serveBlankSlot, if_pos hx, State.planOpen_workingOn, hp]

theorem State.hasRole_iff (s : State) (n : Nat) :
    s.hasRole n = true ↔ s.panel.shown = some n ∨ s.panel.target = some n := by
  simp [State.hasRole, State.isShown, State.isTarget]

/-- The slots an opening may take (R27, R43). -/
theorem State.mem_evictable {s : State} {dup : Option Nat} {n : Nat} : n ∈ s.evictable dup ↔ n < s.slots.slots.length
    ∧ (s.slot n).state = .ready ∧ ((s.slot n).cls = some .streamed ∨ (s.slot n).cls = some .retained)
    ∧ s.panel.shown ≠ some n ∧ s.panel.target ≠ some n ∧ dup ≠ some n := by
  simp only [State.evictable, List.mem_filter, List.mem_append, (s.oldestFirst_perm _).mem_iff, State.mem_unprotected,
    decide_eq_true_eq]
  tauto

/-- Without a READY slot that may be taken there is nothing to evict (R27). -/
theorem State.evictable_of_none {s : State} {dup : Option Nat}
    (h : ∀ n < s.slots.slots.length, (s.slot n).state = .ready →
      (s.slot n).cls = some .pinned ∨ s.panel.shown = some n ∨ s.panel.target = some n) : s.evictable dup = [] := by
  refine List.eq_nil_iff_forall_not_mem.mpr fun n hn => ?_
  obtain ⟨hl, hr, hc, hs, ht, -⟩ := State.mem_evictable.mp hn
  rcases h n hl hr with hp | hp | hp
  · simp [hp] at hc
  · exact hs hp
  · exact ht hp

/-- With no page of the key the count of PINNED slots decides alone (R24). -/
theorem State.pinExcess_none (s : State) (c : Cls) : s.pinExcess c none = true ↔ c = .pinned ∧ 8 ≤ s.pinned := by
  simp [State.pinExcess, Config.pinLimit]

theorem State.pinExcess_room (s : State) {c : Cls} (h : c = .pinned → s.pinned < 8) : s.pinExcess c none = false :=
  Bool.eq_false_iff.mpr fun hp =>
    absurd (h ((s.pinExcess_none c).mp hp).1) (not_lt.mpr ((s.pinExcess_none c).mp hp).2)

/-- Settles O17: arguments out of range, then the refusals of the plan in their order. -/
theorem openRefusalsChangeNothing : Obligations.OpenRefusalsChangeNothing := by
  intro s x y h hk hc
  refine ⟨fun hb => ?openRange, fun hb => ?blankRange, ?valid⟩
  case openRange =>
    rw [exec_openSlot x h, State.serveOpenSlot, if_neg (mt (openInRange_iff x).mp hb), State.say_workingOn _ h]
  case blankRange =>
    rw [exec_blankSlot y h, State.serveBlankSlot, if_neg (fun hy => hb (hk ▸ (blankInRange_iff y).mp hy)),
      State.say_workingOn _ h]
  case valid =>
    rintro ⟨h1, h2, h3, h4, h5, h6⟩
    have hx : openInRange x = true := (openInRange_iff x).mpr ⟨h1, h2, h3, h4, h5⟩
    have hy : blankInRange y = true := (blankInRange_iff y).mpr (hk ▸ ⟨h1, h2, h3, h6⟩)
    have refuses {c : Status} (hp : ∀ n, s.planOpen x.key x.cls n = .error c) :
        exec (.openSlot (freshFrame .a) (.fields x)) s = .next (s.refusedWith .a c)
          ∧ exec (.blankSlot (freshFrame .a) (.fields y)) s = .next (s.refusedWith .a c) :=
      ⟨exec_openSlot_refused h hx (hp _), exec_blankSlot_refused h hy (hk ▸ hc ▸ hp 1)⟩
    refine ⟨fun d hd hu => refuses fun n => ?inUse, fun hd hp hm => refuses fun n => ?pins, fun hd hp hv =>
      ⟨fun he => refuses fun n => ?noSlot, fun ⟨m, hm, he⟩ hf => exec_openSlot_refused h hx ?noSpace⟩⟩
    case inUse =>
      refine State.planOpen_inUse _ _ ?_
      rw [hd, State.dupInUse, Option.any_some, Bool.or_eq_true, State.hasRole_iff, decide_eq_true_eq, or_assoc]
      exact hu
    case pins =>
      refine State.planOpen_pins n (by rw [hd]; rfl) ?_
      rw [hd]
      exact (s.pinExcess_none _).mpr ⟨hp, hm⟩
    all_goals
      have hin : s.dupInUse (s.slotOfKey x.key) = false := by rw [hd]; rfl
      have hpin : s.pinExcess x.cls (s.slotOfKey x.key) = false := by
        rw [hd]
        exact s.pinExcess_room fun h => absurd h hp
      have hvs : s.evictable (s.slotOfKey x.key) = [] := State.evictable_of_none hv
    case noSlot =>
      have hrec : s.recordsFor (s.slotOfKey x.key) = 0 := by
        rw [hd, State.recordsFor, State.emptyRecords_of_none he]
        rfl
      rw [State.planOpen_short hin hpin (by rw [hvs]; exact s.takeVictims_nil (.inl hrec)), hvs, hrec]
      rfl
    case noSpace =>
      have hext : s.extentsFor (s.slotOfKey x.key) < extentsNeeded x.length := by
        rw [hd]
        exact hf
      have hrec : 1 ≤ s.recordsFor (s.slotOfKey x.key) :=
        (State.emptyRecords_pos hm he).trans (Nat.le_add_right _ _)
      rw [State.planOpen_short hin hpin (by rw [hvs]; exact s.takeVictims_nil (.inr hext)), if_neg (by omega)]

/-! ### Refill wants without a wake (R66, R67) -/

/-- The turn engine with its refill want computed (R66). -/
def State.wantComputed (s : State) : TurnEngine :=
  match s.panel.shownKey with
  | some k => { s.turn with want := some ⟨k.book, s.wantedPages k⟩ }
  | none => s.turn

/-- The notices with REFILL_WANTED raised where the want is not empty (R66). -/
def State.wantNoted (s : State) : NoticeUnit :=
  match s.panel.shownKey with
  | some k => if (s.wantedPages k).isEmpty then s.notices else { s.notices with
      ap := s.notices.ap.modify 2 (fun n => n.raised (.refillWanted ⟨k.book, s.wantedPages k⟩)) }
  | none => s.notices

/-- The refill want computed and noted, without a wake (R66). -/
def State.refilled (s : State) : State := { s with turn := s.wantComputed, notices := s.wantNoted }

theorem State.refill_quiet {s : State} (h : s.NoWake .refillWanted) : s.refill = s.refilled := by
  unfold State.refill State.refilled State.wantComputed State.wantNoted
  cases s.panel.shownKey with
  | none => rfl
  | some k =>
    dsimp only
    by_cases hw : (s.wantedPages k).isEmpty = true
    · rw [if_pos hw, if_pos hw]
    · rw [if_neg hw, if_neg hw]
      exact State.raise_quiet _ _ (by exact h)

/-- A refill want rests on neither the pool, the staging unit nor the ports. -/
theorem State.refilled_beside (s : State) (p : Pool) (g : Staging) (a r : PortUnit) :
    State.refilled { s with pool := p, staging := g, portA := a, portR := r }
      = { s.refilled with pool := p, staging := g, portA := a, portR := r } := rfl

/-- The refill want of a victim, which presents no wake (R67). -/
theorem State.refillFor_quiet {s : State} (b : Option Nat) (h : s.NoWake .refillWanted) :
    s.refillFor b = if b.isSome ∧ b = s.shownBook then s.refilled else s := by
  unfold State.refillFor
  rw [State.refill_quiet h]

/-- A refill want is computed beside a port that works on a request. -/
theorem State.refillFor_workingOn {s : State} (b : Option Nat) (h : s.bs.ap = .on) :
    (s.workingOn .a).refillFor b = (s.refillFor b).workingOn .a := by
  rw [State.refillFor_quiet b (.inl h), State.refillFor_quiet b (.inl (by exact h))]
  by_cases hb : b.isSome ∧ b = s.shownBook
  · rw [if_pos hb, if_pos (by exact hb)]
    exact s.refilled_beside s.pool s.staging s.portA.working s.portR
  · rw [if_neg hb, if_neg (by exact hb)]

theorem State.refillAll_still (s t : State) (victims : List Nat) : (s.refillAll t victims).still = t.still := by
  unfold State.refillAll
  induction victims generalizing t with
  | nil => rfl
  | cons v l ih => rw [List.foldl_cons, ih, State.refillFor_still]

theorem State.refillAll_workingOn {s t : State} (victims : List Nat) (h : t.bs.ap = .on) :
    s.refillAll (t.workingOn .a) victims = (s.refillAll t victims).workingOn .a := by
  unfold State.refillAll
  induction victims generalizing t with
  | nil => rfl
  | cons v l ih =>
    rw [List.foldl_cons, List.foldl_cons, State.refillFor_workingOn _ h, ih]
    rw [State.refillFor_quiet _ (.inl h)]
    split <;> exact h

theorem State.slots_of_still {s t : State} (h : t.still = s.still) : t.slots = s.slots := by
  simp only [State.still, Prod.mk.injEq] at h
  exact h.2.2.2.2.1

theorem State.staging_of_still {s t : State} (h : t.still = s.still) : t.staging = s.staging := by
  simp only [State.still, Prod.mk.injEq] at h
  exact h.2.2.2.2.2.1

/-- The table's records, read by the table alone. -/
theorem State.slot_congr {s t : State} (h : t.slots = s.slots) (n : Nat) : t.slot n = s.slot n := by
  unfold State.slot
  rw [h]

/-- The state an accepted opening leaves, short of its answer (R28). -/
def State.opened (s : State) (plan : OpenPlan) (n : Nat) (x : Slot) : State :=
  s.refillAll ((s.clearFor plan).pageEntered plan.record n x) plan.victims

theorem State.opened_still (s : State) (plan : OpenPlan) (n : Nat) (x : Slot) :
    (s.opened plan n x).still = ((s.clearFor plan).pageEntered plan.record n x).still := s.refillAll_still _ _

theorem State.opened_watch (s : State) (plan : OpenPlan) (n : Nat) (x : Slot) :
    (s.opened plan n x).staging.watch = s.staging.watch := by
  rw [State.staging_of_still (s.opened_still plan n x)]
  show (s.clearFor plan).staging.watch = s.staging.watch
  rw [(s.clearFor_changed plan).1]

theorem State.opened_extents {s : State} {plan : OpenPlan} (n : Nat) (x : Slot)
    (hr : plan.record < s.slots.slots.length) :
    ((s.opened plan n x).slot plan.record).extents = (s.clearFor plan).pool.free.take n := by
  rw [State.slot_congr (State.slots_of_still (s.opened_still plan n x)),
    State.slot_pageEntered_same x (by rwa [(s.clearFor_changed plan).2])]

/-- An opening carried out while Port A works on it (R28). -/
theorem State.carryOut_workingOn {s : State} {plan : OpenPlan} {n : Nat} (x : Slot) (hap : s.bs.ap = .on)
    (hr : plan.record < s.slots.slots.length) (hn : n ≤ (s.clearFor plan).pool.free.length) :
    (s.workingOn .a).carryOut plan n x = (s.opened plan n x).workingOn .a := by
  rw [State.carryOut_enters _ (by exact hr) (by rw [State.clearFor_workingOn]; exact hn), State.clearFor_workingOn]
  refine State.refillAll_workingOn (s := s) (t := (s.clearFor plan).pageEntered plan.record n x) plan.victims ?_
  show (s.clearFor plan).bs.ap = .on
  rw [(s.clearFor_changed plan).1]
  exact hap

/-- OPEN_SLOT answers with its record and extents, and beside the opening nothing but the port differs (R28). -/
theorem exec_openSlot_opens {s : State} {x : OpenSlotArgs} {plan : OpenPlan} (h : s.Ready .a)
    (hw : s.staging.watch = none) (hx : openInRange x = true)
    (hp : s.planOpen x.key x.cls (extentsNeeded x.length) = .ok plan) (hr : plan.record < s.slots.slots.length)
    (hn : extentsNeeded x.length ≤ (s.clearFor plan).pool.free.length) :
    exec (.openSlot (freshFrame .a) (.fields x)) s = .next
      ((s.opened plan (extentsNeeded x.length) (openedSlot x)).replied .a
        ⟨.ok, .opened plan.record ((s.clearFor plan).pool.free.take (extentsNeeded x.length))⟩) := by
  rw [exec_openSlot x h, State.serveOpenSlot_plan hx ((s.planOpen_workingOn _ _ _ _).trans hp),
    State.carryOut_workingOn _ (of_decide_eq_true h.1) hr hn, State.workingOn_slot, State.opened_extents _ _ hr,
    State.evalWatch_none (by rw [State.tell_staging]; exact (s.opened_watch _ _ _).trans hw), State.tell,
    State.give_workingOn]

/-- BLANK_SLOT begins to write its page, and beside the opening nothing but the port and its work differs (R28, R35). -/
theorem exec_blankSlot_opens {s : State} {x : BlankSlotArgs} {plan : OpenPlan} (h : s.Ready .a)
    (hw : s.staging.watch = none) (hx : blankInRange x = true) (hp : s.planOpen x.key x.cls 1 = .ok plan)
    (hr : plan.record < s.slots.slots.length) (hn : 1 ≤ (s.clearFor plan).pool.free.length) :
    exec (.blankSlot (freshFrame .a) (.fields x)) s = .next
      (((s.opened plan 1 (blankSlotRecord x)).workingOn .a).setWork .a
        (some (blankWork plan.record ((s.clearFor plan).pool.free.take 1) x.level))) := by
  rw [exec_blankSlot x h, State.serveBlankSlot_plan hx ((s.planOpen_workingOn _ _ _ _).trans hp),
    State.carryOut_workingOn _ (of_decide_eq_true h.1) hr hn, State.workingOn_slot, State.opened_extents _ _ hr,
    State.evalWatch_none (by exact (s.opened_watch _ _ _).trans hw)]

/-! ### Openings without a victim -/

/-- The plan with an EMPTY record and the extents at hand (R28). -/
theorem State.planOpen_free {s : State} {k : PageKey} {c : Cls} {n r : Nat} (hk : s.slotOfKey k = none)
    (hc : c = .pinned → s.pinned < 8) (hr : s.FreeRecord r) (hn : n ≤ s.pool.free.length) :
    s.planOpen k c n = .ok ⟨none, [], r⟩ := by
  have hin : s.dupInUse (s.slotOfKey k) = false := by rw [hk]; rfl
  have hpin : s.pinExcess c (s.slotOfKey k) = false := by
    rw [hk]
    exact s.pinExcess_room hc
  have hrec : 1 ≤ s.recordsFor (s.slotOfKey k) := (State.emptyRecords_pos hr.1 hr.2.1).trans (Nat.le_add_right _ _)
  have hext : n ≤ s.extentsFor (s.slotOfKey k) := hn.trans (Nat.le_add_right _ _)
  rw [State.planOpen_plan (r := r) hin hpin (s.takeVictims_room _ hrec hext)
    (by rw [hk]; exact State.recordFor_freeRecord [] hr), hk]

/-- The extents that emptying a slot makes free (R4, R6). -/
theorem State.emptySlot_free (s : State) (n : Nat) (b : Bool) :
    (s.emptySlot n b).pool.free.length = s.pool.free.length + (s.heldBy [n]).length := by
  rw [(s.released_one n b).1, List.length_append]

/-- No release accepts more extents than the slot lists (R6). -/
theorem State.heldBy_length_le (s : State) (n : Nat) : (s.heldBy [n]).length ≤ (s.slot n).extents.length := by
  simpa [State.heldBy] using List.length_filter_le (fun e => decide (e < 504)) (s.slot n).extents

/-- The plan that replaces the slot of the key (R26, R28). -/
theorem State.planOpen_replaces {s : State} {k : PageKey} {c : Cls} {n d : Nat} (hk : s.slotOfKey k = some d)
    (hd : (s.slot d).state = .filling ∨ (s.slot d).state = .ready) (hs : s.panel.shown ≠ some d)
    (ht : s.panel.target ≠ some d) (hc : c = .pinned → (s.slot d).cls = some .pinned ∧ s.pinned ≤ 8 ∨ s.pinned < 8)
    (hn : n ≤ s.pool.free.length + (s.heldBy [d]).length) : s.planOpen k c n = .ok ⟨some d, [], d⟩ := by
  have hin : s.dupInUse (s.slotOfKey k) = false := by
    rw [hk]
    rcases hd with hd | hd <;> simp [State.dupInUse, State.hasRole, State.isShown, State.isTarget, hs, ht, hd]
  have hpin : s.pinExcess c (s.slotOfKey k) = false := by
    rw [hk]
    simp only [State.pinExcess, Config.pinLimit, Bool.and_eq_false_iff, decide_eq_false_iff_not]
    by_cases hp : c = .pinned
    · right
      rcases hc hp with ⟨h1, h2⟩ | h1
      · rw [if_pos h1]; omega
      · split <;> omega
    · exact .inl hp
  have hrec : 1 ≤ s.recordsFor (s.slotOfKey k) := by rw [hk]; exact Nat.le_add_left _ _
  have hext : n ≤ s.extentsFor (s.slotOfKey k) := by
    rw [hk]
    exact hn.trans (Nat.add_le_add_left (s.heldBy_length_le d) _)
  rw [State.planOpen_plan (r := d) hin hpin (s.takeVictims_room _ hrec hext) (by rw [hk]; rfl), hk]

/-- Settles O16: a free record, then a slot replaced by OPEN_SLOT and by BLANK_SLOT. -/
theorem openSlotTakesLowestFreeRecord : Obligations.OpenSlotTakesLowestFreeRecord := by
  refine ⟨?free, ?replaces, ?blankReplaces⟩
  case free =>
    rintro s x n k h hw h1 h2 h3 h4 h5 rfl hk hd hc hn
    have hx : openInRange x = true := (openInRange_iff x).mpr ⟨h1, h2, h3, h4, h5⟩
    exact ⟨_, exec_openSlot_opens h hw hx (State.planOpen_free hd hc hn hk) hn.1 hk, rfl,
      s.pageEntered_owners n _ (openedSlot x), rfl⟩
  case replaces =>
    rintro s x d k h hw h1 h2 h3 h4 h5 rfl hk hd hs ht hl hc hn
    have hx : openInRange x = true := (openInRange_iff x).mpr ⟨h1, h2, h3, h4, h5⟩
    have hexec := exec_openSlot_opens h hw hx (State.planOpen_replaces hk hd hs ht hc hn) hl
      ((s.emptySlot_free d false).symm ▸ hn)
    refine ⟨s.emptySlot d false, _, s.released_one d false, rfl, ?frame, ?owners, hexec⟩
    case frame => rfl
    case owners => exact (s.emptySlot d false).pageEntered_owners d _ (openedSlot x)
  case blankReplaces =>
    intro s x d h hw h1 h2 h3 h4 hk hd hs ht hl hc hn
    have hx : blankInRange x = true := (blankInRange_iff x).mpr ⟨h1, h2, h3, h4⟩
    have hexec := exec_blankSlot_opens h hw hx (State.planOpen_replaces hk hd hs ht hc hn) hl
      ((s.emptySlot_free d false).symm ▸ hn)
    refine ⟨s.emptySlot d false, _, s.released_one d false, rfl, ?frame, ?owners, hexec⟩
    case frame => rfl
    case owners => exact (s.emptySlot d false).pageEntered_owners d _ (blankSlotRecord x)

end Sys2Proof.Machine

namespace Sys2Proof.Machine

/-! ### BLANK_SLOT (R35) -/

/-- The end of a BLANK_SLOT's work at a port that holds no frame (R35). -/
theorem exec_blankSlotWriteEnd {s : State} {w : Work} {n : Nat} (hw : s.pool.workA = some w)
    (hk : w.kind = .blankSlot n) (hd : w.stop ≤ w.pos) :
    exec .blankSlotWriteEnd s = .next ((((s.setWork .a none).blankEnds .a n).settle).takeHeld .a) := by
  have hf : finishedWork s.pool.workA (fun k => (blankOf k).isSome) = some w := by
    simp [finishedWork, hw, hk, blankOf, Work.unfinished, Nat.not_lt.mpr hd]
  have hn : blankOf w.kind = some n := by rw [hk]; rfl
  simp only [exec, execBlankSlotWriteEnd]
  rw [hf]
  dsimp only
  rw [hn]

/-- Settles O21: the opening of the page, then the end of its writing. -/
theorem blankSlotMakesPage : Obligations.BlankSlotMakesPage := by
  refine ⟨?begins, ?ends⟩
  case begins =>
    intro s x n h hw h1 h2 h3 h4 hf hk hc hn
    have hx : blankInRange x = true := (blankInRange_iff x).mpr ⟨h1, h2, h3, h4⟩
    exact ⟨_, exec_blankSlot_opens h hw hx (State.planOpen_free hk hc hn hf) hn.1 hf, rfl, rfl,
      s.pageEntered_owners n 1 (blankSlotRecord x), rfl⟩
  case ends =>
    intro s w n hw hk hd hh hs hwatch hm hl hf
    have hready : (s.setWork .a none).becomeReady n = _ := State.becomeReady_eq (by exact hl) (by exact hm)
    have hsettled : (((s.setWork .a none).becomeReady n).tell .a (.slot n)).Settled := by
      rw [hready]
      exact (State.settled_setPort _ _ _).mpr (State.settled_congr hs hwatch rfl rfl rfl rfl rfl rfl)
    rw [exec_blankSlotWriteEnd hw hk hd, State.blankEnds, if_neg (by exact Bool.eq_false_iff.mp hf),
      State.settle_of_settled hsettled, hready, State.takeHeld_none (by exact (PortUnit.answered_held _ _).trans hh)]
    rfl

end Sys2Proof.Machine

namespace Sys2Proof.Machine

/-! ### What an opening leaves of the slots it does not open (R27, R28) -/

theorem State.evalWatch_slots (s : State) : s.evalWatch.slots = s.slots := by
  unfold State.evalWatch
  split
  · split
    · exact (State.slots_of_still (State.raiseRm_still _ _ _)).trans rfl
    · rfl
  · rfl

/-- Emptying slots leaves the others. -/
theorem State.foldl_emptySlot_slot {l : List Nat} {m : Nat} (b : Bool) (h : m ∉ l) (s : State) :
    (l.foldl (fun t v => t.emptySlot v b) s).slot m = s.slot m := by
  induction l generalizing s with
  | nil => rfl
  | cons v l ih =>
    rw [List.mem_cons, not_or] at h
    rw [List.foldl_cons, ih h.2, State.slot_emptySlot_ne b h.1]

theorem State.emptySlot_state (s : State) (v m : Nat) (b : Bool) :
    ((s.emptySlot v b).slot m).state = if m = v then .empty else (s.slot m).state := by
  split
  · next h =>
    subst h
    rcases Nat.lt_or_ge m s.slots.slots.length with hm | hm
    · rw [State.slot_emptySlot_same b hm]
      rfl
    · rw [State.slot_of_length_le (by rwa [State.emptySlot_frame, List.length_set])]
      rfl
  · next h => rw [State.slot_emptySlot_ne b h]

theorem State.foldl_emptySlot_state (l : List Nat) (m : Nat) (b : Bool) (s : State) :
    ((l.foldl (fun t v => t.emptySlot v b) s).slot m).state = if m ∈ l then .empty else (s.slot m).state := by
  induction l generalizing s with
  | nil => rfl
  | cons v l ih =>
    rw [List.foldl_cons, ih, State.emptySlot_state]
    by_cases hv : m = v <;> simp [hv]

/-- The slots that an opening neither replaces nor takes are left (R28). -/
theorem State.clearFor_slot {s : State} {plan : OpenPlan} {m : Nat} (hd : plan.dup ≠ some m) (hv : m ∉ plan.victims) :
    (s.clearFor plan).slot m = s.slot m := by
  unfold State.clearFor
  rw [State.foldl_emptySlot_slot false hv]
  split
  · next d h => exact State.slot_emptySlot_ne false fun hm => hd (hm ▸ h)
  · rfl

/-- The victims of an opening become EMPTY (R28). -/
theorem State.clearFor_state {s : State} {plan : OpenPlan} {m : Nat} (hv : m ∈ plan.victims) :
    ((s.clearFor plan).slot m).state = .empty := by
  unfold State.clearFor
  rw [State.foldl_emptySlot_state, if_pos hv]

/-- A stamp leaves every slot's state (R22). -/
theorem State.stamp_state (s : State) (n m : Nat) : ((s.stamp n).slot m).state = (s.slot m).state := by
  show ((s.setSlot n { s.slot n with age := s.slots.use }).slot m).state = (s.slot m).state
  by_cases h : m = n
  · subst h
    rcases Nat.lt_or_ge m s.slots.slots.length with hm | hm
    · rw [State.slot_setSlot_same _ hm]
    · rw [State.setSlot, List.set_eq_of_length_le hm]
  · rw [State.slot_setSlot_ne _ h]

/-- A slot written has the new record's state or stays. -/
theorem State.setSlot_state (s : State) (n m : Nat) (x : Slot) :
    ((s.setSlot n x).slot m).state = x.state ∨ ((s.setSlot n x).slot m).state = (s.slot m).state := by
  by_cases h : m = n
  · subst h
    rcases Nat.lt_or_ge m s.slots.slots.length with hm | hm
    · rw [State.slot_setSlot_same _ hm]
      exact .inl rfl
    · rw [State.setSlot, List.set_eq_of_length_le hm]
      exact .inr rfl
  · rw [State.slot_setSlot_ne _ h]
    exact .inr rfl

/-- The slots once the new page has entered, with the extents it needs or without (R28). -/
theorem State.carryOut_slots (s : State) (plan : OpenPlan) (n : Nat) (x : Slot) :
    (s.carryOut plan n x).slots = (s.clearFor plan).slots ∨ ∃ es,
      (s.carryOut plan n x).slots =
        (((s.clearFor plan).setSlot plan.record { x with extents := es }).stamp plan.record).slots := by
  unfold State.carryOut
  dsimp only
  cases (s.clearFor plan).pool.allocate n (.slot plan.record) with
  | none => exact .inl (State.slots_of_still (s.refillAll_still _ plan.victims))
  | some a => exact .inr ⟨a.1, (State.slots_of_still (s.refillAll_still _ plan.victims)).trans rfl⟩

/-- Beside the new page an opening only empties slots (R28). -/
theorem State.carryOut_slot_ne {s : State} {plan : OpenPlan} {m : Nat} (n : Nat) (x : Slot) (h : m ≠ plan.record) :
    (s.carryOut plan n x).slot m = (s.clearFor plan).slot m := by
  rcases s.carryOut_slots plan n x with hs | ⟨es, hs⟩
  · exact State.slot_congr hs m
  · rw [State.slot_congr hs m]
    exact (State.slot_setSlot_ne _ h).trans (State.slot_setSlot_ne _ h)

/-- A slot after an opening has the new page's state or the one it was left with (R28). -/
theorem State.carryOut_state (s : State) (plan : OpenPlan) (n m : Nat) (x : Slot) :
    ((s.carryOut plan n x).slot m).state = x.state
      ∨ ((s.carryOut plan n x).slot m).state = ((s.clearFor plan).slot m).state := by
  rcases s.carryOut_slots plan n x with hs | ⟨es, hs⟩
  · exact .inr (congrArg Slot.state (State.slot_congr hs m))
  · rw [State.slot_congr hs m, State.stamp_state]
    exact State.setSlot_state _ _ _ _

/-- What an opening of a page does to the slots it does not open: the victims, the first of the eviction order, are no
longer READY, and every other slot in use stays (R27, R28). -/
def State.TakesVictims (s t : State) (k : PageKey) : Prop :=
  ∃ victims, victims <+: s.evictable (s.slotOfKey k) ∧ (∀ m ∈ victims, (t.slot m).state ≠ .ready)
    ∧ ∀ m, s.slotOfKey k ≠ some m → (s.slot m).state ≠ .empty → m ∉ victims → t.slot m = s.slot m

/-- A refused opening takes none. -/
theorem State.takesVictims_none {s t : State} (k : PageKey) (h : t.slots = s.slots) : s.TakesVictims t k :=
  ⟨[], List.nil_prefix, fun _ hm => absurd hm List.not_mem_nil, fun m _ _ _ => State.slot_congr h m⟩

/-- An accepted opening of a page that is not READY at once takes those of its plan (R27, R28). -/
theorem State.takesVictims_plan {s t : State} {k : PageKey} {c : Cls} {p n : Nat} {plan : OpenPlan} {x : Slot}
    (hp : s.planOpen k c p = .ok plan) (hx : x.state ≠ .ready) (h : t.slots = (s.carryOut plan n x).slots) :
    s.TakesVictims t k := by
  obtain ⟨hdup, hprefix, hrecord⟩ := State.planOpen_ok hp
  refine ⟨plan.victims, hprefix, fun m hm => ?_, fun m hk he hm => ?_⟩
  · rw [State.slot_congr h m]
    rcases s.carryOut_state plan n m x with hs | hs
    · rwa [hs]
    · rw [hs, State.clearFor_state hm]
      decide
  · have hne : m ≠ plan.record := by
      rintro rfl
      rcases State.recordFor_mem hrecord with hr | hr | hr
      · exact hk hr
      · exact he hr
      · exact hm hr
    rw [State.slot_congr h m, State.carryOut_slot_ne n x hne, State.clearFor_slot (hdup ▸ hk) hm]

/-- The victims of an opening rest on no port. -/
theorem State.takesVictims_workingOn {s t : State} {p : Port} {k : PageKey} :
    (s.workingOn p).TakesVictims t k ↔ s.TakesVictims t k := by
  have hk : (s.workingOn p).slotOfKey k = s.slotOfKey k := by cases p <;> rfl
  simp only [State.TakesVictims, hk, State.evictable_workingOn, State.workingOn_slot]

/-- What OPEN_SLOT does to the slots it does not open (R27, R28). -/
theorem exec_openSlot_takes {s t : State} {x : OpenSlotArgs} (h : s.Ready .a)
    (ht : exec (.openSlot (freshFrame .a) (.fields x)) s = .next t) : s.TakesVictims t x.key := by
  rw [exec_openSlot x h] at ht
  cases ht
  rw [← State.takesVictims_workingOn (p := .a)]
  unfold State.serveOpenSlot
  split
  · split
    · next plan hp =>
      exact State.takesVictims_plan hp SlotState.noConfusion ((State.evalWatch_slots _).trans (State.tell_slots _ _ _))
    · exact State.takesVictims_none _ (State.say_slots _ _ _)
  · exact State.takesVictims_none _ (State.say_slots _ _ _)

/-- What BLANK_SLOT does to the slots it does not open (R27, R28, R35). -/
theorem exec_blankSlot_takes {s t : State} {x : BlankSlotArgs} (h : s.Ready .a)
    (ht : exec (.blankSlot (freshFrame .a) (.fields x)) s = .next t) : s.TakesVictims t x.key := by
  rw [exec_blankSlot x h] at ht
  cases ht
  rw [← State.takesVictims_workingOn (p := .a)]
  unfold State.serveBlankSlot
  split
  · split
    · next plan hp => exact State.takesVictims_plan hp SlotState.noConfusion (State.evalWatch_slots _)
    · exact State.takesVictims_none _ (State.say_slots _ _ _)
  · exact State.takesVictims_none _ (State.say_slots _ _ _)

/-- A slot that may not be taken stays when another page is opened (R27, R43). -/
theorem State.TakesVictims.spares {s t : State} {k : PageKey} {m : Nat} (h : s.TakesVictims t k)
    (he : (s.slot m).state ≠ .empty) (hm : m ∉ s.evictable (s.slotOfKey k)) (hk : s.slotOfKey k ≠ some m) :
    t.slot m = s.slot m := by
  obtain ⟨victims, hprefix, -, hstays⟩ := h
  exact hstays m hk he fun hv => hm (hprefix.subset hv)

/-! ### What PUT_BLOCK leaves of the slots (R156) -/

theorem State.growRing_slots {s t : State} (h : s.growRing = some t) : t.slots = s.slots := by
  unfold State.growRing at h
  split at h
  · cases h
    rfl
  · cases h

theorem State.refillFor_slots (s : State) (b : Option Nat) : (s.refillFor b).slots = s.slots :=
  State.slots_of_still (s.refillFor_still b)

/-- Room for a block costs one reclaimable slot at most (R156). -/
theorem State.makeRoom_slot {s t : State} {len m : Nat} (h : s.makeRoom len = some t) (hm : m ∉ s.reclaimable) :
    t.slot m = s.slot m := by
  unfold State.makeRoom State.obtainExtent State.reclaim at h
  split at h
  · cases h
    rfl
  · split at h
    · exact State.slot_congr (State.growRing_slots h) m
    · split at h
      · cases hr : s.reclaimable with
        | nil =>
          rw [hr] at h
          cases h
        | cons v l =>
          rw [hr] at h hm
          obtain ⟨u, hu, rfl⟩ := Option.map_eq_some_iff.mp h
          rw [State.slot_congr (State.refillFor_slots _ _), State.slot_congr (State.growRing_slots hu)]
          exact State.slot_emptySlot_ne _ (List.ne_of_not_mem_cons hm)
      · cases h

/-- The slots a staging reclaim may take (R42). -/
theorem State.mem_reclaimable {s : State} {n : Nat} : n ∈ s.reclaimable ↔ n < s.slots.slots.length
    ∧ ((s.slot n).state = .ready ∨ (s.slot n).state = .filling) ∧ (s.slot n).cls = some .streamed
    ∧ s.panel.shown ≠ some n ∧ s.panel.target ≠ some n := by
  simp only [State.reclaimable, List.mem_append, (s.oldestFirst_perm _).mem_iff, State.mem_unprotected]
  tauto

/-- PUT_BLOCK leaves every slot that no reclaim may take (R42, R156). -/
theorem State.servePutBlock_slot {s : State} {m : Nat} (p : Port) (x : PutBlockArgs) (hm : m ∉ s.reclaimable) :
    (s.servePutBlock p x).slot m = s.slot m := by
  have refuses (c : Status) : (s.say p c).slot m = s.slot m := State.slot_congr (State.say_slots _ _ _) m
  unfold State.servePutBlock
  split
  · exact refuses _
  · split
    · exact refuses _
    · split
      · split
        · unfold State.putBlock
          split
          · exact refuses _
          · split
            · next t ht =>
              rw [State.slot_congr (State.evalWatch_slots _)]
              have hroom : t.slot m = s.slot m := State.makeRoom_slot ht hm
              exact hroom
            · exact refuses _
        · exact refuses _
      · exact refuses _

/-- Settles O24: the eviction order of an opening holds no protected slot, nor does that of a reclaim. -/
theorem evictionSparesProtectedSlots : Obligations.EvictionSparesProtectedSlots := by
  refine ⟨?openings, ?reclaims⟩
  case openings =>
    intro s t x y m h he hm
    have hfree (dup : Option Nat) : m ∉ s.evictable dup := by
      intro hv
      obtain ⟨-, hready, hcls, hshown, htarget, -⟩ := State.mem_evictable.mp hv
      rcases hm with hp | hp | hp | hp | hp
      · simp [hp] at hcls
      · exact hshown hp
      · exact htarget hp
      · simp [hp] at hready
      · simp [hp] at hready
    exact ⟨fun hk ht => (exec_openSlot_takes h ht).spares he (hfree _) hk,
      fun hk ht => (exec_blankSlot_takes h ht).spares he (hfree _) hk⟩
  case reclaims =>
    intro s t x m h he hm ht
    have hserve : exec (.putBlock (freshFrame .r) (.fields x)) s = .next ((s.workingOn .r).servePutBlock .r x) :=
      congrArg _ (State.frame_serve h (by simp) rfl)
    rw [hserve] at ht
    cases ht
    refine (State.servePutBlock_slot .r x fun hv => ?_).trans (s.workingOn_slot .r m)
    obtain ⟨-, hstate, hcls, hshown, htarget⟩ := State.mem_reclaimable.mp hv
    rw [State.workingOn_slot] at hstate hcls
    rcases hm with hp | hp | hp | hp
    · exact hp hcls
    · exact hshown hp
    · exact htarget hp
    · simp [hp] at hstate

end Sys2Proof.Machine

namespace Sys2Proof.Machine

/-! ### The order of age (R22) -/

theorem State.older_age {s : State} {m n : Nat} (h : s.older m n = true) : (s.slot m).age ≤ (s.slot n).age := by
  simp only [State.older, Bool.or_eq_true, Bool.and_eq_true, decide_eq_true_eq] at h
  omega

theorem State.age_of_not_older {s : State} {m n : Nat} (h : s.older m n ≠ true) : (s.slot n).age ≤ (s.slot m).age := by
  simp only [State.older, ne_eq, Bool.or_eq_true, Bool.and_eq_true, decide_eq_true_eq] at h
  omega

/-- A slot put in its place keeps the order of age (R22). -/
theorem State.insertByAge_sorted {s : State} (n : Nat) {l : List Nat}
    (h : l.Pairwise (fun x y => (s.slot x).age ≤ (s.slot y).age)) :
    (s.insertByAge n l).Pairwise (fun x y => (s.slot x).age ≤ (s.slot y).age) := by
  induction l with
  | nil => exact List.pairwise_singleton _ _
  | cons m l ih =>
    obtain ⟨hm, hl⟩ := List.pairwise_cons.mp h
    unfold State.insertByAge
    split
    · next ho =>
      refine List.pairwise_cons.mpr ⟨fun x hx => ?_, h⟩
      rcases List.mem_cons.mp hx with rfl | hx
      · exact State.older_age ho
      · exact (State.older_age ho).trans (hm x hx)
    · next ho =>
      refine List.pairwise_cons.mpr ⟨fun x hx => ?_, ih hl⟩
      rcases List.mem_cons.mp ((s.insertByAge_perm n l).mem_iff.mp hx) with rfl | hx
      · exact State.age_of_not_older ho
      · exact hm x hx

theorem State.oldestFirst_sorted (s : State) (l : List Nat) :
    (s.oldestFirst l).Pairwise (fun x y => (s.slot x).age ≤ (s.slot y).age) := by
  induction l with
  | nil => exact List.Pairwise.nil
  | cons n l ih => exact State.insertByAge_sorted n ih

/-- A slot older than all others of a list stands first in it. -/
theorem State.oldestFirst_head {s : State} {l : List Nat} {v : Nat} (hv : v ∈ l)
    (h : ∀ m ∈ l, m ≠ v → (s.slot v).age < (s.slot m).age) : ∃ rest, s.oldestFirst l = v :: rest := by
  have hperm := s.oldestFirst_perm l
  have hsorted := s.oldestFirst_sorted l
  cases hl : s.oldestFirst l with
  | nil => exact absurd (hperm.mem_iff.mpr hv) (by simp [hl])
  | cons x rest =>
    rw [hl] at hperm hsorted
    by_cases hx : x = v
    · exact ⟨rest, by rw [hx]⟩
    · have hlater : v ∈ rest := ((List.mem_cons.mp (hperm.mem_iff.mpr hv)).resolve_left (Ne.symm hx))
      have holder := (List.pairwise_cons.mp hsorted).1 v hlater
      exact absurd (h x (hperm.mem_iff.mp List.mem_cons_self) hx) (not_lt.mpr holder)

/-- A slot is older than every other one of a state and a class that holds no role (R22). -/
def State.OldestOf (s : State) (st : SlotState) (c : Cls) (v : Nat) : Prop :=
  ∀ m < s.slots.slots.length, m ≠ v → (s.slot m).state = st → (s.slot m).cls = some c →
    s.panel.shown ≠ some m → s.panel.target ≠ some m → (s.slot v).age < (s.slot m).age

/-- Every slot of a state and a class holds a role. -/
def State.AllHeld (s : State) (st : SlotState) (c : Cls) : Prop :=
  ∀ m < s.slots.slots.length, (s.slot m).state = st → (s.slot m).cls = some c →
    s.panel.shown = some m ∨ s.panel.target = some m

theorem State.unprotected_first {s : State} {st : SlotState} {c : Cls} {v : Nat} (hv : v ∈ s.unprotected st c)
    (h : s.OldestOf st c v) : ∃ rest, s.oldestFirst (s.unprotected st c) = v :: rest := by
  refine State.oldestFirst_head hv fun m hm hne => ?_
  obtain ⟨hl, hs, hc, hshown, htarget⟩ := State.mem_unprotected.mp hm
  exact h m hl hne hs hc hshown htarget

theorem State.unprotected_none {s : State} {st : SlotState} {c : Cls} (h : s.AllHeld st c) :
    s.unprotected st c = [] := by
  refine List.eq_nil_iff_forall_not_mem.mpr fun m hm => ?_
  obtain ⟨hl, hs, hc, hshown, htarget⟩ := State.mem_unprotected.mp hm
  exact (h m hl hs hc).elim hshown htarget

/-! ### The order of eviction (R27) -/

/-- A READY slot stands before another in R27's order: STREAMED before RETAINED, and within a class the older. -/
def State.Ahead (s : State) (a b : Nat) : Prop :=
  ((s.slot a).cls = some .streamed ∧ (s.slot b).cls = some .retained)
    ∨ (((s.slot a).cls = some .streamed ∨ (s.slot a).cls = some .retained) ∧ (s.slot b).cls = (s.slot a).cls
      ∧ (s.slot a).age < (s.slot b).age)

theorem State.not_ahead_of_age {s : State} {a b : Nat} (hc : (s.slot a).cls = (s.slot b).cls)
    (h : (s.slot b).age ≤ (s.slot a).age) : ¬ s.Ahead a b := by
  rintro (⟨ha, hb⟩ | ⟨-, -, hlt⟩)
  · rw [hc, hb] at ha
    cases ha
  · omega

theorem State.not_ahead_of_cls {s : State} {a b : Nat} (ha : (s.slot a).cls = some .retained)
    (hb : (s.slot b).cls = some .streamed) : ¬ s.Ahead a b := by
  rintro (⟨h, -⟩ | ⟨-, h, -⟩)
  · rw [ha] at h
    cases h
  · rw [ha, hb] at h
    cases h

/-- One class of the order, oldest first. -/
theorem State.oldestFirst_ordered (s : State) (c : Cls) :
    (s.oldestFirst (s.unprotected .ready c)).Pairwise (fun x y => ¬ s.Ahead y x) := by
  refine (s.oldestFirst_sorted _).imp_of_mem fun {x y} hx hy h => State.not_ahead_of_age ?_ h
  rw [(s.oldestFirst_perm _).mem_iff, State.mem_unprotected] at hx hy
  rw [hx.2.2.1, hy.2.2.1]

/-- No slot of the order stands behind one that R27 takes after it. -/
theorem State.evictable_ordered (s : State) (dup : Option Nat) :
    (s.evictable dup).Pairwise (fun x y => ¬ s.Ahead y x) := by
  refine List.Pairwise.filter _ (List.pairwise_append.mpr
    ⟨s.oldestFirst_ordered .streamed, s.oldestFirst_ordered .retained, fun x hx y hy => ?_⟩)
  rw [(s.oldestFirst_perm _).mem_iff, State.mem_unprotected] at hx hy
  exact State.not_ahead_of_cls hy.2.2.1 hx.2.2.1

/-- An opening that leaves a READY slot leaves those behind it (R27). -/
theorem State.TakesVictims.ordered {s t : State} {k : PageKey} {a b : Nat} (h : s.TakesVictims t k)
    (ha : a ∈ s.evictable (s.slotOfKey k)) (hb : (s.slot b).state = .ready) (hab : s.Ahead a b)
    (hk : s.slotOfKey k ≠ some b) (hkept : t.slot a = s.slot a) : t.slot b = s.slot b := by
  obtain ⟨victims, ⟨later, hl⟩, hgone, hstays⟩ := h
  refine hstays b hk (by rw [hb]; decide) fun hv => ?_
  have horder := s.evictable_ordered (s.slotOfKey k)
  rw [← hl] at ha horder
  rcases List.mem_append.mp ha with hav | hal
  · have hready := (State.mem_evictable.mp (hl ▸ ha)).2.1
    exact hgone a hav (hkept ▸ hready)
  · exact (List.pairwise_append.mp horder).2.2 b hv a hal hab

/-- The first slot of R27's order. -/
theorem State.evictable_first {s : State} {v : Nat} (hv : v < s.slots.slots.length) (hready : (s.slot v).state = .ready)
    (hshown : s.panel.shown ≠ some v) (htarget : s.panel.target ≠ some v)
    (h : ((s.slot v).cls = some .streamed ∧ s.OldestOf .ready .streamed v)
      ∨ ((s.slot v).cls = some .retained ∧ s.AllHeld .ready .streamed ∧ s.OldestOf .ready .retained v)) :
    ∃ rest, s.evictable none = v :: rest := by
  have hall : s.evictable none
      = s.oldestFirst (s.unprotected .ready .streamed) ++ s.oldestFirst (s.unprotected .ready .retained) :=
    List.filter_eq_self.mpr (by simp)
  rcases h with ⟨hc, holdest⟩ | ⟨hc, hnone, holdest⟩
  · obtain ⟨rest, hrest⟩ :=
      State.unprotected_first (State.mem_unprotected.mpr ⟨hv, hready, hc, hshown, htarget⟩) holdest
    exact ⟨rest ++ s.oldestFirst (s.unprotected .ready .retained), by rw [hall, hrest, List.cons_append]⟩
  · obtain ⟨rest, hrest⟩ :=
      State.unprotected_first (State.mem_unprotected.mpr ⟨hv, hready, hc, hshown, htarget⟩) holdest
    exact ⟨rest, by rw [hall, hrest, State.unprotected_none hnone]; rfl⟩

/-- The plan that takes one victim (R27, R28). -/
theorem State.planOpen_evicts {s : State} {k : PageKey} {c : Cls} {n v r : Nat} {rest : List Nat}
    (hk : s.slotOfKey k = none) (hc : c = .pinned → s.pinned < 8) (hfirst : s.evictable none = v :: rest)
    (hwant : (∀ m < s.slots.slots.length, (s.slot m).state ≠ .empty) ∨ s.pool.free.length < n)
    (hn : n ≤ s.pool.free.length + (s.heldBy [v]).length)
    (hr : (r = v ∧ ∀ m < s.slots.slots.length, (s.slot m).state ≠ .empty) ∨ s.FreeRecord r) :
    s.planOpen k c n = .ok ⟨none, [v], r⟩ := by
  have hshort : s.recordsFor none = 0 ∨ s.extentsFor none < n :=
    hwant.imp (fun h => congrArg List.length (State.emptyRecords_of_none h)) id
  have henough : n ≤ s.extentsFor none + (s.slot v).extents.length :=
    hn.trans (Nat.add_le_add_left (s.heldBy_length_le v) _)
  have hrecord : s.recordFor none [v] = some r := by
    rcases hr with ⟨rfl, hnone⟩ | hr
    · rw [State.recordFor, State.emptyRecords_of_none hnone]
      rfl
    · exact State.recordFor_freeRecord [v] hr
  have hplan := State.planOpen_plan (s := s) (k := k) (c := c) (n := n) (r := r) (victims := [v])
  rw [hk] at hplan
  exact hplan rfl (s.pinExcess_room hc) (hfirst ▸ s.takeVictims_one rest hshort henough) hrecord

/-- A refill want comes before what does not touch it as well as after (R67). -/
theorem State.refillFor_then {s : State} (f : State → State) (b : Nat) (h : s.NoWake .refillWanted)
    (hf : (f s).NoWake .refillWanted) (hcomm : f s.refilled = (f s).refilled) :
    f (s.refillFor (some b)) = if s.panel.shownKey.map PageKey.book = some b then (f s).refill else f s := by
  rw [State.refillFor_quiet _ h]
  by_cases hb : s.panel.shownKey.map PageKey.book = some b
  · rw [if_pos ⟨rfl, hb.symm⟩, if_pos hb, State.refill_quiet hf, hcomm]
  · rw [if_neg (fun h => hb h.2.symm), if_neg hb]

/-! ### A reclaim for a block (R42, R155, R156, R158) -/

/-- A PUT_BLOCK that its checks accept (R158). -/
theorem exec_putBlock {s : State} {x : PutBlockArgs} {st : Stream} (h : s.Ready .r) (halarm : s.head.alarm = none)
    (hid : x.stream = 1 ∨ x.stream = 2) (h1 : 1 ≤ x.payload.length) (h2 : x.payload.length ≤ 4096)
    (hst : s.staging.stream x.stream = some st) (hopen : st.state = .open) :
    exec (.putBlock (freshFrame .r) (.fields x)) s = .next ((s.workingOn .r).putBlock .r st x) := by
  have hserve : exec (.putBlock (freshFrame .r) (.fields x)) s = .next ((s.workingOn .r).servePutBlock .r x) :=
    congrArg _ (State.frame_serve h (by simp) rfl)
  have hrange : streamInRange x.stream = true := by rcases hid with hid | hid <;> rw [hid] <;> rfl
  have hstream : (s.workingOn .r).staging.stream x.stream = some st := hst
  have halarmed : (s.workingOn .r).alarmed = false := congrArg Option.isSome halarm
  rw [hserve]
  simp only [State.servePutBlock, hrange, (payloadInRange_iff _).mpr ⟨h1, h2⟩, halarmed, hstream, hopen, Bool.not_true,
    Bool.or_false, Bool.false_eq_true, if_false, if_true]

/-- R158's tests pass. -/
theorem Stream.judgeBlock_none {st : Stream} {x : PutBlockArgs} (hx : st.exhausted = false) (hs : x.sequence = st.next)
    (hf : x.first = true ↔ x.sequence = 0) (ht : ∀ n, st.total = some n →
      st.accepted + x.payload.length ≤ n ∧ (x.last = true → st.accepted + x.payload.length = n)) :
    st.judgeBlock x = none := by
  have htotal : st.totalRefuses x.payload.length x.last = false := by
    unfold Stream.totalRefuses
    cases hn : st.total with
    | none => rfl
    | some n =>
      obtain ⟨hle, hlast⟩ := ht n hn
      cases hl : x.last with
      | false => simpa using hle
      | true => simp [hlast hl]
  have hfirst : x.first = decide (st.next = 0) := hs ▸ Bool.eq_iff_iff.mpr (hf.trans decide_eq_true_iff.symm)
  simp only [Stream.judgeBlock, hx, htotal, hfirst, hs, lt_irrefl, ne_eq, not_true_eq_false, Bool.false_eq_true,
    or_self, if_false]

/-- An empty free list and a ring below its floor leave a block only the reclaim (R156). -/
theorem State.makeRoom_reclaims {s : State} {len : Nat} (hroom : s.staging.room < len) (hfree : s.pool.free = [])
    (hring : s.staging.ring.length < s.params.stagingFloor) : s.makeRoom len = s.reclaim.bind (fun t =>
      t.growRing.map (fun u =>
        u.refillFor ((s.reclaimable.head?.bind (fun n => (s.slot n).key)).map PageKey.book))) := by
  rw [State.makeRoom, if_neg (not_le.mpr hroom), State.obtainExtent, if_neg (fun h => h.2 hfree), if_pos ⟨hfree, hring⟩]
  cases s.reclaim <;> rfl

/-- Without a slot to reclaim there is no room (R42, R156). -/
theorem State.makeRoom_full {s : State} {len : Nat} (hroom : s.staging.room < len) (hfree : s.pool.free = [])
    (hring : s.staging.ring.length < s.params.stagingFloor) (h : s.reclaimable = []) : s.makeRoom len = none := by
  rw [State.makeRoom_reclaims hroom hfree hring, State.reclaim, h]
  rfl

/-- The ring with one more extent, the first that a reclaimed slot gave back (R3, R156). -/
def State.grown (s : State) (e : Nat) (rest : List Nat) : State :=
  { s with
    pool := { s.pool with free := rest, owners := s.pool.owners.set e .staging }
    staging := { s.staging with ring := s.staging.ring ++ [e] } }

theorem State.growRing_grown {s : State} {e : Nat} {rest : List Nat} (h : s.pool.free = e :: rest) :
    s.growRing = some (s.grown e rest) := by
  unfold State.growRing Pool.allocate
  rw [h]
  rfl

/-- A slot reclaimed, the first of its extents in the ring and the others free (R42, R156). -/
def State.reclaimedFor (s : State) (v e : Nat) (rest : List Nat) : State :=
  (s.emptySlot v (decide ((s.slot v).state = .filling))).grown e rest

/-- The first slot to reclaim gives its extents up, the first of them to the ring (R42, R156). -/
theorem State.makeRoom_takes {s : State} {len v e : Nat} {vs rest : List Nat} (hroom : s.staging.room < len)
    (hfree : s.pool.free = []) (hring : s.staging.ring.length < s.params.stagingFloor)
    (hv : s.reclaimable = v :: vs) (he : s.heldBy [v] = e :: rest) :
    s.makeRoom len = some ((s.reclaimedFor v e rest).refillFor ((s.slot v).key.map PageKey.book)) := by
  have hheld : (s.emptySlot v (decide ((s.slot v).state = .filling))).pool.free = e :: rest := by
    rw [(s.released_one v _).1, hfree, he]
    rfl
  rw [State.makeRoom_reclaims hroom hfree hring, State.reclaim, hv]
  dsimp only [Option.bind_some, List.head?_cons]
  rw [State.growRing_grown hheld]
  rfl

/-- The first slot of a reclaim's order (R42). -/
theorem State.reclaimable_first {s : State} {v : Nat} (hv : v < s.slots.slots.length)
    (hc : (s.slot v).cls = some .streamed) (hshown : s.panel.shown ≠ some v) (htarget : s.panel.target ≠ some v)
    (h : ((s.slot v).state = .ready ∧ s.OldestOf .ready .streamed v)
      ∨ ((s.slot v).state = .filling ∧ s.AllHeld .ready .streamed ∧ s.OldestOf .filling .streamed v)) :
    ∃ rest, s.reclaimable = v :: rest := by
  rcases h with ⟨hs, holdest⟩ | ⟨hs, hnone, holdest⟩
  · obtain ⟨rest, hrest⟩ :=
      State.unprotected_first (State.mem_unprotected.mpr ⟨hv, hs, hc, hshown, htarget⟩) holdest
    exact ⟨rest ++ s.oldestFirst (s.unprotected .filling .streamed), by rw [State.reclaimable, hrest, List.cons_append]⟩
  · obtain ⟨rest, hrest⟩ :=
      State.unprotected_first (State.mem_unprotected.mpr ⟨hv, hs, hc, hshown, htarget⟩) holdest
    exact ⟨rest, by rw [State.reclaimable, hrest, State.unprotected_none hnone]; rfl⟩

/-- A block that the room at the write position does not hold. -/
theorem Staging.room_lt {g : Staging} {len : Nat} (h1 : 1 ≤ len)
    (hw : g.write = none ∨ ∃ w, g.write = some w ∧ 16384 < w.offset + len) : g.room < len := by
  unfold Staging.room
  rcases hw with hw | ⟨w, hw, hlen⟩
  · rw [hw]
    exact h1
  · rw [hw]
    dsimp only
    split
    · exact h1
    · show 16384 - w.offset < len
      omega

/-- The place of a block, the write position behind it and the extents of its bytes (R155). -/
structure Staging.Places (g : Staging) (b : Block) (pl past : RingPos) (es : List Nat) : Prop where
  at_ : g.placeAt = pl
  past : g.past pl b.length = past
  extents : g.extentsOf { b with pos := pl } = es

/-- A block in the extent that joined the ring, or across from the tail before it (R155). -/
theorem Staging.places_grown {g : Staging} {b : Block} {e : Nat} {pl past : RingPos} {es : List Nat}
    (hlen : b.length ≤ 4096) (hw : g.write = none ∨ ∃ w, g.write = some w ∧ 16384 < w.offset + b.length)
    (h : ((g.write = none ∨ ∃ w, g.write = some w ∧ w.offset = 16384) ∧ pl = ⟨e, 0⟩ ∧ past = ⟨e, b.length⟩ ∧ es = [e])
      ∨ ∃ w pre, g.write = some w ∧ w.offset < 16384 ∧ g.ring = pre ++ [w.extent] ∧ w.extent ∉ pre ∧ pl = w
        ∧ past = ⟨e, w.offset + b.length - 16384⟩ ∧ es = [w.extent, e]) :
    Staging.Places { g with ring := g.ring ++ [e] } b pl past es := by
  rcases h with ⟨hw, rfl, rfl, rfl⟩ | ⟨w, pre, hwrite, hoff, hring, hpre, rfl, rfl, rfl⟩
  · refine ⟨?_, ?_, ?_⟩
    · unfold Staging.placeAt
      rcases hw with hw | ⟨w, hw, hoff⟩
      · simp [hw]
      · simp [hw, hoff, Config.extentBytes]
    · simp [Staging.past, Config.extentBytes]
      omega
    · simp [Staging.extentsOf, Config.extentBytes]
      omega
  · have hcross : 16384 < pl.offset + b.length := by
      rcases hw with hw | ⟨w, hw, hlt⟩
      · rw [hw] at hwrite
        cases hwrite
      · rw [hw] at hwrite
        cases hwrite
        exact hlt
    refine ⟨?_, ?_, ?_⟩
    · simp [Staging.placeAt, hwrite, hoff, Config.extentBytes]
    · simp [Staging.past, Config.extentBytes, hcross]
    · rw [Staging.extentsOf, if_neg (by exact not_le.mpr hcross)]
      simp only [Staging.nextExtent, hring, List.append_assoc]
      rw [List.dropWhile_append_of_pos (by simpa using fun x hx => ne_of_mem_of_not_mem hx hpre)]
      simp

/-- A block placed at a known place (R155, R159). -/
theorem State.placeBlock_at {s : State} {b : Block} {pl past : RingPos} {es : List Nat} (payload : List Byte)
    (h : s.staging.Places b pl past es) : s.placeBlock b payload = { s with
      staging := { s.staging with write := some past, writing := some { b with pos := pl } }
      pool := { s.pool with
        workR := some ⟨.putBlock, .staging, es, pl.offset, pl.offset + b.length, payload, [], false⟩ } } := by
  obtain ⟨rfl, rfl, rfl⟩ := h
  rfl

/-- Settles O25: the order of the victims, the one victim of an opening, and the reclaim for a block. -/
theorem evictionFollowsItsOrder : Obligations.EvictionFollowsItsOrder := by
  refine ⟨?order, ?victim, ?reclaim⟩
  case order =>
    intro s t x y a b h hla _ hra hrb hshown htarget hab
    have hcls : (s.slot a).cls = some .streamed ∨ (s.slot a).cls = some .retained := by
      rcases hab with ⟨hc, -⟩ | ⟨hc, -⟩
      · exact .inl hc
      · exact hc
    have hmem {dup : Option Nat} (hd : dup ≠ some a) : a ∈ s.evictable dup :=
      State.mem_evictable.mpr ⟨hla, hra, hcls, hshown, htarget, hd⟩
    exact ⟨fun hka hkb ht => (exec_openSlot_takes h ht).ordered (hmem hka) hrb hab hkb,
      fun hka hkb ht => (exec_blankSlot_takes h ht).ordered (hmem hka) hrb hab hkb⟩
  case victim =>
    rintro s x v r k vk h hw h1 h2 h3 h4 h5 rfl hk hc hv hready hkey hshown htarget hfirst hwant hn hr
    have hx : openInRange x = true := (openInRange_iff x).mpr ⟨h1, h2, h3, h4, h5⟩
    have hap : s.bs.ap = .on := of_decide_eq_true h.1
    obtain ⟨rest, hvs⟩ := State.evictable_first hv hready hshown htarget hfirst
    have hlr : r < s.slots.slots.length := hr.elim (fun h => h.1 ▸ hv) (fun h => h.1)
    have hexec := exec_openSlot_opens h hw hx (State.planOpen_evicts hk hc hvs hwant hn hr) hlr
      ((s.emptySlot_free v false).symm ▸ hn)
    have hopened : s.opened ⟨none, [v], r⟩ (extentsNeeded x.length) (openedSlot x)
        = ((s.emptySlot v false).pageEntered r (extentsNeeded x.length) (openedSlot x)).refillFor (some vk.book) := by
      show State.refillFor _ ((s.slot v).key.map PageKey.book) = _
      rw [hkey]
      rfl
    rw [hopened] at hexec
    refine ⟨s.emptySlot v false, _, s.released_one v false, rfl, ?frame, ?owners, hexec.trans (congrArg _
      (State.refillFor_then (fun t => t.replied .a _) vk.book (.inl hap) (.inl hap) rfl))⟩
    case frame => rfl
    case owners => exact (s.emptySlot v false).pageEntered_owners r _ (openedSlot x)
  case reclaim =>
    intro s x st h hwake halarm hw hid h1 h2 hst hopen hex hseq hfst htotal hfree hring hwrite
    have hjudge : st.judgeBlock x = none := Stream.judgeBlock_none hex hseq hfst htotal
    have hroom : (s.workingOn .r).staging.room < x.payload.length := Staging.room_lt h1 hwrite
    have hreclaimable : (s.workingOn .r).reclaimable = s.reclaimable := State.reclaimable_congr rfl rfl rfl
    have hexec := exec_putBlock h halarm hid h1 h2 hst hopen
    refine ⟨fun hnone => ?full, ?takes⟩
    case full =>
      have hnothing : s.reclaimable = [] := by
        rw [State.reclaimable, State.unprotected_none fun m hm hs hc => hnone m hm hc (.inl hs),
          State.unprotected_none fun m hm hs hc => hnone m hm hc (.inr hs)]
        rfl
      rw [hexec, State.putBlock, hjudge]
      dsimp only
      rw [State.makeRoom_full hroom hfree hring (hreclaimable.trans hnothing)]
      exact congrArg _ (State.say_workingOn _ h)
    case takes =>
      intro v e rest vk pl past es hv hkey hcls hshown htarget hfirst hheld hplace
      obtain ⟨vs, hvs⟩ := State.reclaimable_first hv hcls hshown htarget hfirst
      have hplaces := Staging.places_grown (g := s.staging) (b := blockOf x) h2 hwrite hplace
      have hmake := State.makeRoom_takes hroom hfree hring (hreclaimable.trans hvs) (by exact hheld)
      rw [State.workingOn_slot, hkey] at hmake
      have hunwatched : (((s.workingOn .r).reclaimedFor v e rest).refillFor (some vk.book)).staging.watch = none := by
        rw [State.staging_of_still (State.refillFor_still _ _)]
        exact hw
      rw [State.putBlock, hjudge] at hexec
      dsimp only at hexec
      rw [hmake] at hexec
      refine ⟨s.emptySlot v (decide ((s.slot v).state = .filling)), _, s.released_one v _, rfl,
        State.placeBlock_at (s := (s.workingOn .r).reclaimedFor v e rest) x.payload hplaces,
        hexec.trans (congrArg _ ((State.evalWatch_none (by exact hunwatched)).trans
          (State.refillFor_then (fun t => t.placeBlock (blockOf x) x.payload) vk.book hwake hwake rfl)))⟩

end Sys2Proof.Machine


namespace Sys2Proof.Machine

/-! ### Keeping the laws of the turn queue and of the counts (R51, R77, R167) -/

/-- `t` meets the law of the turn queue if `s` does, and so for the raise counts and for the ghost count. -/
def State.Keeps (s t : State) : Prop :=
  (s.QueueLaw → t.QueueLaw) ∧ (s.CountLaw → t.CountLaw) ∧ (s.GhostLaw → t.GhostLaw)

theorem State.Keeps.refl (s : State) : s.Keeps s := ⟨id, id, id⟩

/-- A state with the queue, the notices and the ghost count of one that keeps the laws keeps them. -/
theorem State.Keeps.congr {r s t : State} (h : r.Keeps s) (hq : t.turn.queue = s.turn.queue)
    (hn : t.notices.ap = s.notices.ap) (hg : t.panel.ghost = s.panel.ghost) : r.Keeps t := by
  unfold State.Keeps State.QueueLaw State.CountLaw State.GhostLaw
  rw [hq, hn, hg]
  exact h

/-- A queue no longer than the one before it, or of at most 8 entries. -/
theorem State.Keeps.withQueue {r s : State} (h : r.Keeps s) {t : TurnEngine}
    (hq : t.queue.length ≤ s.turn.queue.length ∨ t.queue.length ≤ 8) : r.Keeps { s with turn := t } := by
  obtain ⟨h1, h2, h3⟩ := h
  refine ⟨fun hr => ?_, h2, h3⟩
  have hs : s.turn.queue.length ≤ 8 := h1 hr
  show t.queue.length ≤ 8
  omega

/-- A panel record whose ghost count is the one before it, or at most 255. -/
theorem State.Keeps.withPanel {r s : State} (h : r.Keeps s) {p : PanelDrive}
    (hg : p.ghost = s.panel.ghost ∨ p.ghost ≤ 255) : r.Keeps { s with panel := p } := by
  obtain ⟨h1, h2, h3⟩ := h
  refine ⟨h1, h2, fun hr => ?_⟩
  have hs : s.panel.ghost ≤ 255 := h3 hr
  show p.ghost ≤ 255
  omega

/-! ### Notices -/

/-- A source changed without raising its count past 255. -/
theorem State.Keeps.mapNotice {r s : State} (h : r.Keeps s) (k : Nat) {f : Notice → Notice}
    (hf : ∀ n, n.count ≤ 255 → (f n).count ≤ 255) : r.Keeps (s.mapNotice k f) := by
  obtain ⟨h1, h2, h3⟩ := h
  refine ⟨h1, fun hr n hn => ?_, h3⟩
  obtain ⟨i, hi, rfl⟩ := List.getElem_of_mem hn
  simp only [State.mapNotice, List.length_modify] at hi
  have hc : (s.notices.ap[i]).count ≤ 255 := h2 hr _ (List.getElem_mem hi)
  simp only [State.mapNotice, List.getElem_modify]
  split
  · exact hf _ hc
  · exact hc

theorem Notice.raised_count (n : Notice) (d : Detail) : (n.raised d).count ≤ 255 := by
  simp only [Notice.raised]
  split <;> omega

variable {r s : State}

theorem State.Keeps.mark (h : r.Keeps s) (src : Source) (d : Detail) : r.Keeps (s.mark src d) :=
  h.mapNotice _ fun n _ => n.raised_count d

theorem State.Keeps.markOut (h : r.Keeps s) (src : Source) (d : Detail) : r.Keeps (s.markOut src d) :=
  h.mark src d

theorem State.Keeps.raiseRm (h : r.Keeps s) (src : RmSource) (d : RmDetail) : r.Keeps (s.raiseRm src d) := by
  unfold State.raiseRm
  split <;> exact h

theorem State.Keeps.evalWatch (h : r.Keeps s) : r.Keeps s.evalWatch := by
  unfold State.evalWatch
  split
  · split
    · exact State.Keeps.raiseRm (by exact h) _ _
    · exact h
  · exact h

/-! ### The light's grant, leases and the rebalance -/

theorem State.Keeps.setLight (h : r.Keeps s) (g : Nat) : r.Keeps (s.setLight g) := by
  rw [State.setLight_eq]
  exact h

theorem State.Keeps.lightBeside (h : r.Keeps s) (n : Nat) : r.Keeps (s.lightBeside n) := h.setLight _

theorem State.Keeps.revokeActive (h : r.Keeps s) (w : RevokeReason) : r.Keeps (s.revokeActive w) := by
  unfold State.revokeActive
  split
  · exact State.Keeps.raiseRm (by exact h) _ _
  · exact h

theorem State.Keeps.grantLease (h : r.Keeps s) (m d : Nat) (o : LeaseOrigin) : r.Keeps (s.grantLease m d o) :=
  State.Keeps.lightBeside (by exact h) _

theorem State.Keeps.grantAp (h : r.Keeps s) : r.Keeps s.grantAp := State.Keeps.lightBeside (by exact h) _

theorem State.Keeps.judgeAp (h : r.Keeps s) : r.Keeps s.judgeAp := by
  unfold State.judgeAp
  dsimp only
  split
  · exact h.grantAp
  · split
    · exact (h.revokeActive _).grantAp
    · exact State.Keeps.markOut (h.revokeActive .ap) _ _

theorem State.Keeps.panelGranted (h : r.Keeps s) : r.Keeps s.panelGranted := by
  unfold State.panelGranted
  (repeat' split) <;> exact h

theorem State.Keeps.grantPanel (h : r.Keeps s) (d : Nat) : r.Keeps (s.grantPanel d) :=
  (State.Keeps.lightBeside (by exact h) _).panelGranted

theorem State.Keeps.rebalanceAp (h : r.Keeps s) : r.Keeps s.rebalanceAp := by
  unfold State.rebalanceAp
  split
  · split
    · exact h.grantAp
    · exact h
  · exact h.judgeAp
  · exact h

theorem State.Keeps.rebalancePanel (h : r.Keeps s) : r.Keeps s.rebalancePanel := by
  unfold State.rebalancePanel
  dsimp only
  split
  · split
    · split
      · exact (h.grantPanel _).rebalanceAp
      · exact h.grantPanel _
    · exact h
  · exact h

theorem State.Keeps.rebalanceLease (h : r.Keeps s) : r.Keeps s.rebalanceLease := by
  unfold State.rebalanceLease
  split
  · split
    · exact (State.Keeps.grantLease (by exact h) _ _ _).raiseRm _ _
    · exact h
  · exact h

theorem State.Keeps.rebalance (h : r.Keeps s) : r.Keeps s.rebalance := by
  unfold State.rebalance
  split
  · exact h.setLight 0
  · exact (h.rebalanceAp.rebalancePanel.rebalanceLease).lightBeside _

/-! ### Wakes and raises -/

theorem State.Keeps.requestAp (h : r.Keeps s) : r.Keeps s.requestAp := by
  unfold State.requestAp
  dsimp only
  split
  · exact h
  · split
    · exact State.Keeps.rebalance (State.Keeps.judgeAp (by exact h))
    · exact State.Keeps.judgeAp (by exact h)

/-- An entry placed at the head of the queue displaces the tail of a full one (R52). -/
theorem State.Keeps.placeHead (h : r.Keeps s) (e : Entry) {note : State → Source → Detail → State}
    (hn : ∀ {t}, r.Keeps t → ∀ src d, r.Keeps (note t src d)) : r.Keeps (s.placeHead note e) := by
  unfold State.placeHead
  split
  · next hq =>
    split
    · next x hx =>
      refine hn (h.withQueue (.inl ?_)) _ _
      have : 8 ≤ s.turn.queue.length := hq
      simp only [List.length_cons, List.length_dropLast]
      omega
    · exact h.withQueue (.inr (Nat.le_of_ble_eq_true rfl))
  · next hq =>
    have : ¬ 8 ≤ s.turn.queue.length := hq
    exact h.withQueue (.inr (by simp only [List.length_cons]; omega))

theorem State.Keeps.leaveDeep (h : r.Keeps s) : r.Keeps s.leaveDeep := by
  unfold State.leaveDeep
  dsimp only
  split
  · exact State.Keeps.placeHead (s := { s with pool := _ }.startPeriods) h _ State.Keeps.markOut
  · exact h

theorem State.Keeps.serveWake (h : r.Keeps s) : r.Keeps s.serveWake := by
  unfold State.serveWake
  split
  · exact h
  · split
    · exact h
    · exact h
    · exact h
    · exact h
    · split
      · exact h.requestAp
      · exact h
    · exact h.leaveDeep.requestAp

theorem State.Keeps.presentWake (h : r.Keeps s) (b : Bool) : r.Keeps (State.presentWake b s) := by
  unfold State.presentWake
  split
  · exact State.Keeps.serveWake (by exact h)
  · exact h

theorem State.Keeps.raise (h : r.Keeps s) (src : Source) (d : Detail) : r.Keeps (s.raise src d) :=
  (h.mark src d).presentWake _

/-! ### The light unit, and the ways to DEPLETED -/

theorem State.Keeps.computeLight (h : r.Keeps s) : r.Keeps s.computeLight := by
  have hf : ∀ {t : State} (g : Nat), r.Keeps t → r.Keeps (t.followGrant g) := fun g ht => by
    unfold State.followGrant
    split <;> exact ht
  unfold State.computeLight
  dsimp only
  split
  · refine hf _ ?_
    split
    · exact State.Keeps.rebalance (by exact h)
    · exact State.Keeps.lightBeside (by exact h) _
  · exact h

theorem State.Keeps.lightKey (h : r.Keeps s) : r.Keeps s.lightKey := by
  unfold State.lightKey
  (repeat' split) <;> exact h

theorem State.Keeps.lightAlarmCleared (h : r.Keeps s) : r.Keeps s.lightAlarmCleared := by
  unfold State.lightAlarmCleared
  dsimp only
  split <;> exact h

/-- DEPLETED has an empty queue, nothing pending and a ghost count of 0 (R149). -/
theorem State.keeps_enterDepleted (r s : State) : r.Keeps s.enterDepleted := by
  refine ⟨fun _ => Nat.zero_le 8, fun _ n hn => ?_, fun _ => Nat.zero_le 255⟩
  obtain ⟨m, -, rfl⟩ := List.mem_map.mp hn
  exact Nat.zero_le 255

theorem State.Keeps.startFade (h : r.Keeps s) : r.Keeps s.startFade := by
  unfold State.startFade
  extract_lets t
  split
  · exact State.Keeps.raiseRm (by exact h) _ _
  · exact h

theorem State.Keeps.endImage (h : r.Keeps s) (p : Option Purpose) : r.Keeps (s.endImage p) := by
  unfold State.endImage State.sleepEntryEnd
  split
  · split
    · split
      · exact h.startFade
      · exact h
    · split
      · exact State.keeps_enterDepleted r s
      · exact h
    · exact h
  · exact h

/-! ### The turn engine -/

/-- An arrival joins the tail of a queue with room (R51). -/
theorem State.Keeps.arrive (h : r.Keeps s) (e : Entry) : r.Keeps (s.arrive e).1 := by
  unfold State.arrive
  split
  · exact h.raise _ _
  · next hq =>
    have : ¬ 8 ≤ s.turn.queue.length := hq
    split
    · exact h
    · exact h.withQueue (.inr (by simp only [List.length_append, List.length_singleton]; omega))

theorem State.Keeps.refill (h : r.Keeps s) : r.Keeps s.refill := by
  unfold State.refill
  dsimp only
  split
  · split
    · exact h
    · exact State.Keeps.raise (by exact h) _ _
  · exact h

theorem State.Keeps.abandon (h : r.Keeps s) (k : Option PageKey) (w : Abandon) : r.Keeps (s.abandon k w) := h.raise _ _

theorem State.Keeps.putBack (h : r.Keeps s) (k : PageKey) (m : TurnMode) (o : Origin) (p : Option Purpose) :
    r.Keeps (s.putBack k m o p) := h.placeHead _ State.Keeps.raise

theorem State.Keeps.turnEnded (h : r.Keeps s) (e : EndReport) : r.Keeps (s.turnEnded e) := by
  unfold State.turnEnded
  split
  · cases e <;> dsimp only
    case held => exact State.Keeps.putBack (by exact h) _ _ _ _
    case abandoned =>
      split
      · exact State.Keeps.endImage (by exact h) _
      · exact State.Keeps.abandon (by exact h) _ _
    all_goals
      split
      · exact State.Keeps.endImage (by exact h) _
      · exact State.Keeps.refill (by exact h)
  · exact h

theorem State.Keeps.beginTurn (h : r.Keeps s) (k : PageKey) (m : TurnMode) (o : Origin) (p : Option Purpose) (n : Nat) :
    r.Keeps (s.beginTurn k m o p n) := by
  unfold State.beginTurn
  dsimp only
  split
  · exact State.Keeps.abandon (by exact h) _ _
  · split
    · split
      · exact State.Keeps.endImage (by exact h) _
      · exact State.Keeps.abandon (by exact h) _ _
    · exact h

theorem State.Keeps.lookUp (h : r.Keeps s) (k : PageKey) (m : TurnMode) (o : Origin) (p : Option Purpose) :
    r.Keeps (s.lookUp k m o p) := by
  unfold State.lookUp
  split
  · split
    · exact h.beginTurn _ _ _ _ _
    · split
      · exact h.endImage _
      · exact h
  · split
    · exact h.endImage _
    · exact State.Keeps.raise (by exact h) _ _

theorem State.Keeps.takeRun (h : r.Keeps s) (run : List Entry) : r.Keeps (s.takeRun run) := by
  unfold State.takeRun
  dsimp only
  split
  · exact h.abandon _ _
  · split
    · exact h
    · split
      · exact h
      · split
        · exact h.raise _ _
        · split
          · exact h
          · exact h.lookUp _ _ _ _

theorem State.Keeps.takeGoto (h : r.Keeps s) (e : Entry) (k : PageKey) : r.Keeps (s.takeGoto e k) := by
  unfold State.takeGoto
  split
  · exact h.abandon _ _
  · split
    · split
      · exact h.endImage _
      · exact h
    · exact h.lookUp _ _ _ _

/-- What the engine takes leaves the queue (R54). -/
theorem State.Keeps.takeHead (h : r.Keeps s) : r.Keeps s.takeHead := by
  unfold State.takeHead
  split
  · exact h
  · next e es hq =>
    split
    · exact State.Keeps.takeGoto (h.withQueue (.inl (by rw [hq]; exact Nat.le_succ _))) _ _
    · exact State.Keeps.takeRun (h.withQueue (.inl (List.dropWhile_suffix _).length_le)) _

theorem State.Keeps.slotReady (h : r.Keeps s) (n : Nat) (k : PageKey) : r.Keeps (s.slotReady n k) := by
  unfold State.slotReady
  split
  · split
    · exact State.Keeps.beginTurn (by exact h) _ _ _ _ _
    · exact h
  · exact h

theorem State.Keeps.turnAlarm (h : r.Keeps s) : r.Keeps s.turnAlarm := by
  unfold State.turnAlarm
  dsimp only
  split
  · exact h
  · split
    · exact State.Keeps.putBack (by exact h) _ _ _ _
    · exact h
  · exact h

theorem State.Keeps.placeImage (h : r.Keeps s) (p : Purpose) (k : PageKey) (w : Abandon) :
    r.Keeps (s.placeImage p k w) := by
  unfold State.placeImage
  dsimp only
  refine State.Keeps.placeHead ?_ _ State.Keeps.raise
  split
  · split
    · exact State.Keeps.abandon (by exact h) _ _
    · exact h
  · exact h

/-! ### The panel drive -/

theorem State.Keeps.presentHot (h : r.Keeps s) : r.Keeps s.presentHot := State.Keeps.rebalance (by exact h)

theorem State.Keeps.railsHot (h : r.Keeps s) : r.Keeps s.railsHot := State.Keeps.presentHot (by exact h)

theorem State.Keeps.railsFall (h : r.Keeps s) : r.Keeps s.railsFall := State.Keeps.presentHot (by exact h)

theorem State.Keeps.startHold (h : r.Keeps s) : r.Keeps s.startHold := by
  unfold State.startHold
  split
  · exact h.railsFall
  · exact h

theorem State.Keeps.holdIfHot (h : r.Keeps s) : r.Keeps s.holdIfHot := by
  unfold State.holdIfHot
  split
  · exact h.startHold
  · exact h

theorem State.Keeps.presentPanel (h : r.Keeps s) (ph : Phase) (d : Nat) : r.Keeps (s.presentPanel ph d) := by
  unfold State.presentPanel
  dsimp only
  split
  · split
    · exact State.Keeps.rebalance (State.Keeps.grantPanel (by exact h) _)
    · exact State.Keeps.grantPanel (by exact h) _
  · exact State.Keeps.rebalance (by exact h)

theorem State.Keeps.presentUpdate (h : r.Keeps s) : r.Keeps s.presentUpdate := by
  unfold State.presentUpdate
  split
  · exact h.presentPanel _ _
  · exact h

theorem State.Keeps.updateDone (h : r.Keeps s) (m : UpdMode) : r.Keeps (s.updateDone m) := by
  unfold State.updateDone
  split
  · exact h.raise _ _
  · exact h

/-- The target shown with a ghost count as before or of at most 255 (R77). -/
theorem State.Keeps.showTarget (h : r.Keeps s) (n : Nat) (f : Fidelity) {g : Nat}
    (hg : g = s.panel.ghost ∨ g ≤ 255) : r.Keeps (s.showTarget n f g) :=
  h.withPanel (p := { s.panel with ghost := g }) hg

/-- A completed update leaves a ghost count of at most 255 (R89). -/
theorem ghostAfter_le (m : UpdMode) (g : Nat) : ghostAfter m g ≤ 255 := by
  unfold ghostAfter
  split <;> omega

theorem State.Keeps.completeUpdate (h : r.Keeps s) (u : Update) : r.Keeps (s.completeUpdate u) :=
  ((((h.showTarget _ _ (.inr (ghostAfter_le _ _))).updateDone _).railsHot).startHold).turnEnded _

theorem State.Keeps.silentSwap (h : r.Keeps s) (u : Update) : r.Keeps (s.silentSwap u) :=
  (((h.showTarget _ _ (.inl rfl)).updateDone _).holdIfHot).turnEnded _

theorem State.Keeps.abortUpdate (h : r.Keeps s) (u : Update) : r.Keeps (s.abortUpdate u) :=
  ((h.showTarget _ _ (.inl rfl)).railsFall).turnEnded _

theorem State.Keeps.abandonUpdate (h : r.Keeps s) : r.Keeps s.abandonUpdate :=
  (State.Keeps.holdIfHot (s := s.dropUpdate) h).turnEnded _

theorem State.Keeps.toRails (h : r.Keeps s) : r.Keeps s.toRails := by
  unfold State.toRails
  split
  · exact h.presentPanel _ _
  · exact h.presentUpdate
  · exact h
  · exact h
  · exact h

theorem State.Keeps.endPlanning (h : r.Keeps s) (u : Update) : r.Keeps (s.endPlanning u) := by
  unfold State.endPlanning
  dsimp only
  split
  · exact h.silentSwap u
  · split
    · exact State.Keeps.toRails (by exact h)
    · exact State.Keeps.abandonUpdate (by exact h)

theorem State.Keeps.ghostLimitSet (h : r.Keeps s) : r.Keeps s.ghostLimitSet := by
  unfold State.ghostLimitSet
  (repeat' split) <;> exact h

theorem State.Keeps.dropRails (h : r.Keeps s) : r.Keeps s.dropRails := by
  unfold State.dropRails
  split
  · exact h.railsFall
  · exact h.railsFall
  · exact h

theorem State.Keeps.panelAlarm (h : r.Keeps s) : r.Keeps s.panelAlarm := by
  unfold State.panelAlarm
  split
  · split
    · exact h
    · exact (State.Keeps.dropRails (s := s.withdrawPanel.dropUpdate) h).turnEnded _
  · exact h.dropRails

theorem State.Keeps.frameEnds (h : r.Keeps s) (u : Update) (n : Nat) : r.Keeps (s.frameEnds u n) := by
  unfold State.frameEnds
  split
  · exact h.abortUpdate u
  · split
    · exact h.completeUpdate u
    · exact h

end Sys2Proof.Machine


namespace Sys2Proof.Machine

variable {r s : State}

/-! ### The staging unit keeps the laws -/

theorem State.Keeps.refillFor (h : r.Keeps s) (b : Option Nat) : r.Keeps (s.refillFor b) := by
  unfold State.refillFor
  split
  · exact h.refill
  · exact h

theorem State.Keeps.growRing {t : State} (h : r.Keeps s) (ht : s.growRing = some t) : r.Keeps t := by
  unfold State.growRing at ht
  split at ht
  · cases ht
    exact h
  · cases ht

theorem State.Keeps.reclaim {t : State} (h : r.Keeps s) (ht : s.reclaim = some t) : r.Keeps t := by
  unfold State.reclaim at ht
  split at ht
  · cases ht
  · cases ht
    exact h

theorem State.Keeps.obtainExtent {t : State} (h : r.Keeps s) (ht : s.obtainExtent = some t) : r.Keeps t := by
  unfold State.obtainExtent at ht
  split at ht
  · exact h.growRing ht
  · split at ht
    · split at ht
      · next u hu =>
        obtain ⟨v, hv, rfl⟩ := Option.map_eq_some_iff.mp ht
        exact ((h.reclaim hu).growRing hv).refillFor _
      · cases ht
    · cases ht

theorem State.Keeps.makeRoom {t : State} {len : Nat} (h : r.Keeps s) (ht : s.makeRoom len = some t) : r.Keeps t := by
  unfold State.makeRoom at ht
  split at ht
  · cases ht
    exact h
  · exact h.obtainExtent ht

theorem State.Keeps.closeStream (h : r.Keeps s) (id : Nat) (x : Stream) (c : CloseReason) :
    r.Keeps (s.closeStream id x c) := State.Keeps.raise (by exact h) _ _

theorem State.Keeps.abortStream (h : r.Keeps s) (id : Nat) (x : Stream) : r.Keeps (s.abortStream id x) :=
  State.Keeps.raiseRm (by exact h) _ _

theorem State.Keeps.joinBlock (h : r.Keeps s) (b : Block) (x : Stream) : r.Keeps (s.joinBlock b x) := by
  have ht : ∀ {t : State} (n : Nat), r.Keeps t → r.Keeps (t.triggerTest n) := fun n hk => by
    unfold State.triggerTest
    split
    · exact hk.raise _ _
    · exact hk
  unfold State.joinBlock
  extract_lets g t u v
  have hu : r.Keeps u := by
    dsimp only [u]
    split
    · exact State.Keeps.closeStream (by exact h) _ _ _
    · exact h
  exact ht _ hu

/-! ### The domains and the sleep entries keep the laws -/

theorem State.Keeps.breakReservations (h : r.Keeps s) : r.Keeps s.breakReservations := by
  rw [s.breakReservations_spec.1.1]
  exact h

theorem State.Keeps.apPowerDown (h : r.Keeps s) : r.Keeps s.apPowerDown :=
  (State.Keeps.rebalance (by exact h.breakReservations)).presentWake _

theorem State.Keeps.resetRadioSide (h : r.Keeps s) : r.Keeps s.resetRadioSide := by
  obtain ⟨w, hw⟩ := s.dropLeases_frame
  have hd : r.Keeps s.dropLeases := by
    rw [hw]
    exact h
  exact hd

theorem State.Keeps.radioOff (h : r.Keeps s) : r.Keeps s.radioOff := by
  unfold State.radioOff
  split
  · exact State.Keeps.rebalance (by exact h.resetRadioSide)
  · exact h

theorem State.Keeps.radioOn (h : r.Keeps s) : r.Keeps s.radioOn.1 := by
  unfold State.radioOn
  split
  · exact h
  · split
    · exact h
    · split
      · exact State.Keeps.lightBeside (by exact h) _
      · exact h.raise _ _

theorem State.Keeps.enterEnteringDeep (h : r.Keeps s) : r.Keeps s.enterEnteringDeep := by
  unfold State.enterEnteringDeep
  extract_lets _ t
  have ht : r.Keeps t := h
  split
  · exact ht.placeImage _ _ _
  · exact ht.startFade

theorem State.Keeps.beginDeepEntry (h : r.Keeps s) : r.Keeps s.beginDeepEntry := by
  unfold State.beginDeepEntry
  split
  · split <;> exact h
  · exact h.enterEnteringDeep

theorem State.Keeps.stopAp (h : r.Keeps s) : r.Keeps s.stopAp := by
  unfold State.stopAp
  extract_lets _ t _ u
  have hu : r.Keeps u := State.Keeps.apPowerDown (by exact h)
  split
  · exact hu.serveWake
  · split
    · exact hu.beginDeepEntry
    · exact hu

theorem State.Keeps.powerPress (h : r.Keeps s) : r.Keeps s.powerPress := (h.raise _ _).serveWake

theorem State.Keeps.beginDepletion (h : r.Keeps s) : r.Keeps s.beginDepletion := by
  have hl : r.Keeps s.withdrawAp.leaveSleep := by
    unfold State.leaveSleep State.withdrawAp
    dsimp only
    split <;> split <;> exact h
  unfold State.beginDepletion
  extract_lets t u v _ w
  have hu : r.Keeps u := hl
  have hw : r.Keeps w := by
    refine State.Keeps.radioOff ?_
    split
    · exact hu.apPowerDown
    · exact hu
  split
  · exact State.Keeps.placeImage (by exact hw) _ _ _
  · exact State.keeps_enterDepleted r w

/-! ### The power alarm and battery samples keep the laws -/

theorem State.Keeps.alarmLeases (h : r.Keeps s) : r.Keeps s.alarmLeases := by
  unfold State.alarmLeases
  extract_lets _ t
  have ht : r.Keeps t := h
  split
  · exact State.Keeps.raiseRm (by exact ht) _ _
  · exact State.Keeps.raiseRm (by exact ht) _ _
  · exact ht.raiseRm _ _
  · exact ht

theorem State.Keeps.alarmRaise (h : r.Keeps s) (c : AlarmCause) : r.Keeps (s.alarmRaise c) :=
  ((State.Keeps.alarmLeases (by exact h)).turnAlarm.panelAlarm).raise _ _

theorem State.Keeps.alarmClear (h : r.Keeps s) : r.Keeps s.alarmClear := by
  refine (State.Keeps.lightAlarmCleared ?_).rebalance
  unfold State.turnAlarmCleared
  split <;> exact h

theorem State.Keeps.arbiterSample (h : r.Keeps s) (x : Sample) : r.Keeps (s.arbiterSample x) := by
  unfold State.arbiterSample
  extract_lets t u
  have ht : r.Keeps t := by
    dsimp only [t]
    unfold State.firstGrant
    split <;> exact h
  have hu : r.Keeps u := by
    dsimp only [u]
    unfold State.shedLease
    split
    · exact ht.revokeActive _
    · exact ht
  split
  · refine State.Keeps.rebalance ?_
    unfold State.clearTimerStep
    (repeat' split) <;> exact ht
  · split
    · exact hu.alarmRaise _
    · split
      · exact hu.alarmRaise _
      · exact hu.rebalance

theorem State.Keeps.judge (h : r.Keeps s) : r.Keeps s.judge := by
  unfold State.judge
  extract_lets b _ t
  have ht : r.Keeps t := h
  clear_value t b
  split
  · exact h
  · split
    · exact ht.raise _ _
    · exact ht.raise _ _
    · exact ht

theorem State.Keeps.sample (h : r.Keeps s) (x : Sample) : r.Keeps (s.sample x) :=
  State.Keeps.judge (by exact h.arbiterSample x)

/-- Every block at its power-on value meets the laws. -/
theorem State.keeps_start (r : State) (pins : Pins) : r.Keeps (State.start pins) :=
  ⟨fun _ => Nat.zero_le 8, fun _ => (by decide : ∀ n ∈ defaultNotices, n.count ≤ 255), fun _ => Nat.zero_le 255⟩

theorem State.keeps_coldStart (r s : State) (pins : Pins) (x : Sample) : r.Keeps (s.coldStart pins x) :=
  State.Keeps.sample (by exact State.keeps_start r pins) x

/-! ### What follows by itself keeps the laws -/

theorem State.Keeps.radioStage (h : r.Keeps s) : r.Keeps s.radioStage :=
  State.Keeps.radioOff (by exact h)

theorem State.Keeps.nextAction {t : State} (h : r.Keeps s) (ht : s.nextAction = some t) : r.Keeps t := by
  unfold State.nextAction at ht
  repeat' split at ht
  all_goals cases ht
  · exact h.takeHead
  · exact h.enterEnteringDeep
  · exact h.radioStage
  · exact h.railsFall
  · exact h
  · exact h
  · exact h.evalWatch

theorem State.Keeps.settleN (n : Nat) (h : r.Keeps s) : r.Keeps (s.settleN n) := by
  induction n generalizing s with
  | zero => exact h
  | succ n ih =>
    unfold State.settleN
    split
    · next ht => exact ih (h.nextAction ht)
    · exact h

theorem State.Keeps.settle (h : r.Keeps s) : r.Keeps s.settle := h.settleN 64

end Sys2Proof.Machine


namespace Sys2Proof.Machine

variable {r s : State}

/-! ### Answers keep the laws -/

theorem State.Keeps.setPort (h : r.Keeps s) (p : Port) (u : PortUnit) : r.Keeps (s.setPort p u) :=
  h.congr (by simp) (by simp) (by simp)

theorem State.Keeps.give (h : r.Keeps s) (p : Port) (a : Answer) : r.Keeps (s.give p a) := h.setPort p _

theorem State.Keeps.say (h : r.Keeps s) (p : Port) (c : Status) : r.Keeps (s.say p c) := h.give p _

theorem State.Keeps.tell (h : r.Keeps s) (p : Port) (b : AnswerBody) : r.Keeps (s.tell p b) := h.give p _

theorem State.Keeps.setWork (h : r.Keeps s) (p : Port) (w : Option Work) : r.Keeps (s.setWork p w) :=
  h.congr (by simp) (by simp) (by simp)

/-! ### Slots -/

/-- Emptied slots and changed records leave the queue, the notices and the panel drive alone. -/
theorem State.Keeps.slots {t : State} (h : r.Keeps s) (hc : s.SlotsChanged t) : r.Keeps t := by
  rw [hc.1]
  exact h

theorem State.Keeps.carryOut (h : r.Keeps s) (p : OpenPlan) (n : Nat) (x : Slot) : r.Keeps (s.carryOut p n x) := by
  have hfold : ∀ (l : List Nat) (t : State), r.Keeps t →
      r.Keeps (l.foldl (fun w v => w.refillFor ((s.slot v).key.map PageKey.book)) t) := by
    intro l
    induction l with
    | nil => exact fun _ ht => ht
    | cons v l ih => exact fun t ht => ih _ (ht.refillFor _)
  have ht : r.Keeps (s.clearFor p) := h.slots (s.clearFor_changed p)
  unfold State.carryOut
  refine hfold _ _ ?_
  split <;> exact ht

theorem State.Keeps.becomeReady (h : r.Keeps s) (n : Nat) : r.Keeps (s.becomeReady n) := by
  unfold State.becomeReady
  split
  · exact State.Keeps.slotReady (by exact h) _ _
  · exact h

theorem State.Keeps.scanEnds (h : r.Keeps s) (n : Nat) (f : Option ImageFault) : r.Keeps (s.scanEnds n f) := by
  unfold State.scanEnds
  dsimp only
  split
  · exact h
  · split
    · exact h.becomeReady n
    · split
      · exact State.Keeps.raise (by exact h) _ _
      · exact h

theorem State.Keeps.blankEnds (h : r.Keeps s) (p : Port) (n : Nat) : r.Keeps (s.blankEnds p n) := by
  refine State.Keeps.tell ?_ _ _
  split
  · exact h
  · exact h.becomeReady n

theorem State.Keeps.serveOpenSlot (h : r.Keeps s) (p : Port) (x : OpenSlotArgs) : r.Keeps (s.serveOpenSlot p x) := by
  unfold State.serveOpenSlot
  split
  · split
    · exact ((h.carryOut _ _ _).tell _ _).evalWatch
    · exact h.say _ _
  · exact h.say _ _

theorem State.Keeps.serveBlankSlot (h : r.Keeps s) (p : Port) (x : BlankSlotArgs) : r.Keeps (s.serveBlankSlot p x) := by
  unfold State.serveBlankSlot
  split
  · split
    · exact ((h.carryOut _ _ _).setWork _ _).evalWatch
    · exact h.say _ _
  · exact h.say _ _

theorem State.Keeps.serveWriteSlot (h : r.Keeps s) (p : Port) (x : WriteSlotArgs) : r.Keeps (s.serveWriteSlot p x) := by
  unfold State.serveWriteSlot
  dsimp only
  (repeat' split)
  · exact h.say _ _
  · exact h.say _ _
  · exact h.say _ _
  · exact h.say _ _
  · exact h.setWork _ _

theorem State.Keeps.serveCommitSlot (h : r.Keeps s) (p : Port) (x : SlotArgs) : r.Keeps (s.serveCommitSlot p x) := by
  unfold State.serveCommitSlot
  dsimp only
  (repeat' split)
  · exact h.say _ _
  · exact h.say _ _
  · exact h.say _ _
  · exact (State.Keeps.say (by exact h) _ _).evalWatch

theorem State.Keeps.serveCancelSlot (h : r.Keeps s) (p : Port) (x : SlotArgs) : r.Keeps (s.serveCancelSlot p x) := by
  unfold State.serveCancelSlot
  dsimp only
  split
  · exact h.say _ _
  · split
    · exact (State.Keeps.say (by exact h) _ _).evalWatch
    · split
      · exact State.Keeps.say (by exact h) _ _
      · exact h.say _ _
    · exact h.say _ _
    · exact h.say _ _

theorem State.Keeps.serveSetClass (h : r.Keeps s) (p : Port) (x : SetClassArgs) : r.Keeps (s.serveSetClass p x) := by
  unfold State.serveSetClass
  dsimp only
  (repeat' split)
  · exact h.say _ _
  · exact h.say _ _
  · exact h.say _ _
  · exact (State.Keeps.say (by exact h) _ _).evalWatch
  · exact (State.Keeps.say (by exact h) _ _).evalWatch

theorem State.Keeps.serveDesignate (h : r.Keeps s) (p : Port) (x : DesignateArgs) : r.Keeps (s.serveDesignate p x) := by
  unfold State.serveDesignate
  (repeat' split)
  · exact State.Keeps.say (by exact h) _ _
  · exact h.say _ _
  · exact State.Keeps.say (by exact h) _ _
  · exact h.say _ _

theorem State.Keeps.serveForget (h : r.Keeps s) (p : Port) (x : ForgetArgs) : r.Keeps (s.serveForget p x) := by
  unfold State.serveForget
  split
  · exact ((h.slots (s.forgetSlots_spec x).1).tell _ _).evalWatch
  · exact h.say _ _

/-! ### Parameters, notices, turns and keys -/

theorem State.Keeps.serveSetParam (h : r.Keeps s) (p : Port) (x : SetParamArgs) : r.Keeps (s.serveSetParam p x) := by
  have heffect : ∀ {t : State} (old : Params) (n v : Nat) (b : Bool), r.Keeps t → r.Keeps (t.paramEffect old n v b) := by
    intro t old n v b ht
    unfold State.paramEffect
    split
    · exact ht.ghostLimitSet
    · split
      · exact ht
      · exact ht.computeLight
    · split
      · exact ht
      · exact ht.computeLight
    · split
      · exact ht
      · exact ht.computeLight
    · split <;> exact ht
    · exact ht.presentWake b
    · exact ht.evalWatch
    · exact ht.evalWatch
    · exact ht
  unfold State.serveSetParam
  split
  · exact h.say _ _
  · split
    · exact h.say _ _
    · exact State.Keeps.give (heffect _ _ _ _ (by exact h)) _ _

/-- A source taken or cleared has the raise count 0 (R170, R171). -/
theorem State.Keeps.taken (h : r.Keeps s) (k : Nat) : r.Keeps (s.mapNotice k Notice.taken) :=
  h.mapNotice k fun _ _ => Nat.zero_le 255

theorem State.Keeps.serveTakeNotice (h : r.Keeps s) (p : Port) (x : TakeNoticeArgs) :
    r.Keeps (s.serveTakeNotice p x) := by
  have htake (p : Port) (k : Nat) : r.Keeps (s.takeNoticeAt p k) := (h.taken k).tell _ _
  unfold State.serveTakeNotice
  split
  · unfold State.takeAp
    split
    · split
      · exact htake _ _
      · exact h.tell _ _
    · split
      · exact h.say _ _
      · split
        · exact htake _ _
        · exact h.tell _ _
  · unfold State.takeRm
    split
    · exact State.Keeps.tell (by exact h) _ _
    · exact h.tell _ _

theorem State.Keeps.serveClearNotices (h : r.Keeps s) (p : Port) (x : ClearNoticesArgs) :
    r.Keeps (s.serveClearNotices p x) := by
  have hfold : ∀ (l : List Nat) (t : State), r.Keeps t →
      r.Keeps (l.foldl (fun t n => t.mapNotice (n - 1) Notice.taken) t) := by
    intro l
    induction l with
    | nil => exact fun _ ht => ht
    | cons n l ih => exact fun t ht => ih _ (ht.taken _)
  unfold State.serveClearNotices
  split
  · exact (hfold _ _ h).tell _ _
  · exact h.say _ _

theorem State.Keeps.serveSetNoticeLevel (h : r.Keeps s) (p : Port) (x : SetNoticeLevelArgs) :
    r.Keeps (s.serveSetNoticeLevel p x) := by
  unfold State.serveSetNoticeLevel
  split
  · exact h.say _ _
  · split
    · exact h.say _ _
    · have ht := h.mapNotice (x.source - 1) (f := fun n => { n with level := x.level, priority := x.priority }) fun _ hn => hn
      exact (ht.presentWake _).say _ _

theorem State.Keeps.serveTurn (h : r.Keeps s) (p : Port) (x : TurnArgs) : r.Keeps (s.serveTurn p x) := by
  unfold State.serveTurn
  split
  · exact ((h.arrive _).say _ _).settle
  · exact h.say _ _

theorem State.Keeps.serveSetKeyRoute (h : r.Keeps s) (p : Port) (x : SetKeyRouteArgs) :
    r.Keeps (s.serveSetKeyRoute p x) := by
  unfold State.serveSetKeyRoute
  split
  · refine State.Keeps.say ?_ _ _
    dsimp only
    split <;> exact h
  · exact h.say _ _

theorem State.Keeps.pressAction (h : r.Keeps s) (k : Key) : r.Keeps (s.pressAction k) := by
  unfold State.pressAction
  split
  · exact h.powerPress
  · split
    · exact h
    · split
      · exact State.Keeps.arrive (by exact h) _
      · exact State.Keeps.arrive (by exact h) _
      · exact h.lightKey
      · exact h.raise _ _
      · exact h
      · exact h

theorem State.Keeps.acceptEdge (h : r.Keeps s) (k : Key) : r.Keeps (s.acceptEdge k) := by
  unfold State.acceptEdge
  extract_lets t u
  have hu : r.Keeps u := by
    dsimp only [u]
    split
    · exact State.Keeps.pressAction (by exact h) k
    · exact h
  split
  · exact hu
  · unfold State.keyActivity
    split <;> exact hu

theorem State.Keeps.repeatStep (h : r.Keeps s) (k : Key) : r.Keeps (s.repeatStep k) :=
  State.Keeps.arrive (by exact h) _

/-! ### The other requests -/

theorem State.Keeps.serveWaveformWrite (h : r.Keeps s) (p : Port) (x : WaveformWriteArgs) :
    r.Keeps (s.serveWaveformWrite p x) := by
  unfold State.serveWaveformWrite
  (repeat' split)
  · exact h.say _ _
  · exact h.say _ _
  · exact State.Keeps.setWork (by exact h) _ _

theorem State.Keeps.serveWaveformCommit (h : r.Keeps s) (p : Port) : r.Keeps (s.serveWaveformCommit p) := by
  unfold State.serveWaveformCommit
  split
  · exact h.say _ _
  · exact h.setWork _ _

theorem State.Keeps.serveLightSet (h : r.Keeps s) (p : Port) (x : LightSetArgs) : r.Keeps (s.serveLightSet p x) := by
  have hw : r.Keeps (s.setWarmth x.warmth) := by
    unfold State.setWarmth
    split
    · split
      · exact h
      · exact State.Keeps.computeLight (by exact h)
    · exact h
  unfold State.serveLightSet
  split
  · exact State.Keeps.say (by exact hw) _ _
  · exact h.say _ _

theorem State.Keeps.serveLoadCurve (h : r.Keeps s) (p : Port) (x : LoadCurveArgs) : r.Keeps (s.serveLoadCurve p x) := by
  unfold State.serveLoadCurve
  split
  · exact h.say _ _
  · split
    · exact h.give _ _
    · exact (State.Keeps.computeLight (by exact h)).say _ _

theorem State.Keeps.serveClearAlarm (h : r.Keeps s) (p : Port) : r.Keeps (s.serveClearAlarm p) := by
  unfold State.serveClearAlarm
  split
  · exact h.say _ _
  · split
    · exact (h.alarmClear.say _ _).settle
    · exact h.give _ _

theorem State.Keeps.serveSleep (h : r.Keeps s) (p : Port) (x : SleepArgs) : r.Keeps (s.serveSleep p x) := by
  unfold State.serveSleep
  extract_lets t _ u
  have ht : r.Keeps t := h.say _ _
  split
  · split
    · exact ht
    · exact (State.Keeps.stopAp (by exact ht)).settle
  · split <;> exact ht

theorem State.Keeps.serveRadioPower (h : r.Keeps s) (p : Port) (x : RadioPowerArgs) :
    r.Keeps (s.serveRadioPower p x) := by
  unfold State.serveRadioPower
  split
  · exact h.radioOn.say _ _
  · exact (h.say _ _).radioOff.settle

theorem State.Keeps.serveSetAlarm (h : r.Keeps s) (p : Port) (x : SetAlarmArgs) : r.Keeps (s.serveSetAlarm p x) := by
  unfold State.serveSetAlarm
  split
  · exact State.Keeps.say (by exact h) _ _
  · split
    · exact State.Keeps.say (by exact h) _ _
    · exact h.say _ _

theorem State.Keeps.serveOpenStream (h : r.Keeps s) (p : Port) (x : OpenStreamArgs) :
    r.Keeps (s.serveOpenStream p x) := by
  unfold State.serveOpenStream
  (repeat' split)
  · exact h.say _ _
  · exact State.Keeps.tell (by exact h) _ _
  · exact h.say _ _

theorem State.Keeps.servePutBlock (h : r.Keeps s) (p : Port) (x : PutBlockArgs) : r.Keeps (s.servePutBlock p x) := by
  unfold State.servePutBlock State.putBlock
  (repeat' split)
  · exact h.say _ _
  · exact h.say _ _
  · exact h.say _ _
  · next u hu =>
    have hk : r.Keeps u := h.makeRoom hu
    exact State.Keeps.evalWatch (by exact hk)
  · exact h.say _ _
  · exact h.say _ _
  · exact h.say _ _

theorem State.Keeps.serveCloseStream (h : r.Keeps s) (p : Port) (x : CloseStreamArgs) :
    r.Keeps (s.serveCloseStream p x) := by
  unfold State.serveCloseStream
  (repeat' split)
  · exact h.say _ _
  · exact h.say _ _
  · exact h.say _ _
  · exact ((h.closeStream _ _ _).say _ _).settle
  · exact h.say _ _

theorem State.Keeps.serveAbortStream (h : r.Keeps s) (p : Port) (x : StreamArgs) : r.Keeps (s.serveAbortStream p x) := by
  unfold State.serveAbortStream
  (repeat' split)
  · exact h.say _ _
  · exact h.say _ _
  · exact ((h.abortStream _ _).tell _ _).settle
  · exact h.say _ _

theorem State.Keeps.serveDrain (h : r.Keeps s) (p : Port) : r.Keeps (s.serveDrain p) := by
  unfold State.serveDrain
  split
  · exact h.say _ _
  · exact h.setWork _ _

theorem State.Keeps.serveWaitSpace (h : r.Keeps s) (p : Port) (x : WaitSpaceArgs) : r.Keeps (s.serveWaitSpace p x) := by
  unfold State.serveWaitSpace
  split
  · exact (State.Keeps.evalWatch (by exact h)).say _ _
  · exact h.say _ _

theorem State.Keeps.serveTxLease (h : r.Keeps s) (p : Port) (x : TxLeaseArgs) : r.Keeps (s.serveTxLease p x) := by
  unfold State.serveTxLease
  (repeat' split)
  · exact h.say _ _
  · exact h.say _ _
  · exact (h.raise _ _).say _ _
  · exact (h.grantLease _ _ _).say _ _
  · exact (State.Keeps.rebalance (by exact h)).say _ _

theorem State.Keeps.serveTxRelease (h : r.Keeps s) (p : Port) : r.Keeps (s.serveTxRelease p) := by
  unfold State.serveTxRelease
  split
  · exact (State.Keeps.rebalance (by exact h)).say _ _
  · exact State.Keeps.say (by exact h) _ _
  · exact h.say _ _

theorem State.Keeps.serveTxCancel (h : r.Keeps s) (p : Port) : r.Keeps (s.serveTxCancel p) := by
  unfold State.serveTxCancel
  split
  · exact State.Keeps.say (by exact h) _ _
  · split <;> exact h.say _ _
  · exact h.say _ _

theorem State.Keeps.serveReset (h : r.Keeps s) (p : Port) : r.Keeps (s.serveReset p) := by
  unfold State.serveReset
  split
  · exact h.breakReservations
  · split
    · exact h.resetRadioSide.rebalance
    · exact h.resetRadioSide

/-- No request breaks the laws. -/
theorem State.Keeps.serve (h : r.Keeps s) (p : Port) (q : Req) : r.Keeps (s.serve p q) := by
  cases q <;> simp only [State.serve]
  case resetPort => exact ((h.serveReset p).say _ _).settle
  case takeNotice x => exact h.serveTakeNotice p x
  case setParam x => exact h.serveSetParam p x
  case getParam x =>
    unfold State.serveGetParam
    split
    · exact h.say _ _
    · exact h.tell _ _
  case share x => exact State.Keeps.say (by exact h) _ _
  case readShared x =>
    unfold State.serveReadShared
    split
    · exact h.tell _ _
    · exact h.say _ _
  case openSlot x => exact h.serveOpenSlot p x
  case writeSlot x => exact h.serveWriteSlot p x
  case commitSlot x => exact h.serveCommitSlot p x
  case cancelSlot x => exact h.serveCancelSlot p x
  case blankSlot x => exact h.serveBlankSlot p x
  case setClass x => exact h.serveSetClass p x
  case designate x => exact h.serveDesignate p x
  case forget x => exact h.serveForget p x
  case turn x => exact h.serveTurn p x
  case setKeyRoute x => exact h.serveSetKeyRoute p x
  case waveformWrite x => exact h.serveWaveformWrite p x
  case waveformCommit => exact h.serveWaveformCommit p
  case lightSet x => exact h.serveLightSet p x
  case loadCurve x => exact h.serveLoadCurve p x
  case clearAlarm => exact h.serveClearAlarm p
  case sleep x => exact h.serveSleep p x
  case radioPower x => exact h.serveRadioPower p x
  case setTime x => exact State.Keeps.tell (by exact h) _ _
  case setAlarm x => exact h.serveSetAlarm p x
  case abortStream x => exact h.serveAbortStream p x
  case drain => exact h.serveDrain p
  case clearNotices x => exact h.serveClearNotices p x
  case setNoticeLevel x => exact h.serveSetNoticeLevel p x
  case openStream x => exact h.serveOpenStream p x
  case putBlock x => exact h.servePutBlock p x
  case closeStream x => exact h.serveCloseStream p x
  case waitSpace x => exact h.serveWaitSpace p x
  case txLease x => exact h.serveTxLease p x
  case txRelease => exact h.serveTxRelease p
  case txCancel => exact h.serveTxCancel p
  case radioSleep => exact (h.say _ _).radioOff.settle
  -- the status requests
  all_goals exact h.tell _ _

theorem State.Keeps.takeMessage (h : r.Keeps s) (p : Port) (m : Message) (live : Bool) :
    r.Keeps (s.takeMessage p m live) := by
  have ht : r.Keeps (s.setPort p ((s.port p).taking live)) := h.setPort _ _
  unfold State.takeMessage State.checkMessage
  split
  · exact ht.say _ _
  · exact ht.say _ _
  · split
    · exact ht.serve _ _
    · exact ht.say _ _

theorem State.Keeps.takeHeld (h : r.Keeps s) (p : Port) : r.Keeps (s.takeHeld p) := by
  unfold State.takeHeld
  split
  · exact (h.setPort _ _).takeMessage _ _ _
  · exact h

/-- A frame that arrives on a port keeps the laws. -/
theorem State.Keeps.frame (h : r.Keeps s) (f : Frame) (m : Message) : r.Keeps (s.frame f m) := by
  have ho : r.Keeps (s.openWindow f) := by
    unfold State.openWindow
    split
    · exact h
    · exact h.setPort _ _
  unfold State.frame
  split
  · exact h
  · split
    · exact h
    · unfold State.completeFrame
      split
      · exact (((ho.setPort _ _).serveReset _).setPort _ _).settle
      · split
        · exact ho.setPort _ _
        · exact ho.takeMessage _ _ _

end Sys2Proof.Machine


namespace Sys2Proof.Machine

variable {r s : State}

/-! ### Every command keeps the laws -/

theorem State.Keeps.chunkFor (h : r.Keeps s) (q : Requester) : r.Keeps (s.chunkFor q) := by
  unfold State.chunkFor
  cases q <;> dsimp only <;> split <;> exact h

theorem State.Keeps.grantChunk (h : r.Keeps s) : r.Keeps s.grantChunk := by
  unfold State.grantChunk
  (repeat' split)
  · exact h.chunkFor _
  · exact h
  · exact h

theorem State.Keeps.feedBurst (h : r.Keeps s) (src : FeedSource) (room : Bool) : r.Keeps (s.feedBurst src room) := by
  unfold State.feedBurst
  (repeat' split) <;> exact h

theorem State.Keeps.tempRead (h : r.Keeps s) (u : Update) (reading : Option Int) : r.Keeps (s.tempRead u reading) := by
  unfold State.tempRead
  extract_lets b _ t
  have ht : r.Keeps t := h
  split
  · split
    · exact ht.raise _ _
    · exact ht
  · exact ht

theorem State.Keeps.stepTime (h : r.Keeps s) : r.Keeps s.stepTime := by
  unfold State.stepTime State.fireAlarm
  extract_lets _ _ u _ c
  have hc : r.Keeps c := h
  split
  · split
    · split
      · exact State.Keeps.raise (by exact hc.leaveDeep.radioOn) _ _
      · exact hc
    · exact State.Keeps.raise (by exact hc) _ _
  · exact h

theorem State.Keeps.chargerEdge (h : r.Keeps s) (l : ChgLine) (high : Bool) : r.Keeps (s.chargerEdge l high) :=
  State.Keeps.raise (by exact h) _ _

theorem State.Keeps.chargerEdgeDepleted (h : r.Keeps s) (l : ChgLine) (high : Bool) :
    r.Keeps (s.chargerEdgeDepleted l high) := by
  unfold State.chargerEdgeDepleted
  dsimp only
  split <;> exact h

theorem State.Keeps.writeSlotEnds (h : r.Keeps s) (p : Port) (n len stop : Nat) (lost : Bool) :
    r.Keeps (s.writeSlotEnds p n len stop lost) := by
  unfold State.writeSlotEnds
  dsimp only
  (repeat' split)
  · exact h.say _ _
  · exact State.Keeps.tell (by exact h) _ _
  · exact h.tell _ _

theorem State.Keeps.commitEnds (h : r.Keeps s) (p : Port) : r.Keeps (s.commitEnds p) := by
  unfold State.commitEnds
  split
  · exact State.Keeps.say (by exact h) _ _
  · exact State.Keeps.give (by exact h) _ _

theorem State.Keeps.blockWritten (h : r.Keeps s) (p : Port) : r.Keeps (s.blockWritten p) := by
  unfold State.blockWritten
  (repeat' split)
  · exact State.Keeps.say (by exact h) _ _
  · exact (h.joinBlock _ _).say _ _
  · exact State.Keeps.say (by exact h) _ _
  · exact h

theorem State.Keeps.drainEnds (h : r.Keeps s) (p : Port) (l : List Byte) : r.Keeps (s.drainEnds p l) := by
  unfold State.drainEnds
  split
  · exact h
  · exact State.Keeps.tell (by exact h) _ _

theorem State.Keeps.afterRise (h : r.Keeps s) : r.Keeps s.afterRise := by
  unfold State.afterRise
  split
  · split
    · exact h.presentUpdate
    · exact h
  · exact h.startHold

theorem State.Keeps.afterFall (h : r.Keeps s) : r.Keeps s.afterFall := by
  unfold State.afterFall
  split
  · split
    · exact h.presentPanel _ _
    · exact h
  · exact h

/-- The state a command leads to keeps the laws that `r` meets. -/
def LeavesKept (r : State) (o : Host.Outcome State Fault Refusal) : Prop := ∀ t, o = .next t → r.Keeps t

theorem leavesKept_next {t : State} (h : r.Keeps t) : LeavesKept r (.next t) := by
  intro u hu
  cases hu
  exact h

/-- A command that acts under a condition, and else does another thing. -/
theorem leavesKept_ite {p : Prop} [Decidable p] {a b : State} (ha : r.Keeps a) (hb : r.Keeps b) :
    LeavesKept r (if p then .next a else .next b) := by
  split
  · exact leavesKept_next ha
  · exact leavesKept_next hb

/-- No command breaks the laws. -/
theorem exec_leavesKept (c : Instr) (h : r.Keeps s) : LeavesKept r (exec c s) := by
  have hs := leavesKept_next h
  cases c <;> simp only [exec]
  -- requests
  case identify | resetPort | takeNotice | setParam | getParam | share | readShared | openSlot | writeSlot | commitSlot
      | cancelSlot | blankSlot | setClass | designate | forget | listSlots | turn | setKeyRoute | turnStatus
      | waveformWrite | waveformCommit | panelStatus | lightSet | loadCurve | lightState | clearAlarm | headroomStatus
      | radioPower | setTime | setAlarm | batteryStatus | sleepStatus | abortStream | drain | stagingStatus
      | peekNotices | clearNotices | setNoticeLevel | openStream | putBlock | closeStream | waitSpace | txLease
      | txRelease | txCancel | radioSleep => exact leavesKept_next (h.frame _ _)
  case sleep => exact leavesKept_next (State.Keeps.frame (by exact h) _ _)
  case unknownRequest =>
    unfold execUnknownRequest
    split
    · exact leavesKept_next (h.frame _ _)
    · exact hs
  -- starts
  case powerOn => exact leavesKept_next (State.keeps_coldStart r s _ _)
  case depletedRestartSample =>
    unfold execDepletedRestartSample
    split
    · exact leavesKept_ite (State.keeps_coldStart r s _ _) h
    · exact hs
  -- windows
  case chipSelectRelease => exact leavesKept_next (h.setPort _ _)
  case windowIgnored =>
    unfold execWindowIgnored State.receive
    split
    · exact leavesKept_next (h.setPort _ _)
    · exact hs
  case frameDiscarded => exact leavesKept_ite (h.setPort _ _) h
  -- memory work
  case chunkGrant => exact leavesKept_next h.grantChunk
  case panelFeedBurst => exact leavesKept_next (h.feedBurst _ _)
  case writeSlotEnd =>
    unfold execWriteSlotEnd
    (repeat' split)
    · exact leavesKept_next (((h.setWork _ _).writeSlotEnds _ _ _ _ _).takeHeld _)
    · exact hs
    · exact hs
  case blankSlotWriteEnd =>
    unfold execBlankSlotWriteEnd
    split
    · split
      · exact leavesKept_next (((h.setWork _ _).blankEnds _ _).settle.takeHeld _)
      · exact hs
    · exact hs
  case waveformWriteEnd =>
    unfold execWaveformWriteEnd
    split
    · exact leavesKept_next (((h.setWork _ _).say _ _).takeHeld _)
    · exact hs
  case waveformCommitEnd =>
    unfold execWaveformCommitEnd
    split
    · exact leavesKept_next (((h.setWork _ _).commitEnds _).takeHeld _)
    · exact hs
  case putBlockWriteEnd =>
    unfold execPutBlockWriteEnd
    split
    · exact leavesKept_next (((h.setWork _ _).blockWritten _).settle.takeHeld _)
    · exact hs
  case drainEnd =>
    unfold execDrainEnd
    split
    · exact leavesKept_next (((h.setWork _ _).drainEnds _ _).settle.takeHeld _)
    · exact hs
  case verifyScanEnd =>
    unfold execVerifyScanEnd
    split
    · exact leavesKept_ite h (State.Keeps.settle (State.Keeps.scanEnds (by exact h) _ _))
    · exact hs
  -- keys and turns
  case keyRawEdge =>
    unfold execKeyRawEdge
    split
    · exact hs
    · exact leavesKept_ite (by exact h) (by exact h)
  case keyDebounceExpiry =>
    unfold execKeyDebounceExpiry
    split
    · exact leavesKept_next (State.Keeps.acceptEdge (by exact h) _).settle
    · exact hs
  case holdTimerExpiry =>
    unfold execHoldTimerExpiry
    split
    · exact leavesKept_next (State.Keeps.repeatStep (by exact h) _).settle
    · exact hs
  case repeatTimerExpiry =>
    unfold execRepeatTimerExpiry
    split
    · exact leavesKept_next (State.Keeps.repeatStep (by exact h) _).settle
    · exact hs
  case touchIntFall => exact leavesKept_ite (h.raise _ _) h
  case missWaitExpiry =>
    unfold execMissWaitExpiry
    split
    · exact leavesKept_next (State.Keeps.abandon (by exact h) _ _).settle
    · exact hs
  -- panel drive
  case tempReadEnd =>
    unfold execTempReadEnd
    split
    · exact leavesKept_ite (h.tempRead _ _) h
    · exact hs
  case planningEnd =>
    unfold execPlanningEnd
    split
    · exact leavesKept_ite (h.endPlanning _).settle h
    · exact hs
  case railRiseEnd =>
    unfold execRailRiseEnd
    split
    · exact leavesKept_next (State.Keeps.railsHot (by exact h)).afterRise.settle
    · exact hs
  case powerWaitExpiry =>
    unfold execPowerWaitExpiry
    split
    · exact leavesKept_next (State.Keeps.rebalance (by exact h)).abandonUpdate.settle
    · exact hs
  case frameEnd =>
    unfold execFrameEnd
    (repeat' split)
    · exact leavesKept_next (State.Keeps.frameEnds (by exact h) _ _).settle
    · exact hs
    · exact hs
  case railHoldExpiry =>
    unfold execRailHoldExpiry
    split
    · exact leavesKept_next (State.Keeps.railsFall (by exact h)).settle
    · exact hs
  case railFallEnd =>
    unfold execRailFallEnd
    split
    · exact leavesKept_next (State.Keeps.rebalance (by exact h)).afterFall.settle
    · exact hs
  -- light and headroom
  case rampTimerExpiry =>
    unfold execRampTimerExpiry
    split
    · exact leavesKept_next (State.Keeps.computeLight (by exact h))
    · exact hs
  case periodBoundary => exact leavesKept_ite (State.Keeps.settle (by exact h)) h
  case batterySample => exact leavesKept_ite h (h.sample _).settle
  case alarmClearTimerExpiry =>
    unfold execAlarmClearTimerExpiry
    split
    · exact leavesKept_next (State.Keeps.alarmClear (by exact h)).settle
    · exact hs
  case leaseExpiry =>
    unfold execLeaseExpiry
    split
    · exact leavesKept_next (State.Keeps.rebalance (by exact h))
    · exact hs
  -- battery and sleep
  case awakeFall => exact leavesKept_ite (State.Keeps.stopAp (by exact h)).settle h
  case apOffTimerExpiry =>
    unfold execApOffTimerExpiry
    split
    · exact leavesKept_next (State.Keeps.stopAp (by exact h)).settle
    · exact hs
  case dozeIdleExpiry =>
    unfold execDozeIdleExpiry
    split
    · exact leavesKept_ite h (State.Keeps.beginDeepEntry (by exact h)).settle
    · exact hs
  case deferralExpiry =>
    unfold execDeferralExpiry
    split
    · exact leavesKept_next (State.Keeps.enterEnteringDeep (by exact h)).settle
    · exact hs
  case radioNoticeExpiry =>
    unfold execRadioNoticeExpiry
    split
    · exact leavesKept_next (State.Keeps.settle (by exact h))
    · exact hs
  case selfRefreshEntered =>
    have hd : r.Keeps s.reachDeep := h.withQueue (.inr (Nat.zero_le 8))
    unfold execSelfRefreshEntered
    split
    · exact leavesKept_ite hd.serveWake.settle hd
    · exact hs
  case selfRefreshLeft => exact leavesKept_ite h h
  case timeCounterStep => exact leavesKept_ite h h.stepTime.settle
  case chargerLineChange =>
    unfold execChargerLineChange
    split
    · exact hs
    · exact leavesKept_ite (h.chargerEdgeDepleted _ _) (h.chargerEdge _ _).settle
  case criticalGraceExpiry =>
    unfold execCriticalGraceExpiry
    dsimp only
    (repeat' split)
    · exact leavesKept_next h
    · exact leavesKept_next h
    · exact leavesKept_next (State.Keeps.beginDepletion (by exact h)).settle
    · exact hs
  case depletionTimerExpiry =>
    unfold execDepletionTimerExpiry
    split
    · exact leavesKept_next (State.keeps_enterDepleted r _)
    · exact hs
  -- staging
  case stagingIdleExpiry =>
    unfold execStagingIdleExpiry
    split
    · exact leavesKept_ite (State.Keeps.raise (by exact h) _ _).settle h
    · exact hs

/-- No step breaks the laws. -/
theorem step_keeps {t : State} (ht : step s = .next t) : s.Keeps t := by
  unfold step at ht
  split at ht
  · exact exec_leavesKept _ (by exact State.Keeps.refl s) t ht
  · cases ht
    exact State.Keeps.refl s

/-- Settles O5: every step keeps each law that the state before it meets. -/
theorem queueAndCountLawsAreKept : Obligations.QueueAndCountLawsAreKept := by
  refine ⟨fun s t hq ht => ?_, fun s t ⟨hc, hg⟩ ht => ?_⟩
  · exact (step_keeps ht).1 hq
  · exact ⟨(step_keeps ht).2.1 hc, (step_keeps ht).2.2 hg⟩

end Sys2Proof.Machine

namespace Sys2Proof.Machine

/-! ### The pages of a refill want (R66) -/

theorem State.mem_edgePages {s : State} {book p : Nat} {e : Edge} :
    p ∈ s.edgePages book e
      ↔ ∃ x ∈ s.slots.slots, x.state ≠ .empty ∧ x.key = some ⟨book, p⟩ ∧ x.edge = some e := by
  unfold State.edgePages
  rw [List.mem_filterMap]
  refine exists_congr fun x => and_congr_right fun _ => ?_
  cases hk : x.key with
  | none => simp
  | some k =>
    obtain ⟨b, q⟩ := k
    simp only [Option.ite_none_right_eq_some, Option.some.injEq, PageKey.mk.injEq]
    constructor
    · rintro ⟨⟨hx, rfl, he⟩, rfl⟩
      exact ⟨hx, ⟨rfl, rfl⟩, he⟩
    · rintro ⟨hx, ⟨rfl, rfl⟩, he⟩
      exact ⟨⟨hx, rfl, he⟩, rfl⟩

theorem State.slotOfKey_isNone {s : State} {k : PageKey} :
    (s.slotOfKey k).isNone = true ↔ ∀ x ∈ s.slots.slots, x.state ≠ .empty → x.key ≠ some k := by
  have hmem : ∀ x, x ∈ s.slots.slots ↔ ∃ n ∈ s.slotNumbers, s.slot n = x := fun x => by
    rw [List.mem_iff_getElem]
    refine exists_congr fun n => ?_
    rw [State.mem_slotNumbers]
    exact ⟨fun ⟨hn, hx⟩ => ⟨hn, by simp [State.slot, hn, hx]⟩, fun ⟨hn, hx⟩ => ⟨hn, by simpa [State.slot, hn] using hx⟩⟩
  unfold State.slotOfKey
  rw [Option.isNone_iff_eq_none, List.find?_eq_none]
  simp only [hmem, forall_exists_index, and_imp, forall_apply_eq_imp_iff₂, Bool.and_eq_true, decide_eq_true_eq, not_and]

theorem State.mem_wantedPages {s : State} {k : PageKey} {p : Nat} :
    p ∈ s.wantedPages k ↔ p ≠ k.page ∧ k.page ≤ p + s.params.behind ∧ p ≤ k.page + s.params.ahead ∧ p ≤ 16777215
      ∧ (∀ x ∈ s.slots.slots, x.state ≠ .empty → ∀ q, x.key = some ⟨k.book, q⟩ → x.edge = some .last → p ≤ q)
      ∧ (∀ x ∈ s.slots.slots, x.state ≠ .empty → ∀ q, x.key = some ⟨k.book, q⟩ → x.edge = some .first → q ≤ p)
      ∧ (∀ x ∈ s.slots.slots, x.state ≠ .empty → x.key ≠ some ⟨k.book, p⟩) := by
  have hwindow : p ∈ (List.range (k.page + s.params.ahead + 1 - (k.page - s.params.behind))).map
      (fun i => k.page - s.params.behind + i) ↔ k.page ≤ p + s.params.behind ∧ p ≤ k.page + s.params.ahead := by
    rw [List.mem_map]
    constructor
    · rintro ⟨i, hi, rfl⟩
      rw [List.mem_range] at hi
      omega
    · intro h
      exact ⟨p - (k.page - s.params.behind), List.mem_range.mpr (by omega), by omega⟩
  have hedge : ∀ (e : Edge) (r : Nat → Prop), (∀ q ∈ s.edgePages k.book e, r q)
      ↔ ∀ x ∈ s.slots.slots, x.state ≠ .empty → ∀ q, x.key = some ⟨k.book, q⟩ → x.edge = some e → r q := fun e r => by
    simp only [State.mem_edgePages]
    exact ⟨fun h x hx hne q hk he => h q ⟨x, hx, hne, hk, he⟩, fun h q ⟨x, hx, hne, hk, he⟩ => h x hx hne q hk he⟩
  unfold State.wantedPages
  rw [List.mem_filter, hwindow]
  simp only [Bool.and_eq_true, decide_eq_true_eq, List.all_eq_true, hedge, State.slotOfKey_isNone, Config.pageMax]
  tauto

/-- The pages are wanted in ascending order. -/
theorem State.wantedPages_pairwise (s : State) (k : PageKey) : (s.wantedPages k).Pairwise (· < ·) := by
  unfold State.wantedPages
  refine List.Pairwise.filter _ (List.pairwise_map.mpr ?_)
  exact List.pairwise_lt_range.imp fun h => Nat.add_lt_add_left h _

/-- Settles O27: the want is `wantedPages`, which a quiet refill notes. -/
theorem refillWantsMissingPages : Obligations.RefillWantsMissingPages := by
  intro s
  constructor
  · intro hk
    unfold State.refill
    rw [hk]
  · intro k hk hw
    refine ⟨s.wantedPages k, s.wantedPages_pairwise k, fun p => State.mem_wantedPages, ?_⟩
    rw [State.refill_quiet hw]
    unfold State.refilled State.wantComputed State.wantNoted
    simp only [hk, List.isEmpty_iff]

end Sys2Proof.Machine

namespace Sys2Proof.Machine

/-! ### Key routes (R49) -/

theorem exec_setKeyRoute {s : State} (x : SetKeyRouteArgs) (h : s.Ready .a) :
    exec (.setKeyRoute (freshFrame .a) (.fields x)) s = .next ((s.workingOn .a).serveSetKeyRoute .a x) := by
  show Host.Outcome.next (s.frame (freshFrame .a) (.request (.setKeyRoute x))) = _
  rw [State.frame_serve h (by simp) rfl]
  rfl

theorem State.serveSetKeyRoute_known {s : State} (k : Key) (r : Route) (h : s.Ready .a) :
    (s.workingOn .a).serveSetKeyRoute .a ⟨k.val, r⟩ = { s.refusedWith .a .ok with
      turn := { s.turn with
        routes := s.turn.routes.set k.val r
        keys := if s.routeOf k = r then
          s.turn.keys
        else s.turn.keys.set k.val { s.key k with hold := .idle, holdTimer := none, repeatTimer := none } } } := by
  rw [← State.say_workingOn .ok h]
  unfold State.serveSetKeyRoute
  rw [dif_pos k.isLt]
  dsimp only
  by_cases hr : s.routeOf k = r
  · rw [if_pos (by exact hr), if_pos hr]
    rfl
  · rw [if_neg (by exact hr), if_neg hr]
    rfl

theorem State.serveSetKeyRoute_unknown {s : State} {n : Nat} (r : Route) (h : s.Ready .a) (hn : 4 ≤ n) :
    (s.workingOn .a).serveSetKeyRoute .a ⟨n, r⟩ = s.refusedWith .a .badArgument := by
  unfold State.serveSetKeyRoute
  rw [dif_neg (Nat.not_lt.mpr hn)]
  exact State.say_workingOn .badArgument h

/-! ### Arrivals at the tail (R51) -/

theorem State.arrive_full {s : State} {e : Entry} (h : 8 ≤ s.turn.queue.length) :
    s.arrive e = (s.raise .turnOverrun (.turnOverrun e.origin e.kind), false) := by
  unfold State.arrive
  rw [if_pos (by exact h)]

theorem State.arrive_joins {s : State} {e : Entry} (h : s.turn.queue.length < 8)
    (hr : e.origin = .repeated → ∀ x ∈ s.turn.queue, x.origin ≠ .repeated) :
    s.arrive e = ({ s with turn := { s.turn with queue := s.turn.queue ++ [e] } }, true) := by
  unfold State.arrive TurnEngine.hasRepeat
  rw [if_neg (by simpa [Config.queueMax] using h), if_neg (by simpa using hr)]

theorem State.arrive_repeated {s : State} {e : Entry} (h : s.turn.queue.length < 8) (he : e.origin = .repeated)
    (hr : ∃ x ∈ s.turn.queue, x.origin = .repeated) : s.arrive e = (s, false) := by
  unfold State.arrive TurnEngine.hasRepeat
  rw [if_neg (by simpa [Config.queueMax] using h), if_pos (by simpa [he] using hr)]

/-! ### Raw edges (R46) -/

theorem exec_keyRawEdge {s : State} {k : Key} {level : Bool} (h : s.rawKey k ≠ level) :
    exec (.keyRawEdge k level) s = .next (if s.bs.power = .depleted then
      { s with pins := { s.pins with keys := s.pins.keys.set k.val level } }
    else { s with
      pins := { s.pins with keys := s.pins.keys.set k.val level }
      turn := { s.turn with keys := s.turn.keys.set k.val ((s.key k).rawMoves level s.now s.params.debounceMs) } }) := by
  show execKeyRawEdge k level s = _
  unfold execKeyRawEdge
  rw [if_neg h]
  dsimp only
  split <;> rfl

/-! ### Holds and repeats (R48) -/

/-- A key's hold REPEATING, with its repeat timer started. -/
def State.repeating (s : State) (k : Key) : State := s.setKey k { s.key k with
  hold := .repeating, holdTimer := none, repeatTimer := some (s.now + s.params.repeatMs) }

/-- A busy engine takes nothing after an arrival. -/
theorem State.arrive_settle {s : State} (e : Entry) (h : s.Quiet) (he : s.turn.engine ≠ .idle) (ha : s.bs.ap = .on) :
    (s.arrive e).1.settle = (s.arrive e).1 := by
  unfold State.arrive
  split
  · rw [State.raise_on _ _ ha]
    exact State.settle_quiet h (.inl he)
  · split <;> exact State.settle_quiet h (.inl he)

/-- Settles O28: the route, the raw edge and the repeat each by their cases. -/
theorem keyRoutesEdgesAndRepeats : Obligations.KeyRoutesEdgesAndRepeats := by
  refine ⟨⟨fun s n r h => ⟨?_, fun hn => ?_⟩, fun s k level h => ⟨fun hp hl => ?_, fun hp hl => ?_, fun hp => ?_⟩⟩, ?_⟩
  · rintro k rfl
    rw [exec_setKeyRoute _ h, State.serveSetKeyRoute_known k r h]
  · rw [exec_setKeyRoute _ h, State.serveSetKeyRoute_unknown r h hn]
  · rw [exec_keyRawEdge h, if_neg hp, KeyInput.rawMoves, if_neg hl]
  · rw [exec_keyRawEdge h, if_neg hp, KeyInput.rawMoves, if_pos hl]
  · rw [exec_keyRawEdge h, if_pos hp]
  · intro s u k d c hq he ha hc hu
    have hexec : exec c s = .next (u.arrive (keyEntry .repeated (s.key k).dir)).1.settle := by
      subst hu
      rcases hc with ⟨rfl, ht⟩ | ⟨rfl, ht⟩
      · show execHoldTimerExpiry k s = _
        unfold execHoldTimerExpiry
        rw [ht]
        rfl
      · show execRepeatTimerExpiry k s = _
        unfold execRepeatTimerExpiry
        rw [ht]
        rfl
    have hqu : u.turn.queue = s.turn.queue := by rw [hu]
    have hnu : u.notices = s.notices := by rw [hu]
    have hidle : u.turn.engine ≠ .idle := by rw [hu]; exact he
    have hquiet : u.Quiet := by rw [hu]; exact hq
    rw [hexec, State.arrive_settle _ hquiet hidle (by rw [hu]; exact ha)]
    refine ⟨fun hl hr => ?_, fun hl hr => ?_, fun hl => ?_⟩
    · rw [State.arrive_joins (by rwa [hqu]) (by rw [hqu]; exact fun _ => hr), hqu]
      rfl
    · rw [State.arrive_repeated (by rwa [hqu]) rfl (by rwa [hqu])]
    · rw [State.arrive_full (by rwa [hqu]), State.raise_on _ _ (by rw [hu]; exact ha), ← hnu]
      rfl

end Sys2Proof.Machine

namespace Sys2Proof.Machine

/-! ### A turn to a READY slot (R61, R62, R78) -/

/-- The mode a turn to slot `n` is given, where the mode asked is `m` (R61). -/
theorem State.chooseMode_eq (s : State) (m : TurnMode) (n : Nat) : s.chooseMode m n =
    if s.params.ghostLimit ≤ s.panel.ghost ∨ s.panel.fidelity = .unknown ∨ (s.slot n).fullRefresh = true then .full
    else if s.params.modeOf m = .grey ∧ s.bs.battery = .low ∧ s.params.lowBatteryFast = true then .fast
    else s.params.modeOf m := by
  have hforced : s.forcedFull n = true
      ↔ s.params.ghostLimit ≤ s.panel.ghost ∨ s.panel.fidelity = .unknown ∨ (s.slot n).fullRefresh = true := by
    simp [State.forcedFull, or_assoc]
  unfold State.chooseMode
  exact if_congr hforced rfl rfl

/-- With a VALID store and a battery that allows the turn, a READY slot goes to the panel drive. -/
theorem State.beginTurn_valid {s : State} {k : PageKey} {m : TurnMode} {o : Origin} {p : Option Purpose} {n : Nat}
    (hc : s.bs.battery ≠ .critical) (hw : s.panel.wave = .valid) :
    s.beginTurn k m o p n = { s with
      turn := { s.turn with engine := .updating, turn := some ⟨k, m, s.chooseMode m n, o, p⟩ }
      panel := { s.panel with
        target := some n, holdTimer := none
        update := some ⟨n, s.chooseMode m n, .planning, none, none, 0, false, false, none⟩ }
      pool := { s.pool with feed := ⟨0, 0, 0, true, false⟩ } } := by
  unfold State.beginTurn
  rw [if_neg (by exact fun h => hc h.1), if_neg (by exact not_not.mpr hw)]
  rfl

/-! ### A miss that ends with its page (R59) -/

/-- The slot table once slot `n` is READY and stamped (R22, R32). -/
def State.readyTable (s : State) (n : Nat) : SlotTable := { s.slots with
  slots := s.slots.slots.set n { s.slot n with state := .ready, age := s.slots.use }
  use := min 4294967295 (s.slots.use + 1) }

theorem State.stamp_ready {s : State} {n : Nat} (hl : n < s.slots.slots.length) :
    (s.setSlot n { s.slot n with state := .ready }).stamp n = { s with slots := s.readyTable n } := by
  rw [State.stamp, State.slot_setSlot_same _ hl, State.readyTable]
  simp only [State.setSlot, List.set_set]

theorem State.slotReady_awaited {s : State} {m : Miss} (n : Nat) (hm : s.turn.miss = some m)
    (he : s.turn.engine = .waitingPage) : s.slotReady n m.key =
      { s with turn := { s.turn with miss := none } }.beginTurn m.key m.mode m.origin m.purpose n := by
  unfold State.slotReady
  rw [hm]
  exact if_pos ⟨rfl, he⟩

/-- The page the engine waits for becomes READY: its turn begins (R59, R61). -/
theorem State.becomeReady_awaited {s : State} {n : Nat} {m : Miss} (hm : s.turn.miss = some m)
    (he : s.turn.engine = .waitingPage) (hl : n < s.slots.slots.length) (hk : (s.slot n).key = some m.key)
    (hc : s.bs.battery ≠ .critical) (hw : s.panel.wave = .valid) :
    s.becomeReady n = { s with
      slots := s.readyTable n
      turn := { s.turn with
        miss := none, engine := .updating, turn := some ⟨m.key, m.mode, s.chooseMode m.mode n, m.origin, m.purpose⟩ }
      panel := { s.panel with
        target := some n, holdTimer := none
        update := some ⟨n, s.chooseMode m.mode n, .planning, none, none, 0, false, false, none⟩ }
      pool := { s.pool with feed := ⟨0, 0, 0, true, false⟩ } } := by
  have hslot : ({ s with slots := s.readyTable n, turn := { s.turn with miss := none } } : State).slot n
      = { s.slot n with state := .ready, age := s.slots.use } :=
    State.slot_setSlot_same (s := s) { s.slot n with state := .ready, age := s.slots.use } hl
  have hmode : ({ s with slots := s.readyTable n, turn := { s.turn with miss := none } } : State).chooseMode m.mode n
      = s.chooseMode m.mode n := by
    rw [State.chooseMode_eq, State.chooseMode_eq, hslot]
  unfold State.becomeReady
  rw [State.stamp_ready hl, hk]
  dsimp only
  rw [State.slotReady_awaited n (by exact hm) (by exact he), State.beginTurn_valid (by exact hc) (by exact hw), hmode]

/-- The touch line counts its edges where the keys are watched (R50). -/
theorem exec_touchIntFall_awake {s : State} (ha : s.bs.ap = .on) (h : s.bs.power ≠ .deep) (h' : s.bs.power ≠ .depleted) :
    exec .touchIntFall s = .next (s.mark .touch (.touch s.touchCount)) := by
  show execTouchIntFall s = _
  unfold execTouchIntFall
  rw [if_pos (by simp [State.keysAwake, h, h']), State.raise_on _ _ ha]

theorem exec_touchIntFall_asleep {s : State} (h : s.bs.power = .deep ∨ s.bs.power = .depleted) :
    exec .touchIntFall s = .next s := by
  show execTouchIntFall s = _
  unfold execTouchIntFall
  rw [if_neg (by rcases h with h | h <;> simp [State.keysAwake, h])]

/-- A miss wait whose timer expires, short of what follows by itself (R59). -/
def State.missEnded (s : State) (m : Miss) : State := { s with
  now := max s.now m.timer, turn := { s.turn with miss := none, engine := .idle },
  notices := { s.notices with
    ap := s.notices.ap.modify 14 (fun n => n.raised (.turnAbandoned (some m.key) .missTimeout)) } }

theorem exec_missWaitExpiry {s : State} {m : Miss} (hm : s.turn.miss = some m) (ha : s.bs.ap = .on) :
    exec .missWaitExpiry s = .next (s.missEnded m).settle := by
  show execMissWaitExpiry s = _
  unfold execMissWaitExpiry
  rw [hm]
  dsimp only
  unfold State.abandon
  rw [State.raise_on _ _ (by exact ha)]
  rfl

/-- Settles O31: the touch line, the miss wait timer, and the two ways the awaited page becomes READY. -/
theorem touchAndMissWaitRaise : Obligations.TouchAndMissWaitRaise := by
  refine ⟨⟨fun s ha hp hp' => exec_touchIntFall_awake ha hp hp', fun s h => exec_touchIntFall_asleep h, ?timeout⟩, ?ready⟩
  case timeout =>
    intro s m hm ha hs hq
    rw [exec_missWaitExpiry hm ha, State.settle_quiet (by exact hs) (.inr (by exact hq))]
    rfl
  case ready =>
    intro s y n m mode hm he hl hk hf hs hc hw hmode hy
    rw [← State.chooseMode_eq] at hmode
    subst hmode hy
    refine ⟨fun c rest hscans hn hd hr => ?_, fun w hwork hkind hd hheld => ?_⟩
    · rw [execVerifyScanEnd_eq hscans hd, hn, hr, State.scanEnds_valid (by exact hf),
        State.becomeReady_awaited (by exact hm) (by exact he) (by exact hl) (by exact hk) (by exact hc) (by exact hw),
        State.settle_quiet (by exact hs) (.inl (by simp))]
      rfl
    · rw [exec_blankSlotWriteEnd hwork hkind hd, State.blankEnds, if_neg (by exact Bool.eq_false_iff.mp hf),
        State.becomeReady_awaited (by exact hm) (by exact he) (by exact hl) (by exact hk) (by exact hc) (by exact hw),
        State.settle_quiet (by exact hs) (.inl (by simp)),
        State.takeHeld_none (by exact (PortUnit.answered_held _ _).trans hheld)]
      rfl

end Sys2Proof.Machine

namespace Sys2Proof.Machine

/-! ### The parameters' rows (R179) -/

theorem paramRow_none {n : Nat} : paramRow n = none ↔ n = 0 ∨ 41 < n := by
  have hsmall : ∀ m < 42, paramRow m = none ↔ m = 0 ∨ 41 < m := by decide
  rcases Nat.lt_or_ge n 42 with h | h
  · exact hsmall n h
  · obtain ⟨m, rfl⟩ := Nat.exists_eq_add_of_le' h
    exact ⟨fun _ => .inr (by omega), fun _ => rfl⟩

theorem paramRow_ordered {n : Nat} {row : ParamRow} (h : paramRow n = some row) : row.low ≤ row.high := by
  have hsmall : ∀ m < 42, ∀ r ∈ paramRow m, r.low ≤ r.high := by decide
  have hn : n < 42 := by
    by_contra hn
    rw [paramRow_none.mpr (.inr (by omega))] at h
    cases h
  exact hsmall n hn row h

theorem clampTo_eq_iff {lo hi v : Nat} (h : lo ≤ hi) : clampTo lo hi v = v ↔ lo ≤ v ∧ v ≤ hi := by
  unfold clampTo
  omega

theorem namedParam_iff (n : Nat) : namedParam n = true ↔ n ∈ [7, 8] := by
  simp [namedParam]

/-! ### GET_PARAM and SET_PARAM at a ready port (R179) -/

theorem exec_getParam {s : State} (x : GetParamArgs) (h : s.Ready .a) :
    exec (.getParam (freshFrame .a) (.fields x)) s = .next ((s.workingOn .a).serveGetParam .a x) :=
  congrArg _ (State.frame_serve h (by simp) rfl)

theorem exec_setParam {s : State} (x : SetParamArgs) (h : s.Ready .a) :
    exec (.setParam (freshFrame .a) (.fields x)) s = .next ((s.workingOn .a).serveSetParam .a x) :=
  congrArg _ (State.frame_serve h (by simp) rfl)

theorem exec_getParam_known {s : State} {n : Nat} {row : ParamRow} (h : s.Ready .a) (hr : paramRow n = some row) :
    exec (.getParam (freshFrame .a) (.fields ⟨n⟩)) s
      = .next (s.replied .a ⟨.ok, .paramRow (s.params.get n) row.low row.high row.dflt⟩) := by
  rw [exec_getParam _ h, State.serveGetParam, hr, ← State.give_workingOn]
  rfl

theorem exec_getParam_unknown {s : State} {n : Nat} (h : s.Ready .a) (hr : paramRow n = none) :
    exec (.getParam (freshFrame .a) (.fields ⟨n⟩)) s = .next (s.refusedWith .a .badArgument) := by
  rw [exec_getParam _ h, State.serveGetParam, hr, ← State.say_workingOn .badArgument h]

theorem exec_setParam_refused {s : State} {n v : Nat} (h : s.Ready .a)
    (hn : n = 0 ∨ 41 < n ∨ ((n = 7 ∨ n = 8) ∧ 1 < v)) :
    exec (.setParam (freshFrame .a) (.fields ⟨n, v⟩)) s = .next (s.refusedWith .a .badArgument) := by
  rw [exec_setParam _ h, State.serveSetParam, ← State.say_workingOn .badArgument h]
  cases hr : paramRow n with
  | none => rfl
  | some row =>
    dsimp only
    have hknown : ¬(n = 0 ∨ 41 < n) := fun hz => by
      rw [paramRow_none.mpr hz] at hr
      cases hr
    rw [if_pos (by simp only [namedParam_iff, List.mem_cons, List.not_mem_nil, or_false]; omega)]

/-- A SET_PARAM that is taken, with the AP ON as a ready Port A has it: what its value does at once, and its answer. -/
theorem exec_setParam_taken {s : State} {n v : Nat} {row : ParamRow} (h : s.Ready .a) (hr : paramRow n = some row)
    (hn : ¬(n ∈ [7, 8] ∧ 1 < v)) :
    exec (.setParam (freshFrame .a) (.fields ⟨n, v⟩)) s
      = .next ((({ s with params := s.params.taking n (s.takenValue n v row) }.workingOn .a).paramEffect s.params n
          (s.takenValue n v row) false).give .a (paramAnswer n v (s.takenValue n v row))) := by
  have hap : s.bs.ap = .on := by simpa [State.portPowered] using h.1
  have hwake : (s.workingOn .a).wakeCond = false := State.wakeCond_on hap
  rw [exec_setParam _ h, State.serveSetParam, hr]
  dsimp only
  rw [if_neg (by rwa [namedParam_iff]), hwake]
  rfl

/-! ### What a new value does at once -/

theorem State.takenValue_clamped {s : State} {n v : Nat} {row : ParamRow} (h1 : n ≠ 38) (h2 : n ≠ 39) :
    s.takenValue n v row = min row.high (max row.low v) := by
  unfold State.takenValue
  dsimp only
  rw [if_neg h1, if_neg h2]
  rfl

theorem State.takenValue_eq (s : State) (n v : Nat) (row : ParamRow) : s.takenValue n v row =
    if n = 38 then min (min row.high (max row.low v)) s.params.stagingMax
    else if n = 39 then max (min row.high (max row.low v)) s.staging.ring.length
    else min row.high (max row.low v) := rfl

theorem Params.taking_other {p : Params} {n v : Nat} (h : n ≠ 39) : p.taking n v = p.set n v := if_neg h

/-- Most values act on no block at once; that of `wake_threshold` asks for no wake of an AP that is ON. -/
theorem State.paramEffect_none {s : State} {p : Params} {n v : Nat} (hap : s.bs.ap = .on)
    (hn : n ∉ [9, 18, 20, 21, 29, 38, 39]) : s.paramEffect p n v false = s := by
  have hwake : s.presentWake false = s := by
    unfold State.presentWake
    rw [State.wakeCond_on hap]
    rfl
  unfold State.paramEffect
  split
  case h_6 => exact hwake
  case h_9 => rfl
  all_goals exact absurd (by decide) hn

/-- What no new value of a parameter changes beyond the value itself. -/
def State.besides (s : State) := (s.portA, s.params, s.pool.mem, s.slots, s.shares)

theorem State.besides_of_still {s t : State} (h : t.still = s.still) (hp : t.ports = s.ports) :
    t.besides = s.besides := by
  simp only [State.still, State.ports, Prod.mk.injEq] at h hp
  obtain ⟨hparams, -, -, hmem, hslots, -, hshares, -⟩ := h
  simp only [State.besides, hparams, hmem, hslots, hshares, hp.1]

theorem State.evalWatch_besides (s : State) : s.evalWatch.besides = s.besides := by
  unfold State.evalWatch State.raiseRm
  (repeat' split) <;> rfl

theorem State.paramEffect_besides (s : State) (p : Params) (n v : Nat) (b : Bool) :
    (s.paramEffect p n v b).besides = s.besides := by
  unfold State.paramEffect
  split
  case h_1 => exact State.besides_of_still s.ghostLimitSet_still s.ghostLimitSet_ports
  case h_2 | h_3 | h_4 =>
    split
    · rfl
    · exact State.besides_of_still s.computeLight_still s.computeLight_ports
  case h_5 => split <;> rfl
  case h_6 => exact State.besides_of_still (State.presentWake_still b s) (State.presentWake_ports b s)
  case h_7 | h_8 => exact s.evalWatch_besides
  case h_9 => rfl

/-- A new `ghost_limit` that the ghost count does not reach, or that meets no update to re-plan (R63, R90). -/
theorem State.ghostLimitSet_none {s : State} (h : s.panel.update = none ∨ s.turn.turn = none
    ∨ s.panel.ghost < s.params.ghostLimit ∨ ∃ u, s.panel.update = some u ∧ (u.phase = .driving ∨ u.mode = .full)) :
    s.ghostLimitSet = s := by
  unfold State.ghostLimitSet
  split
  · next u x hu hx =>
    refine if_neg fun ⟨hphase, hmode, hghost⟩ => ?_
    rcases h with h | h | h | ⟨v, hv, hv'⟩
    · rw [hu] at h
      cases h
    · rw [hx] at h
      cases h
    · omega
    · rw [hu] at hv
      cases hv
      exact hv'.elim hphase hmode
  · rfl

/-- A new `ghost_limit` at or below the ghost count plans the update anew, in FULL (R63, R90). -/
theorem State.ghostLimitSet_replans {s : State} {u : Update} {x : Turn} (hu : s.panel.update = some u)
    (hx : s.turn.turn = some x) (hp : u.phase ≠ .driving) (hm : u.mode ≠ .full)
    (hg : s.params.ghostLimit ≤ s.panel.ghost) :
    s.ghostLimitSet = { s with
      turn := { s.turn with turn := some { x with mode := .full }, engine := .updating }
      panel := { s.panel with
        waitTimer := none
        update := some ⟨u.target, .full, .planning, none, none, 0, false, false, none⟩ }
      head := { s.head with panelWait := none, panel := { s.head.panel with demand := s.head.panel.grant } }
      pool := { s.pool with feed := ⟨0, 0, 0, true, false⟩ } } := by
  unfold State.ghostLimitSet
  rw [hu, hx]
  exact if_pos ⟨hp, hm, hg⟩

/-- A new value of a parameter of the light's figures (R96). -/
theorem State.paramEffect_light (s : State) (p : Params) {n : Nat} (v : Nat) (b : Bool) (h : n = 18 ∨ n = 20 ∨ n = 21) :
    s.paramEffect p n v b = if p.get n = v then s else s.computeLight := by
  rcases h with rfl | rfl | rfl <;> rfl

/-- A new value of one of the two staging limits (R165). -/
theorem State.paramEffect_staging (s : State) (p : Params) {n : Nat} (v : Nat) (b : Bool) (h : n = 38 ∨ n = 39) :
    s.paramEffect p n v b = s.evalWatch := by
  rcases h with rfl | rfl <;> rfl

/-- Settles O11: GET_PARAM by the row, SET_PARAM by what its number's new value does at once. -/
theorem parametersAreSetAndRead : Obligations.ParametersAreSetAndRead := by
  refine ⟨fun s n h => ⟨fun row hr => exec_getParam_known h hr, exec_getParam_unknown h, paramRow_none⟩,
    fun s n v h hn => exec_setParam_refused h hn, ?quiet, ?frame, ?acts⟩
  case quiet =>
    intro s n v row h hr hn hv
    have hap : s.bs.ap = .on := by simpa [State.portPowered] using h.1
    have hne : n ≠ 38 ∧ n ≠ 39 := ⟨fun h => hn (by simp [h]), fun h => hn (by simp [h])⟩
    rw [exec_setParam_taken h hr hv, State.paramEffect_none (by exact hap) hn, State.takenValue_clamped hne.1 hne.2,
      Params.taking_other hne.2, paramAnswer, ← if_congr (clampTo_eq_iff (paramRow_ordered hr)) rfl rfl]
    rfl
  case frame =>
    intro s n v row h hr hv
    refine ⟨_, s.takenValue n v row, exec_setParam_taken h hr hv, s.takenValue_eq n v row, ?_⟩
    generalize s.takenValue n v row = w
    have hkept := State.paramEffect_besides ({ s with params := s.params.taking n w }.workingOn .a) s.params n w false
    generalize State.paramEffect _ s.params n w false = t at hkept ⊢
    simp only [State.besides, Prod.mk.injEq] at hkept
    obtain ⟨hport, hparams, hmem, hslots, hshares⟩ := hkept
    refine ⟨?_, ?_, ?_, ?_, ?_⟩
    · show t.portA.answered _ = _
      rw [hport]
      rfl
    · rw [State.give_params, hparams]
      rfl
    · rw [State.give_pool, hmem]
      rfl
    · rw [State.give_slots, hslots]
      rfl
    · rw [State.give_shares, hshares]
      rfl
  case acts =>
    intro s t n v w row h hr hw ht
    have hclamped : n ≠ 38 → n ≠ 39 → n ∉ [7, 8] → exec (.setParam (freshFrame .a) (.fields ⟨n, v⟩)) s
        = .next (((t.workingOn .a).paramEffect s.params n w false).give .a (paramAnswer n v w)) := fun h38 h39 hv => by
      rw [exec_setParam_taken h hr (fun hc => hv hc.1), Params.taking_other h39, State.takenValue_clamped h38 h39,
        ← hw h38 h39, ht]
    refine ⟨?capacity, ?light, ?ghost, ?staging⟩
    case capacity =>
      rintro rfl
      rw [hclamped (by decide) (by decide) (by decide), ht]
      by_cases hlow : w < s.bs.q
      · rw [if_pos hlow, State.paramEffect, if_pos (by exact hlow)]
        rfl
      · rw [if_neg hlow, State.paramEffect, if_neg (by exact hlow)]
        rfl
    case light =>
      intro hn
      rw [hclamped (by omega) (by omega) (by simp; omega), State.paramEffect_light _ _ _ _ hn]
      refine ⟨fun hoff => ?_, fun g hnew hon hwaits hg => ?_⟩
      · have hsame : (if s.params.get n = w then t.workingOn .a else (t.workingOn .a).computeLight) = t.workingOn .a := by
          split
          · rfl
          · next hne => exact State.computeLight_off (by rw [ht]; exact hoff.resolve_left hne)
        rw [hsame]
        exact congrArg _ (State.give_workingOn _ _ _)
      · rw [if_neg hnew, State.computeLight_eq (by rw [ht]; exact hwaits) (by rw [ht]; exact hon), hg, ht]
        rfl
    case ghost =>
      rintro rfl
      rw [hclamped (by decide) (by decide) (by decide)]
      refine ⟨fun hno => ?_, fun u x hu hx hp hm hgh => ?_⟩
      · rw [State.paramEffect, State.ghostLimitSet_none (by rw [ht]; exact hno)]
        exact congrArg _ (State.give_workingOn _ _ _)
      · rw [State.paramEffect, State.ghostLimitSet_replans (by rw [ht]; exact hu) (by rw [ht]; exact hx) hp hm
          (by rw [ht]; exact hgh), ht]
        rfl
    case staging =>
      intro y hn hwv hy
      have hx : exec (.setParam (freshFrame .a) (.fields ⟨n, v⟩)) s
          = .next ((y.workingOn .a).evalWatch.give .a (paramAnswer n v w)) := by
        have hwt : w = s.takenValue n v row := by
          rw [hwv, s.takenValue_eq]
          rcases hn with rfl | rfl <;> rfl
        rw [exec_setParam_taken h hr (by simp; omega), ← hwt, State.paramEffect_staging _ _ _ _ hn, hy]
        rfl
      have hst : (y.workingOn .a).staging.watch = s.staging.watch := by rw [hy]; rfl
      rw [hx]
      refine ⟨fun hunmet => ?_, fun k hk hmet hradio => ?_⟩
      · have hstay : (y.workingOn .a).evalWatch = y.workingOn .a := by
          cases hk : s.staging.watch with
          | none => exact State.evalWatch_none (hst.trans hk)
          | some k => exact State.evalWatch_unmet (hst.trans hk) (by rw [State.space_workingOn]; exact hunmet k hk)
        rw [hstay]
        exact congrArg _ (State.give_workingOn _ _ _)
      · rw [State.evalWatch_met (hst.trans hk) (by rw [State.space_workingOn]; exact hmet) (by rw [hy]; exact hradio),
          State.space_workingOn]
        rw [hy]
        rfl

end Sys2Proof.Machine

namespace Sys2Proof.Machine

/-! ### The frames of a drive (R88 to R92) -/

/-- A turn of a reader that the panel drive ends: the engine rests and the refill want is computed (R62, R66). -/
theorem State.turnEnded_reader {s : State} {x : Turn} {e : EndReport} (h : s.turn.turn = some x) (hp : x.purpose = none)
    (he : e = .completed ∨ e = .aborted) :
    s.turnEnded e = State.refill { s with turn := { s.turn with turn := none, engine := s.restEngine } } := by
  have himage : ¬imagePurpose x.purpose = true := by rw [hp]; decide
  unfold State.turnEnded
  rw [h]
  rcases he with rfl | rfl <;> exact if_neg himage

/-- A refill with the AP ON leaves a settled state settled. -/
theorem State.refill_settle {s : State} (ha : s.bs.ap = .on) (h : s.Quiet) (he : s.NoTake) : s.refill.settle = s.refill := by
  have hturn : s.refilled.turn.engine = s.turn.engine ∧ s.refilled.turn.queue = s.turn.queue := by
    unfold State.refilled State.wantComputed
    dsimp only
    cases s.panel.shownKey <;> exact ⟨rfl, rfl⟩
  rw [State.refill_quiet (.inl ha)]
  exact State.settle_quiet (by exact h) (by rw [State.NoTake, hturn.1, hturn.2]; exact he)

theorem exec_frameEnd_next {s : State} {u : Update} {p : Plan} {d : Nat} (hu : s.panel.update = some u)
    (hd : u.frameTimer = some d) (hp : u.plan = some p) (hs : u.stopping = false) (hf : u.frame + 1 < p.frames) :
    exec .frameEnd s = .next (State.settle { s with
      now := max s.now d
      panel := { s.panel with
        update := some { u with frame := u.frame + 1, frameTimer := some (max s.now d + 12) } }
      pool := { s.pool with feed := ⟨0, 0, 0, true, false⟩ } }) := by
  have hlast : ¬p.frames ≤ u.frame + 1 := by omega
  simp only [exec, execFrameEnd, hu, hd, hp, State.frameEnds, hs, hlast, Bool.false_eq_true, if_false]
  rfl

/-- The rails HOT after a drive are held where they may be held at all (R87). -/
theorem State.startHold_held {s : State} (h : 0 < s.params.railHoldMs) : s.startHold =
    { s with panel := { s.panel with holdTimer := some (s.now + s.params.railHoldMs) } } :=
  if_neg (Nat.ne_of_gt h)

/-! ### What a pixel receives (R75, R79, R88) -/

theorem State.pixelDrive_still {s : State} {u : Update} (hu : s.panel.update = some u) (hp : u.phase ≠ .driving)
    (row col : Nat) : s.pixelDrive row col = .none := by
  unfold State.pixelDrive
  rw [hu]
  dsimp only
  split
  · next h _ _ => exact absurd h hp
  · rfl

theorem State.pixelDrive_driving {s : State} {u : Update} {p : Plan} {band : Nat} (hu : s.panel.update = some u)
    (hphase : u.phase = .driving) (hp : u.plan = some p) (hb : u.band = some band) {row col new src dst : Nat}
    (hnew : new = pixelLevel (imageRows (s.imageOf u.target)) row col)
    (hsrc : src = fromLevel s.panel.fidelity u.mode
      (s.panel.shown.map (fun n => pixelLevel (imageRows (s.imageOf n)) row col)) new)
    (hdst : dst = toLevel u.mode new) :
    s.pixelDrive row col = if row < p.firstRow ∨ p.lastRow < row then .none
      else if u.mode ≠ .full ∧ src = dst then .none
      else driveOf (s.pool.mem.driveCode (waveNumber u.mode band) src dst u.frame) := by
  unfold State.pixelDrive
  rw [hu]
  dsimp only
  rw [hphase, hp, hb, hsrc, hdst, hnew]

theorem fromLevel_eq (f : Fidelity) (m : UpdMode) (old : Option Nat) (new : Nat) : fromLevel f m old new =
    match old, f with
    | none, _ => toLevel m new
    | some _, .unknown => toLevel m new
    | some l, .exact => l
    | some l, .twoLevel => if l ≤ 7 then 0 else 15 := by
  cases old <;> cases f <;> rfl

theorem State.railsOn_iff (s : State) : s.railsOn = true
    ↔ s.panel.rail = .rising ∨ s.panel.rail = .hot ∨ s.panel.rail = .driving ∨ s.panel.rail = .falling := by
  unfold State.railsOn
  cases s.panel.rail <;> simp

/-- Settles O36: the next frame, the last one, the one the alarm stops; then the drive of a pixel. -/
theorem driveFramesRunToTheirEnd : Obligations.DriveFramesRunToTheirEnd := by
  refine ⟨fun s u p d hu hd hp hq => ⟨?next, ?last, ?stopped⟩, fun s row col => ⟨?idle, fun u hu => ⟨?still, ?drive⟩⟩,
    fun s => s.railsOn_iff⟩
  case next =>
    intro hs hf ht
    rw [exec_frameEnd_next hu hd hp hs hf, State.settle_quiet (by exact hq) (by exact ht)]
  case last =>
    intro x k h g hs hf hx hpurpose ha hqueue hw hhold hk hh hg
    have hrest : (s.drawn u k d h g).startHold.restEngine = .idle := by
      rw [State.startHold_held (by exact hhold)]
      exact State.restEngine_calm (by exact hw.1)
    rw [exec_frameEnd_completes hu hd hp hs hf (.inl ha) hw hk hh hg, State.turnEnded_reader (x := x) ?_ hpurpose (.inl rfl),
      hrest, State.startHold_held (by exact hhold), State.refill_settle (by exact ha) (by exact hq) (.inr (by exact hqueue))]
    · rfl
    · rw [State.startHold_held (by exact hhold)]
      exact hx
  case stopped =>
    intro x c h hs hc hx hpurpose ha hh
    rw [exec_frameEnd_aborts hu hd hp hs hc hh, State.turnEnded_reader (by exact hx) hpurpose (.inr rfl),
      State.restEngine_alarm (by exact hc), State.refill_settle (by exact ha) (by exact hq) (.inl (by simp))]
    rfl
  case idle =>
    intro hu
    unfold State.pixelDrive
    rw [hu]
  case still => exact fun hp => State.pixelDrive_still hu hp row col
  case drive =>
    intro p band new src dst code old hphase hp hb hnew hold hdst hsrc hcode
    have hdrive := State.pixelDrive_driving hu hphase hp hb (row := row) (col := col) hnew
      (src := src) (by rw [hsrc, fromLevel_eq, hold, hdst]; rfl) (dst := dst) hdst
    have hwave : s.pool.mem.driveCode (waveNumber u.mode band) src dst u.frame = code := by
      rw [hcode]
      cases u.mode <;> rfl
    rw [hdrive, hwave]
    refine ⟨fun hr => if_pos hr, fun hr hr' => ?_⟩
    rw [if_neg (by omega)]
    refine ⟨fun hm he => if_pos ⟨hm, he⟩, fun hne => ?_⟩
    rw [if_neg (fun h => hne.elim h.1 (fun hne => hne h.2))]
    exact ⟨fun h => by rw [h]; rfl, fun h => by rw [h]; rfl, fun h => by rw [h]; rfl⟩

end Sys2Proof.Machine

namespace Sys2Proof.Machine

/-! ### Settled states beside what the turn engine does -/

/-- A settled state stays settled where its controller, allotments, rails and staging unit stay, no update is lost, and a
busy engine does not become IDLE. -/
theorem State.settled_after {s t : State} (h : s.Settled) (hc : t.canTake = false) (hbs : t.bs = s.bs) (hhead : t.head = s.head)
    (hst : t.staging = s.staging) (hrail : t.panel.rail = s.panel.rail)
    (hupd : t.panel.update = none → s.panel.update = none) (heng : t.turn.engine = .idle → s.turn.engine = .idle)
    (hfade : t.fadeComplete = s.fadeComplete) (hw : s.staging.watch = none ∨ t.space = s.space) : t.Settled := by
  rw [State.settled_iff] at h ⊢
  obtain ⟨-, hdefer, hfadeStage, hrails, hrefresh, hreported, hwatch⟩ := h
  refine ⟨hc, ?_, ?_, ?_, ?_, ?_, ?_⟩
  · simpa only [State.deferralOver, hbs, hst] using hdefer
  · simpa only [State.fadeStageOver, hfade, hbs] using hfadeStage
  · rw [Bool.eq_false_iff] at hrails ⊢
    refine fun hr => hrails ?_
    simp only [State.railsAsked, State.railStage, hbs, hrail, Bool.and_eq_true, Option.isNone_iff_eq_none] at hr ⊢
    exact ⟨hr.1, hupd hr.2⟩
  · rw [Bool.eq_false_iff] at hrefresh ⊢
    refine fun hr => hrefresh ?_
    simp only [State.refreshAsked, State.railStage, State.alarmed, hbs, hrail, hhead, Bool.and_eq_true,
      decide_eq_true_eq] at hr ⊢
    exact ⟨⟨hr.1.1, heng hr.1.2⟩, hr.2⟩
  · simpa only [State.railsReported, hbs, hrail] using hreported
  · rcases hw with hw | hw
    · simp [State.watchMet, hst, hw]
    · simpa only [State.watchMet, hst, hw] using hwatch

/-- What the engine takes as an action's last effect (R54). -/
theorem State.settle_takeHead {s t : State} (hc : s.canTake = true) (ht : s.takeHead = t) (hs : t.Settled) :
    s.settle = t := by
  refine State.settle_step ?_ hs
  unfold State.nextAction
  rw [if_pos hc, ht]

theorem State.canTake_idle {s : State} (hi : s.turn.engine = .idle) (hq : s.turn.queue ≠ [])
    (hp : s.bs.power = .run ∨ s.bs.power = .apStopping) : s.canTake = true := by
  unfold State.canTake
  rcases hp with hp | hp <;> simp [hi, hq, hp]

/-! ### Taking the head (R54, R55) -/

theorem State.takeHead_goto {s : State} {e : Entry} {k : PageKey} {rest : List Entry} (hq : s.turn.queue = e :: rest)
    (hk : e.kind = .goto k) : s.takeHead = { s with turn := { s.turn with queue := rest } }.takeGoto e k := by
  unfold State.takeHead
  rw [hq]
  dsimp only
  rw [hk]

/-- The whole leading run of STEP entries is taken. -/
theorem State.takeHead_run {s : State} {run rest : List Entry} (hq : s.turn.queue = run ++ rest) (hne : run ≠ [])
    (hrun : ∀ e ∈ run, e.isStep = true) (hrest : ∀ e, rest.head? = some e → e.isStep = false) :
    s.takeHead = { s with turn := { s.turn with queue := rest } }.takeRun run := by
  have htake : rest.takeWhile Entry.isStep = [] ∧ rest.dropWhile Entry.isStep = rest := by
    cases rest with
    | nil => exact ⟨rfl, rfl⟩
    | cons e es => simp [hrest e rfl]
  have hsplit : s.turn.queue.takeWhile Entry.isStep = run ∧ s.turn.queue.dropWhile Entry.isStep = rest := by
    rw [hq, List.takeWhile_append_of_pos hrun, List.dropWhile_append_of_pos hrun, htake.1, htake.2, List.append_nil]
    exact ⟨rfl, rfl⟩
  obtain ⟨e, es, rfl⟩ := List.exists_cons_of_ne_nil hne
  have hstep := hrun e (List.mem_cons_self ..)
  unfold State.takeHead
  split
  · next hnil => rw [hq] at hnil; cases hnil
  · next e' es' hcons =>
    have he : e' = e := by
      rw [hq] at hcons
      cases hcons
      rfl
    subst he
    split
    · next hk => simp [Entry.isStep, hk] at hstep
    · rw [hsplit.1, hsplit.2]

/-! ### A run resolved against the shown page (R55, R56, R60) -/

/-- The net offset of a run. -/
def runOffset (run : List Entry) : Int := (run.map Entry.offset).sum

/-- The net offset counts the steps forward less the steps back. -/
theorem runOffset_eq (run : List Entry) : runOffset run =
    (run.countP (fun e => decide (e.kind = .step .plus)) : Int) - run.countP (fun e => decide (e.kind = .step .minus)) := by
  induction run with
  | nil => rfl
  | cons e es ih =>
    have hcons : runOffset (e :: es) = e.offset + runOffset es := rfl
    rw [hcons, ih, List.countP_cons, List.countP_cons]
    rcases hk : e.kind with (_ | _) | k
    · simp [Entry.offset, hk]
      omega
    · simp [Entry.offset, hk]
      omega
    · simp [Entry.offset, hk]

theorem State.edgeStops_iff (s : State) (d : Int) : edgeStops s.shownEdge d = true ↔ ∃ n, s.panel.shown = some n
    ∧ (((s.slot n).edge = some .last ∧ 0 < d) ∨ ((s.slot n).edge = some .first ∧ d < 0)) := by
  unfold edgeStops State.shownEdge
  cases s.panel.shown <;> simp

/-- The clamped page of an offset (R56). -/
theorem offsetPage_eq {page pg : Nat} {d : Int} (h : (pg : Int) = max 0 (min 16777215 (page + d))) :
    offsetPage page d = pg := by
  unfold offsetPage Config.pageMax
  omega

theorem runMode_eq {run : List Entry} {m : TurnMode}
    (h : if ∃ e ∈ run, e.mode = .full then m = .full else run.getLast?.map Entry.mode = some m) : runMode run = m := by
  have hany : run.any (fun e => decide (e.mode = .full)) = true ↔ ∃ e ∈ run, e.mode = .full := by simp
  unfold runMode
  split at h
  · next hf => rw [if_pos (hany.mpr hf), h]
  · next hf => rw [if_neg (mt hany.mp hf), h, Option.getD_some]

section
variable {s : State} {run : List Entry} {k : PageKey}

theorem State.takeRun_critical (h : s.bs.battery = .critical) : s.takeRun run = s.abandon none .battery := by
  unfold State.takeRun
  exact if_pos h

theorem State.takeRun_nothing (h : s.bs.battery ≠ .critical) (hd : runOffset run = 0 ∨ s.panel.shownKey = none) :
    s.takeRun run = s := by
  unfold State.takeRun
  refine (if_neg h).trans ?_
  split
  · rfl
  · next hne =>
    rw [hd.resolve_left hne]

/-- A run with an offset, resolved against the shown key `k`. -/
theorem State.takeRun_moves (h : s.bs.battery ≠ .critical) (hd : runOffset run ≠ 0) (hk : s.panel.shownKey = some k) :
    s.takeRun run = if edgeStops s.shownEdge (runOffset run) then
        s.raise .bookEdge (.bookEdge k (if 0 < runOffset run then .plus else .minus))
      else if offsetPage k.page (runOffset run) = k.page then s
      else s.lookUp { book := k.book, page := offsetPage k.page (runOffset run) } (runMode run)
        ((run.head?.map Entry.origin).getD .key) none := by
  unfold State.takeRun
  refine (if_neg h).trans ((if_neg hd).trans ?_)
  rw [hk]
  rfl

end

/-! ### The look-up of a target (R58) -/

section
variable {s : State} {k : PageKey} {m : TurnMode} {o : Origin}

theorem State.lookUp_absent (h : s.slotOfKey k = none) (ha : s.bs.ap = .on) : s.lookUp k m o none = { s with
    turn := { s.turn with
      engine := .waitingPage, miss := some ⟨k, m, o, none, s.now, s.now + s.params.missWaitS * 1000⟩ }
    notices := { s.notices with ap := s.notices.ap.modify 1 (fun n => n.raised (.turnMiss k)) } } := by
  unfold State.lookUp
  rw [h]
  exact State.raise_on _ _ ha

theorem State.lookUp_unready {n : Nat} (h : s.slotOfKey k = some n) (hr : (s.slot n).state ≠ .ready) :
    s.lookUp k m o none = { s with turn := { s.turn with
      engine := .waitingPage, miss := some ⟨k, m, o, none, s.now, s.now + s.params.missWaitS * 1000⟩ } } := by
  unfold State.lookUp
  rw [h]
  exact if_neg hr

theorem State.lookUp_ready {p : Option Purpose} {n : Nat} (h : s.slotOfKey k = some n) (hr : (s.slot n).state = .ready) :
    s.lookUp k m o p = s.beginTurn k m o p n := by
  unfold State.lookUp
  rw [h]
  exact if_pos hr

/-- A READY page that cannot be shown for want of a waveform (R61). -/
theorem State.beginTurn_noWaveform {n : Nat} (hc : s.bs.battery ≠ .critical) (hw : s.panel.wave ≠ .valid)
    (ha : s.bs.ap = .on) : s.beginTurn k m o none n = { s with
      turn := { s.turn with engine := .idle }
      notices := { s.notices with
        ap := s.notices.ap.modify 14 (fun x => x.raised (.turnAbandoned (some k) .noWaveform)) } } := by
  unfold State.beginTurn
  rw [if_neg (by exact fun h => hc h.1), if_pos (by exact hw)]
  exact State.raise_on _ _ ha

end

end Sys2Proof.Machine

namespace Sys2Proof.Machine

/-! ### TURN at a ready port (R51, R53) -/

theorem exec_turn {s : State} (x : TurnArgs) (h : s.Ready .a) :
    exec (.turn (freshFrame .a) (.fields x)) s = .next ((s.workingOn .a).serveTurn .a x) :=
  congrArg _ (State.frame_serve h (by simp) rfl)

theorem turnInRange_iff (x : TurnArgs) : turnInRange x = true
    ↔ ∀ k, x.kind = .goto k → 1 ≤ k.book ∧ k.book ≤ 65535 ∧ k.page ≤ 16777215 := by
  unfold turnInRange
  cases x.kind with
  | step => simp
  | goto k => simp [keyInRange, inRange, Config.bookMax, Config.pageMax, and_assoc]

theorem State.serveTurn_refused {s : State} {p : Port} {x : TurnArgs} (h : turnInRange x = false) :
    s.serveTurn p x = s.say p .badArgument := by
  unfold State.serveTurn
  rw [h]
  rfl

theorem State.serveTurn_full {s : State} {p : Port} {x : TurnArgs} (h : turnInRange x = true) (hl : 8 ≤ s.turn.queue.length)
    (ha : s.bs.ap = .on) :
    s.serveTurn p x = ((s.mark .turnOverrun (.turnOverrun .portA x.kind)).say p .full).settle := by
  unfold State.serveTurn
  rw [if_pos h, State.arrive_full hl, State.raise_on _ _ ha]
  rfl

theorem State.serveTurn_joins {s : State} {p : Port} {x : TurnArgs} (h : turnInRange x = true)
    (hl : s.turn.queue.length < 8) :
    s.serveTurn p x = (State.say { s with
      turn := { s.turn with queue := s.turn.queue ++ [⟨.portA, x.kind, x.mode, none⟩] } } p .ok).settle := by
  unfold State.serveTurn
  rw [if_pos h, State.arrive_joins hl (by simp)]
  rfl

/-- A GOTO of a page that is not shown is looked up. -/
theorem State.takeGoto_unshown {s : State} {e : Entry} {k : PageKey} (hc : s.bs.battery ≠ .critical)
    (hs : s.panel.shownKey ≠ some k) : s.takeGoto e k = s.lookUp k e.mode e.origin e.purpose := by
  unfold State.takeGoto
  rw [if_neg (fun h => hc h.1), if_neg hs]

/-- A TURN GOTO that an IDLE engine with nothing queued takes at once, and what its look-up leaves. -/
theorem exec_turn_taken {s t : State} {k : PageKey} {m : TurnMode} (h : s.Ready .a) (hi : s.turn.engine = .idle)
    (hq : s.turn.queue = []) (hp : s.bs.power = .run) (hc : s.bs.battery ≠ .critical)
    (hr : 1 ≤ k.book ∧ k.book ≤ 65535 ∧ k.page ≤ 16777215) (hk : s.panel.shownKey ≠ some k)
    (ht : (s.refusedWith .a .ok).lookUp k m .portA none = t) (hs : t.Settled) :
    exec (.turn (freshFrame .a) (.fields ⟨.goto k, m⟩)) s = .next t := by
  have hrange : turnInRange ⟨.goto k, m⟩ = true := (turnInRange_iff _).mpr fun j hj => by cases hj; exact hr
  have hsame : ({ (s.refusedWith .a .ok) with turn := { s.turn with queue := [] } } : State) = s.refusedWith .a .ok := by
    rw [← hq]
    rfl
  have hlen : (s.workingOn .a).turn.queue.length < 8 := by
    show s.turn.queue.length < 8
    rw [hq]
    decide
  rw [exec_turn _ h, State.serveTurn_joins hrange hlen]
  refine congrArg _ (State.settle_takeHead (State.canTake_idle (by exact hi) (by simp) (.inl (by exact hp))) ?_ hs)
  rw [State.takeHead_goto (e := ⟨.portA, .goto k, m, none⟩) (rest := []) ?_ rfl,
    State.takeGoto_unshown (by exact hc) (by exact hk), ← ht, ← hsame]
  · rfl
  · show s.turn.queue ++ _ = _
    rw [hq]
    rfl

/-! ### A run taken as a miss wait ends (R55, R56, R59) -/

theorem Entry.isStep_of_step {e : Entry} (h : ∃ d, e.kind = .step d) : e.isStep = true := by
  obtain ⟨d, hd⟩ := h
  unfold Entry.isStep
  rw [hd]

theorem Entry.isStep_of_goto {e : Entry} (h : ∃ k, e.kind = .goto k) : e.isStep = false := by
  obtain ⟨k, hk⟩ := h
  unfold Entry.isStep
  rw [hk]

/-- The state in which a miss wait has ended and the engine has taken the run off its queue, which leaves `rest`. -/
def State.runTaken (s : State) (m : Miss) (rest : List Entry) : State := { s with
  now := max s.now m.timer, turn := { s.turn with miss := none, engine := .idle, queue := rest },
  notices := { s.notices with
    ap := s.notices.ap.modify 14 (fun n => n.raised (.turnAbandoned (some m.key) .missTimeout)) } }

theorem exec_missWaitExpiry_takes {s t : State} {m : Miss} {run rest : List Entry} (hm : s.turn.miss = some m)
    (ha : s.bs.ap = .on) (hp : s.bs.power = .run ∨ s.bs.power = .apStopping) (hq : s.turn.queue = run ++ rest)
    (hne : run ≠ []) (hrun : ∀ e ∈ run, ∃ dir, e.kind = .step dir) (hrest : ∀ e, rest.head? = some e → ∃ k, e.kind = .goto k)
    (ht : (s.runTaken m rest).takeRun run = t) (hs : t.Settled) : exec .missWaitExpiry s = .next t := by
  have hqueue : (s.missEnded m).turn.queue = run ++ rest := hq
  rw [exec_missWaitExpiry hm ha]
  refine congrArg _ (State.settle_takeHead (State.canTake_idle rfl ?_ hp) ?_ hs)
  · rw [hqueue]
    simp [hne]
  · rw [State.takeHead_run hqueue hne (fun e he => Entry.isStep_of_step (hrun e he))
      (fun e he => Entry.isStep_of_goto (hrest e he)), ← ht]
    rfl

/-- Settles O26: TURN by its range and the room in the queue, a GOTO an IDLE engine takes, and a run taken as a miss wait
ends. -/
theorem turnIsQueuedAndTaken : Obligations.TurnIsQueuedAndTaken := by
  refine ⟨fun s x h => ⟨?refused, fun hr hs => ⟨?full, ?joins⟩⟩, ?goto, ?run⟩
  case refused =>
    rintro ⟨k, hk, hout⟩
    have hrange : turnInRange x = false := Bool.eq_false_iff.mpr fun hr => hout ((turnInRange_iff x).mp hr k hk)
    rw [exec_turn _ h, State.serveTurn_refused hrange, State.say_workingOn _ h]
  case full =>
    intro hl
    have ha : s.bs.ap = .on := by simpa [State.portPowered] using h.1
    rw [exec_turn _ h, State.serveTurn_full ((turnInRange_iff x).mpr hr) (by exact hl) (by exact ha),
      State.settle_of_settled]
    · rfl
    · exact State.settled_after hs ((State.settled_iff s).mp hs).1 rfl rfl rfl rfl (by exact id) (by exact id) rfl
        (.inr (State.space_congr rfl rfl rfl rfl rfl rfl))
  case joins =>
    intro hl hbusy
    rw [exec_turn _ h, State.serveTurn_joins ((turnInRange_iff x).mpr hr) (by exact hl), State.settle_of_settled]
    · rfl
    · exact State.settled_after hs (State.canTake_of_noTake (.inl hbusy)) rfl rfl rfl rfl (by exact id) (by exact id) rfl
        (.inr (State.space_congr rfl rfl rfl rfl rfl rfl))
  case goto =>
    intro s k m h hs hi hq hp hc hb hb' hpg hk
    have ha : s.bs.ap = .on := by simpa [State.portPowered] using h.1
    refine ⟨fun n hn hready hw hwatch => ⟨_, rfl, ?_⟩, fun hn => ?_⟩
    · rw [← State.chooseMode_eq]
      refine exec_turn_taken h hi hq hp hc ⟨hb, hb', hpg⟩ hk ?_ ?_
      · rw [State.lookUp_ready (by exact hn) (by exact hready), State.beginTurn_valid (by exact hc) (by exact hw)]
        rfl
      · exact State.settled_after hs (State.canTake_of_noTake (.inl (by simp))) rfl rfl rfl rfl (by simp) (by simp) rfl
          (.inl hwatch)
    · refine exec_turn_taken h hi hq hp hc ⟨hb, hb', hpg⟩ hk ?_ ?_
      · exact State.lookUp_absent (by exact hn) (by exact ha)
      · exact State.settled_after hs (State.canTake_of_noTake (.inl (by simp))) rfl rfl rfl rfl (by exact id) (by simp) rfl
          (.inr (State.space_congr rfl rfl rfl rfl rfl rfl))
  case run =>
    intro s m run rest d y hm ha hp hquiet hq hne hrun hrest hd hy
    rw [← runOffset_eq] at hd
    have htaken : ∀ t, y.takeRun run = t → t.Quiet → t.NoTake → exec .missWaitExpiry s = .next t := fun t ht hqt hnt =>
      exec_missWaitExpiry_takes hm ha hp hq hne hrun hrest (by rw [← ht, hy]; rfl) (State.settled_of_quiet hqt hnt)
    have hrested : rest = [] → y.turn.queue = [] := fun h => by rw [hy]; exact h
    have hay : y.bs.ap = .on := by rw [hy]; exact ha
    have hqy : y.Quiet := by rw [hy]; exact hquiet
    refine ⟨fun h0 hc => ?critical, fun h0 hc hnone => ?nothing, fun sk hk hc hd0 => ⟨fun n h0 hn he => ?edge,
      fun pg org md hfree hpg horg hmd => ?moves⟩⟩
    case critical =>
      refine htaken _ ?_ hqy (.inr (hrested h0))
      rw [State.takeRun_critical (by rw [hy]; exact hc), State.abandon, State.raise_on _ _ hay]
      rfl
    case nothing =>
      refine htaken _ ?_ hqy (.inr (hrested h0))
      exact State.takeRun_nothing (by rw [hy]; exact hc) (by rw [← hd, hy]; exact hnone)
    all_goals
      have hcy : y.bs.battery ≠ .critical := by rw [hy]; exact hc
      have hky : y.panel.shownKey = some sk := by rw [hy]; exact hk
      have hmove := State.takeRun_moves (run := run) hcy (by rwa [← hd]) hky
      rw [← hd] at hmove
    case edge =>
      refine htaken _ ?_ hqy (.inr (hrested h0))
      rw [hmove, if_pos ((y.edgeStops_iff d).mpr ⟨n, by rw [hy]; exact hn, by rw [hy]; exact he⟩), State.raise_on _ _ hay]
      rfl
    case moves =>
      have hstop : ¬edgeStops y.shownEdge d = true := fun hstop => by
        obtain ⟨n, hn, he⟩ := (y.edgeStops_iff d).mp hstop
        rw [hy] at hn he
        exact he.elim (hfree n hn).1 (hfree n hn).2
      rw [if_neg hstop, offsetPage_eq hpg, horg, Option.getD_some, runMode_eq hmd] at hmove
      refine ⟨fun h0 hsame => ?_, fun hnew habsent => ?_, fun n hnew hn hready => ?_, fun n h0 hnew hn hready hw => ?_,
        fun n mode hnew hn hready hw hmode => ?_⟩
      · refine htaken _ ?_ hqy (.inr (hrested h0))
        rw [hmove, if_pos hsame]
      · refine htaken _ ?_ (by exact hqy) (.inl (by simp))
        rw [hmove, if_neg hnew, State.lookUp_absent (by rw [hy]; exact habsent) hay]
        rw [hy]
      · refine htaken _ ?_ (by exact hqy) (.inl (by simp))
        rw [hmove, if_neg hnew, State.lookUp_unready (by rw [hy]; exact hn) (by rw [hy]; exact hready)]
        rw [hy]
      · refine htaken _ ?_ (by exact hqy) (.inr (by exact hrested h0))
        rw [hmove, if_neg hnew, State.lookUp_ready (by rw [hy]; exact hn) (by rw [hy]; exact hready),
          State.beginTurn_noWaveform hcy (by rw [hy]; exact hw) hay]
        rw [hy]
      · refine htaken _ ?_ (by exact hqy) (.inl (by simp))
        rw [← State.chooseMode_eq] at hmode
        rw [hmove, if_neg hnew, State.lookUp_ready (by rw [hy]; exact hn) (by rw [hy]; exact hready),
          State.beginTurn_valid hcy (by rw [hy]; exact hw), hmode]
        rw [hy]
        rfl

end Sys2Proof.Machine

namespace Sys2Proof.Machine

/-! ### Key records -/

theorem State.key_setKey_same {s : State} {k : Key} (x : KeyInput) (h : k.val < s.turn.keys.length) :
    (s.setKey k x).key k = x := by
  simp [State.setKey, State.key, List.getD_eq_getElem?_getD, h]

theorem State.setKey_setKey (s : State) (k : Key) (x y : KeyInput) : (s.setKey k x).setKey k y = s.setKey k y := by
  simp only [State.setKey, List.set_set]

/-! ### An accepted edge in RUN (R46 to R48) -/

/-- The state in which the debounce timer of key `k` has expired and its edge is accepted, short of what the edge does. -/
def State.edgeTaken (s : State) (k : Key) (d : Nat) : State :=
  (s.atTime d).setKey k ((s.key k).accepted (s.rawKey k) (max s.now d))

theorem State.keyActivity_run {s : State} (h : s.bs.power = .run) : s.keyActivity = s := if_neg (by rw [h]; decide)

theorem exec_keyDebounceExpiry {s : State} {k : Key} {d : Nat} (hd : (s.key k).debounce = some d) :
    exec (.keyDebounceExpiry k) s = .next ((s.atTime d).acceptEdge k).settle := by
  show execKeyDebounceExpiry k s = _
  unfold execKeyDebounceExpiry
  rw [hd]

theorem State.acceptEdge_press {s u : State} {k : Key} {d : Nat} (hp : s.bs.power = .run) (hr : s.rawKey k = true)
    (hu : (s.edgeTaken k d).pressAction k = u) (hup : u.bs.power = .run) : (s.atTime d).acceptEdge k = u := by
  have hdeep : ¬(s.atTime d).bs.power = .deep := by
    show ¬s.bs.power = .deep
    rw [hp]
    decide
  unfold State.acceptEdge
  dsimp only
  rw [if_neg hdeep, if_pos (by exact hr)]
  exact (congrArg State.keyActivity hu).trans (State.keyActivity_run hup)

theorem State.acceptEdge_release {s : State} {k : Key} {d : Nat} (hp : s.bs.power = .run) (hr : s.rawKey k = false)
    (hk : k.val < s.turn.keys.length) :
    (s.atTime d).acceptEdge k = (s.atTime d).setKey k ((s.key k).accepted false (max s.now d)).stopHold := by
  have hdeep : ¬(s.atTime d).bs.power = .deep := by
    show ¬s.bs.power = .deep
    rw [hp]
    decide
  have hraw : (s.atTime d).rawKey k = false := hr
  unfold State.acceptEdge
  dsimp only
  rw [if_neg hdeep, hraw, if_neg Bool.false_ne_true, State.key_setKey_same _ (by exact hk), State.setKey_setKey,
    State.keyActivity_run (by exact hp)]
  rfl

/-- The state in which a press of key `k` in direction `dir` is accepted and held, short of its entry (R47, R48). -/
def State.edgeHeld (s : State) (k : Key) (d : Nat) (dir : StepDir) : State := { s with
  now := max s.now d,
  turn := { s.turn with
    keys := s.turn.keys.set k.val { s.key k with
      pressed := true, edgeTime := (s.key k).candidate.getD (max s.now d), candidate := none,
      debounce := none, hold := .held, holdTimer := some (max s.now d + s.params.holdMs), dir := dir } } }

/-- The route that steps in a direction. -/
def stepRoute (dir : StepDir) : Route := if dir = .plus then .next else .prev

section
variable {s : State} {k : Key} {d : Nat}

/-- A press of a key routed NEXT or PREV: its entry arrives beside the key's hold. -/
theorem State.pressAction_step {dir : StepDir} (hp : s.bs.power = .run) (hr : s.rawKey k = true)
    (hroute : s.routeOf k = stepRoute dir) (hk : k.val < s.turn.keys.length) :
    (s.edgeTaken k d).pressAction k = ((s.edgeHeld k d dir).arrive (keyEntry .key dir)).1 := by
  have hdeep : ¬(s.edgeTaken k d).bs.power = .deep := by
    show ¬s.bs.power = .deep
    rw [hp]
    decide
  have hpress : (s.edgeTaken k d).pressAction k = (s.edgeTaken k d).stepPress k dir := by
    unfold State.pressAction
    rw [show (s.edgeTaken k d).routeOf k = stepRoute dir from hroute]
    cases dir <;> exact if_neg hdeep
  rw [hpress, State.stepPress, State.edgeTaken, hr, State.key_setKey_same _ (by exact hk), State.setKey_setKey]
  rfl

theorem exec_keyDebounceExpiry_step {dir : StepDir} (hd : (s.key k).debounce = some d) (hp : s.bs.power = .run)
    (ha : s.bs.ap = .on) (hr : s.rawKey k = true) (hroute : s.routeOf k = stepRoute dir)
    (hk : k.val < s.turn.keys.length) :
    exec (.keyDebounceExpiry k) s = .next ((s.edgeHeld k d dir).arrive (keyEntry .key dir)).1.settle := by
  have hpower : ((s.edgeHeld k d dir).arrive (keyEntry .key dir)).1.bs.power = .run := by
    unfold State.arrive
    split
    · rw [State.raise_on _ _ (by exact ha)]
      exact hp
    · split <;> exact hp
  rw [exec_keyDebounceExpiry hd, State.acceptEdge_press hp hr (State.pressAction_step hp hr hroute hk) hpower]

/-- The one step of a press, taken by an IDLE engine with nothing queued. -/
theorem exec_keyDebounceExpiry_taken {dir : StepDir} {t : State} (hd : (s.key k).debounce = some d) (hp : s.bs.power = .run)
    (ha : s.bs.ap = .on) (hr : s.rawKey k = true) (hroute : s.routeOf k = stepRoute dir)
    (hk : k.val < s.turn.keys.length) (hi : s.turn.engine = .idle) (hq : s.turn.queue = [])
    (ht : (s.edgeHeld k d dir).takeRun [keyEntry .key dir] = t) (hs : t.Settled) :
    exec (.keyDebounceExpiry k) s = .next t := by
  have hqueue : (s.edgeHeld k d dir).turn.queue = [] := hq
  have hempty : ({ s.edgeHeld k d dir with turn := { (s.edgeHeld k d dir).turn with queue := [] } } : State)
      = s.edgeHeld k d dir := by
    rw [← hqueue]
  have hlen : (s.edgeHeld k d dir).turn.queue.length < 8 := by
    rw [hqueue]
    decide
  rw [exec_keyDebounceExpiry_step hd hp ha hr hroute hk, State.arrive_joins hlen (by simp [keyEntry])]
  refine congrArg _ (State.settle_takeHead (State.canTake_idle (by exact hi) (by simp) (.inl (by exact hp))) ?_ hs)
  rw [State.takeHead_run (run := [keyEntry .key dir]) (rest := []), ← ht]
  · exact congrArg (State.takeRun · [keyEntry .key dir]) hempty
  · show (s.edgeHeld k d dir).turn.queue ++ _ = _
    rw [hqueue]
    rfl
  · simp
  · simp [Entry.isStep, keyEntry]
  · simp

/-- A press routed LIGHT toggles the target and starts, stops or keeps the ramp (R106, R107). -/
theorem State.lightKey_eq {s : State} (hf : s.light.fading = false) {tgt : Nat}
    (ht : tgt = if 0 < s.light.target then 0 else s.light.remembered) :
    s.lightKey = { s with light := { s.light with
      remembered := if 0 < s.light.target then s.light.target else s.light.remembered
      target := tgt
      rampTimer := if s.light.alarmHold = true then s.light.rampTimer
        else if tgt = s.light.applied then none
        else if s.light.rampTimer = none then some (s.now + s.params.rampMs) else s.light.rampTimer } } := by
  have htimer : ∀ (o : Option Nat) (n : Nat), (match o with | some d => some d | none => some n)
      = if o = none then some n else o := fun o n => by cases o <;> rfl
  unfold State.lightKey State.retarget
  rw [hf, if_neg Bool.false_ne_true]
  by_cases hpos : 0 < s.light.target
  · rw [if_pos hpos] at ht
    subst ht
    rw [if_pos hpos, if_pos hpos, ← htimer]
    rfl
  · rw [if_neg hpos] at ht
    subst ht
    rw [if_neg hpos, if_neg hpos, ← htimer]
    rfl

end

/-! ### The one step of a press against the shown page (R55, R56) -/

theorem runOffset_key (dir : StepDir) : runOffset [keyEntry .key dir] = if dir = .plus then 1 else -1 := by
  cases dir <;> rfl

theorem State.edgeStops_key (s : State) (dir : StepDir) : edgeStops s.shownEdge (runOffset [keyEntry .key dir]) = true
    ↔ ∃ n, s.panel.shown = some n ∧ (s.slot n).edge = if dir = .plus then some .last else some .first := by
  rw [State.edgeStops_iff, runOffset_key]
  cases dir <;> simp

theorem offsetPage_key {page pg : Nat} (dir : StepDir) (hp : page ≤ 16777215)
    (hpg : pg = if dir = .plus then min 16777215 (page + 1) else page - 1) :
    offsetPage page (runOffset [keyEntry .key dir]) = pg := by
  refine offsetPage_eq ?_
  rw [hpg, runOffset_key]
  cases dir
  · simp
    omega
  · simp
    omega

/-- A press of a key routed POWER only raises POWER_KEY in RUN (R47, R145). -/
theorem State.pressAction_power {s : State} {k : Key} (hp : s.bs.power = .run) (ha : s.bs.ap = .on)
    (hroute : s.routeOf k = .power) : s.pressAction k = s.mark .powerKey (.powerKey .run) := by
  have hwake : (s.mark .powerKey (.powerKey .run)).serveWake = s.mark .powerKey (.powerKey .run) := by
    unfold State.serveWake
    split
    · rfl
    · rw [show (s.mark .powerKey (.powerKey .run)).bs.power = .run from hp]
  unfold State.pressAction
  rw [hroute]
  dsimp only
  rw [State.powerPress, hp, State.raise_on _ _ ha, hwake]

/-- A press of a key of another route, outside DEEP (R47). -/
theorem State.pressAction_noticeOnly {s : State} {k : Key} (hp : s.bs.power = .run) (ha : s.bs.ap = .on)
    (hroute : s.routeOf k = .noticeOnly) : s.pressAction k = s.mark .key (.key k.val) := by
  unfold State.pressAction
  rw [hroute, ← State.raise_on _ _ ha]
  exact if_neg (by rw [hp]; decide)

theorem State.pressAction_none {s : State} {k : Key} (hroute : s.routeOf k = .none) : s.pressAction k = s := by
  unfold State.pressAction
  rw [hroute]
  exact ite_self _

theorem State.pressAction_light {s : State} {k : Key} (hp : s.bs.power = .run) (hroute : s.routeOf k = .light) :
    s.pressAction k = s.lightKey := by
  unfold State.pressAction
  rw [hroute]
  exact if_neg (by rw [hp]; decide)

/-- A press that the turn engine has no part in leaves a settled state settled. -/
theorem exec_keyDebounceExpiry_beside {s : State} {k : Key} {d : Nat} {l : LightUnit} {n : NoticeUnit}
    (hd : (s.key k).debounce = some d) (hs : s.Settled) (hp : s.bs.power = .run) (hr : s.rawKey k = true)
    (hu : (s.edgeTaken k d).pressAction k = { s.edgeTaken k d with light := l, notices := n })
    (hl : l.applied = s.light.applied ∧ l.duty = s.light.duty ∧ l.buffer = s.light.buffer) :
    exec (.keyDebounceExpiry k) s = .next { s.edgeTaken k d with light := l, notices := n } := by
  have hfade : State.fadeComplete { s.edgeTaken k d with light := l, notices := n } = s.fadeComplete := by
    simp only [State.fadeComplete, hl.1, hl.2.1, hl.2.2]
  rw [exec_keyDebounceExpiry hd, State.acceptEdge_press hp hr hu (by exact hp), State.settle_of_settled]
  exact State.settled_after hs ((State.settled_iff s).mp hs).1 rfl rfl rfl rfl (by exact id) (by exact id) hfade
    (.inr (State.space_congr rfl rfl rfl rfl rfl rfl))

/-- Settles O29: a release, and a press by the route of its key and by what the engine makes of its step. -/
theorem keyEdgeAccepted : Obligations.KeyEdgeAccepted := by
  refine ⟨fun s k d hd hs hp ha hk => ⟨?release, ?joins, ?notices⟩, fun s k d hd hs hp ha hk hr => ⟨?light, ?steps⟩⟩
  case release =>
    intro hr
    have hstill : ((s.atTime d).setKey k ((s.key k).accepted false (max s.now d)).stopHold).Settled :=
      State.settled_after hs ((State.settled_iff s).mp hs).1 rfl rfl rfl rfl (by exact id) (by exact id) rfl
        (.inr (State.space_congr rfl rfl rfl rfl rfl rfl))
    rw [exec_keyDebounceExpiry hd, State.acceptEdge_release hp hr hk, State.settle_of_settled hstill]
    rfl
  case joins =>
    intro dir hr hroute hbusy hlen
    rw [exec_keyDebounceExpiry_step hd hp ha hr hroute hk, State.arrive_joins (by exact hlen) (by simp [keyEntry]),
      State.settle_of_settled]
    · rfl
    · exact State.settled_after hs (State.canTake_of_noTake (.inl hbusy)) rfl rfl rfl rfl (by exact id) (by exact id) rfl
        (.inr (State.space_congr rfl rfl rfl rfl rfl rfl))
  case notices =>
    intro hr hroute
    have htaken : s.edgeTaken k d = (s.atTime d).setKey k ((s.key k).accepted true (max s.now d)) := by
      rw [State.edgeTaken, hr]
    have hbeside : ∀ n, (s.edgeTaken k d).pressAction k = { s.edgeTaken k d with light := s.light, notices := n } →
        exec (.keyDebounceExpiry k) s
          = .next { (s.atTime d).setKey k ((s.key k).accepted true (max s.now d)) with light := s.light, notices := n } :=
      fun n hn => by rw [exec_keyDebounceExpiry_beside hd hs hp hr hn ⟨rfl, rfl, rfl⟩, htaken]
    rcases hroute with hroute | hroute | hroute
    · refine ⟨_, hbeside _ (State.pressAction_power (by exact hp) (by exact ha) hroute), rfl, fun _ => rfl, fun h => ?_,
        fun h => ?_⟩
      all_goals
        rw [hroute] at h
        cases h
    · refine ⟨_, hbeside _ (State.pressAction_noticeOnly (by exact hp) (by exact ha) hroute), rfl, fun h => ?_,
        fun _ => rfl, fun h => ?_⟩
      all_goals
        rw [hroute] at h
        cases h
    · refine ⟨_, hbeside s.notices (State.pressAction_none hroute), rfl, fun h => ?_, fun h => ?_, fun _ => rfl⟩
      all_goals
        rw [hroute] at h
        cases h
  case light =>
    intro y tgt hroute hy htgt
    have htaken : s.edgeTaken k d = y := by
      rw [State.edgeTaken, hr, hy]
      rfl
    have hpress : (s.edgeTaken k d).pressAction k = (s.edgeTaken k d).lightKey := State.pressAction_light (by exact hp) hroute
    refine ⟨fun hf => ?_, fun hf => ?_⟩
    · have hstay : (s.edgeTaken k d).lightKey = s.edgeTaken k d := by
        unfold State.lightKey
        exact if_pos hf
      rw [← htaken]
      exact exec_keyDebounceExpiry_beside hd hs hp hr (hpress.trans hstay) ⟨rfl, rfl, rfl⟩
    · rw [← htaken]
      exact exec_keyDebounceExpiry_beside hd hs hp hr (hpress.trans (State.lightKey_eq (by exact hf) htgt)) ⟨rfl, rfl, rfl⟩
  case steps =>
    intro dir y hroute hy
    have hheld : s.edgeHeld k d dir = y := hy.symm
    have hay : (s.edgeHeld k d dir).bs.ap = .on := ha
    rw [← hheld]
    refine ⟨?full, ?critical, fun hi hq hc => ⟨?unshown, fun sk hsk => ⟨?edge, ?moves⟩⟩⟩
    case full =>
      intro hlen
      rw [exec_keyDebounceExpiry_step hd hp ha hr hroute hk, State.arrive_full (by exact hlen), State.raise_on _ _ hay,
        State.settle_of_settled]
      · rfl
      · exact State.settled_after hs ((State.settled_iff s).mp hs).1 rfl rfl rfl rfl (by exact id) (by exact id) rfl
          (.inr (State.space_congr rfl rfl rfl rfl rfl rfl))
    case critical =>
      intro hi hq hc
      refine exec_keyDebounceExpiry_taken hd hp ha hr hroute hk hi hq ?_ ?_
      · rw [State.takeRun_critical (by exact hc), State.abandon, State.raise_on _ _ hay]
        rfl
      · exact State.settled_after hs ((State.settled_iff s).mp hs).1 rfl rfl rfl rfl (by exact id) (by exact id) rfl
          (.inr (State.space_congr rfl rfl rfl rfl rfl rfl))
    all_goals
      have hstill : (s.edgeHeld k d dir).Settled :=
        State.settled_after hs ((State.settled_iff s).mp hs).1 rfl rfl rfl rfl (by exact id) (by exact id) rfl
          (.inr (State.space_congr rfl rfl rfl rfl rfl rfl))
      have htaken : ∀ t, (s.edgeHeld k d dir).takeRun [keyEntry .key dir] = t → t.Settled →
          exec (.keyDebounceExpiry k) s = .next t := fun t =>
        exec_keyDebounceExpiry_taken hd hp ha hr hroute hk hi hq
    case unshown =>
      intro hnone
      exact htaken _ (State.takeRun_nothing (by exact hc) (.inr (by exact hnone))) hstill
    all_goals
      have hmove := State.takeRun_moves (s := s.edgeHeld k d dir) (run := [keyEntry .key dir]) hc
        (by cases dir <;> decide) hsk
    case edge =>
      intro n hn he
      have hsign : (if 0 < runOffset [keyEntry .key dir] then StepDir.plus else .minus) = dir := by cases dir <;> rfl
      refine htaken _ ?_ ?_
      · rw [hmove, if_pos ((State.edgeStops_key (s.edgeHeld k d dir) dir).mpr ⟨n, hn, he⟩), State.raise_on _ _ hay, hsign]
        rfl
      · exact State.settled_after hs ((State.settled_iff s).mp hs).1 rfl rfl rfl rfl (by exact id) (by exact id) rfl
          (.inr (State.space_congr rfl rfl rfl rfl rfl rfl))
    case moves =>
      intro pg hfree hpg hmax
      have hstop : ¬edgeStops (s.edgeHeld k d dir).shownEdge (runOffset [keyEntry .key dir]) = true := fun hstop => by
        obtain ⟨n, hn, he⟩ := (State.edgeStops_key _ dir).mp hstop
        exact hfree n hn he
      rw [if_neg hstop, offsetPage_key dir hmax hpg] at hmove
      refine ⟨fun hsame => ?_, fun hnew habsent => ?_, fun n mode hnew hn hready hw hwatch hmode => ?_⟩
      · exact htaken _ (hmove.trans (if_pos hsame)) hstill
      · refine htaken _ (hmove.trans ((if_neg hnew).trans (State.lookUp_absent (by exact habsent) hay))) ?_
        exact State.settled_after hs (State.canTake_of_noTake (.inl (by simp))) rfl rfl rfl rfl (by exact id) (by simp) rfl
          (.inr (State.space_congr rfl rfl rfl rfl rfl rfl))
      · rw [← State.chooseMode_eq] at hmode
        subst hmode
        refine htaken _ (hmove.trans ((if_neg hnew).trans ((State.lookUp_ready (by exact hn) (by exact hready)).trans
          (State.beginTurn_valid (by exact hc) (by exact hw))))) ?_
        exact State.settled_after hs (State.canTake_of_noTake (.inl (by simp))) rfl rfl rfl rfl (by simp) (by simp) rfl
          (.inl hwatch)

end Sys2Proof.Machine

namespace Sys2Proof.Machine

/-! ### How a wake is served (R141) -/

section
variable {s : State}

theorem State.serveWake_idle (h : s.bs.depleting = true ∨ s.bs.power = .run ∨ s.bs.power = .depleted
    ∨ (s.bs.power = .doze ∧ s.bs.ap = .requested)) : s.serveWake = s := by
  unfold State.serveWake
  split
  · rfl
  · next hdep =>
    rcases h.resolve_left hdep with h | h | ⟨h, ha⟩
    · rw [h]
    · rw [h]
    · rw [h]
      exact if_neg (by rw [ha]; decide)

theorem State.serveWake_held (hd : s.bs.depleting = false) (h : s.bs.power = .apStopping ∨ s.bs.power = .enteringDeep) :
    s.serveWake = { s with bs := { s.bs with heldWake := true } } := by
  unfold State.serveWake
  rw [hd, if_neg Bool.false_ne_true]
  rcases h with h | h <;> rw [h]

theorem State.serveWake_doze (hd : s.bs.depleting = false) (h : s.bs.power = .doze) (ha : s.bs.ap = .off) :
    s.serveWake = s.requestAp := by
  unfold State.serveWake
  rw [hd, if_neg Bool.false_ne_true, h]
  exact if_pos ha

theorem State.serveWake_deep (hd : s.bs.depleting = false) (h : s.bs.power = .deep) :
    s.serveWake = s.leaveDeep.requestAp := by
  unfold State.serveWake
  rw [hd, if_neg Bool.false_ne_true, h]

/-- A raise that presents a wake request. -/
theorem State.raise_wakes {src : Source} (d : Detail) (h : ¬s.NoWake src) : s.raise src d = (s.noted src d).serveWake := by
  rw [State.raise_eq, if_neg h]

/-- An AP power-up that does not fit, with no lease to revoke, waits judged (R118). -/
theorem State.judgeAp_short (hf : s.apFits = false) (hl : s.head.active = none) (hn : s.NoWake .noHeadroom) :
    s.judgeAp = { s with
      head := { s.head with apWait := some .judged }
      notices := { s.notices with
        ap := s.notices.ap.modify 18 (fun n => n.raised (.noHeadroom .ap s.head.ap.demand s.head.ceiling)) } } := by
  have hrevoke : s.revokeActive .ap = s := by
    unfold State.revokeActive
    rw [hl]
  unfold State.judgeAp
  rw [hrevoke]
  have hno : ¬s.apFits = true := by rw [hf]; decide
  exact (if_neg hno).trans ((if_neg hno).trans (State.markOut_quiet _ _ hn))

/-- A rebalance with a judged AP power-up that still does not fit gives the light what is left (R117). -/
theorem State.rebalance_judged (ha : s.head.alarm = none) (hw : s.head.apWait = some .judged) (hf : s.apFits = false)
    (hp : s.head.panelWait = none) (hk : s.head.parked = none) : s.rebalance = { s with
      light := s.litBy (min s.head.light.demand (s.head.ceiling - s.head.loads))
      head := { s.head with
        light := { s.head.light with grant := min s.head.light.demand (s.head.ceiling - s.head.loads) } } } := by
  have hlast : s.rebalance = s.lightBeside s.head.loads := by
    simp [State.rebalance, State.alarmed, ha, State.rebalanceAp, hw, hf, State.rebalancePanel, hp, State.rebalanceLease, hk,
      State.rebalanceLight]
  rw [hlast, State.lightBeside_eq]

/-- The AP power-up asked for, short of its judgement (R118, R141). -/
def State.apAsked (s : State) : State := { s with
  bs := { s.bs with ap := .requested, deferTimer := none }
  head := { s.head with ap := { s.head.ap with demand := s.params.apMW } } }

/-- An AP power-up that does not fit, with no lease to revoke and no grant waiting, waits with NO_HEADROOM and leaves the
light what the loads leave (R117, R118). -/
theorem State.requestAp_short (ha : s.head.alarm = none)
    (hf : s.head.ceiling < s.head.panel.grant + s.head.radio.grant + s.params.apMW) (hl : s.head.active = none)
    (hp : s.head.panelWait = none) (hk : s.head.parked = none) (hoff : s.bs.ap ≠ .on) (hn : s.NoWake .noHeadroom) {g : Nat}
    (hg : g = min s.head.light.demand (s.head.ceiling - s.head.loads)) :
    s.requestAp = { s with
      light := s.litBy g
      head := { s.head with
        ap := { s.head.ap with demand := s.params.apMW }, apWait := some .judged, light := ⟨s.head.light.demand, g⟩ }
      notices := { s.notices with
        ap := s.notices.ap.modify 18 (fun n => n.raised (.noHeadroom .ap s.params.apMW s.head.ceiling)) }
      bs := { s.bs with ap := .requested, deferTimer := none } } := by
  have hshort : ¬s.head.panel.grant + s.head.radio.grant + s.params.apMW + 0 ≤ s.head.ceiling := by omega
  have hquiet : s.apAsked.NoWake .noHeadroom := .inr (hn.resolve_left hoff)
  have hjudged := State.judgeAp_short (s := s.apAsked) (decide_eq_false hshort) hl hquiet
  have hcalm : ¬s.alarmed = true := by simp [State.alarmed, ha]
  have hwaits : s.apAsked.judgeAp.head.apWait.isSome = true := by
    rw [hjudged]
    rfl
  have hrequest : s.requestAp = s.apAsked.judgeAp.rebalance := by
    unfold State.requestAp
    rw [if_neg hcalm]
    exact if_pos (Bool.or_eq_true_iff.mpr (.inl hwaits))
  rw [hrequest, hjudged, State.rebalance_judged (by exact ha) rfl (decide_eq_false hshort) (by exact hp) (by exact hk), hg]
  rfl

end

/-! ### A POWER key press (R145) -/

/-- A press serves one wake: what serving it once leaves, serving it again leaves too. -/
theorem State.powerPress_serves {s u : State} (hu : (s.noted .powerKey (.powerKey s.bs.power)).serveWake = u)
    (hagain : u.serveWake = u) : s.powerPress = u := by
  unfold State.powerPress
  by_cases h : s.NoWake .powerKey
  · have hmark : s.mark .powerKey (.powerKey s.bs.power) = s.noted .powerKey (.powerKey s.bs.power) := by
      unfold State.noted
      rw [if_pos h]
      rfl
    rw [State.raise_quiet _ _ h, hmark, hu]
  · rw [State.raise_wakes _ h, hu, hagain]

theorem exec_keyDebounceExpiry_power {s y u : State} {k : Key} {d : Nat} (hd : (s.key k).debounce = some d)
    (hr : s.rawKey k = true) (hroute : s.routeOf k = .power)
    (hy : (s.edgeTaken k d).noted .powerKey (.powerKey s.bs.power) = y) (hu : y.serveWake = u) (hagain : u.serveWake = u) :
    exec (.keyDebounceExpiry k) s = .next (if s.bs.power = .deep then u else u.keyActivity).settle := by
  have hpress : (s.edgeTaken k d).pressAction k = u := by
    unfold State.pressAction
    rw [show (s.edgeTaken k d).routeOf k = .power from hroute]
    exact State.powerPress_serves (by rw [← hu, ← hy]; rfl) hagain
  rw [exec_keyDebounceExpiry hd]
  unfold State.acceptEdge
  dsimp only
  rw [show (s.atTime d).rawKey k = true from hr, if_pos rfl, ← hpress]
  unfold State.edgeTaken
  rw [hr]
  rfl

theorem State.keyActivity_doze {s : State} (h : s.bs.power = .doze) : s.keyActivity = { s with bs := { s.bs with
    deferTimer := none, idleTimer := some (s.now + s.params.dozeIdleMin * 60000) } } := if_pos h

/-- A held wake changes nothing that follows by itself. -/
theorem State.settled_heldWake {s : State} (h : s.Settled) : State.Settled { s with bs := { s.bs with heldWake := true } } := by
  have hspace : State.space { s with bs := { s.bs with heldWake := true } } = s.space :=
    State.space_congr rfl rfl rfl rfl rfl rfl
  rw [State.settled_iff] at h ⊢
  obtain ⟨htake, hdefer, hfade, hrails, hrefresh, hreported, hwatch⟩ := h
  exact ⟨htake, hdefer, hfade, hrails, hrefresh, hreported, by simpa only [State.watchMet, hspace] using hwatch⟩

/-- The accepted POWER key press with its notice, beside what serves its wake. -/
theorem State.edgeTaken_noted {s : State} {k : Key} (d : Nat) (hr : s.rawKey k = true) :
    (s.edgeTaken k d).noted .powerKey (.powerKey s.bs.power) = { s.noted .powerKey (.powerKey s.bs.power) with
      now := max s.now d,
      turn := { s.turn with
        keys := s.turn.keys.set k.val { s.key k with
          pressed := true, edgeTime := (s.key k).candidate.getD (max s.now d), candidate := none, debounce := none } } } := by
  rw [State.edgeTaken, hr]
  rfl

/-- Settles O30: a raise by what its wake meets, then a POWER key press by the power state it meets. -/
theorem wakesAreRequestedAndServed : Obligations.WakesAreRequestedAndServed := by
  refine ⟨⟨fun s y src d hy => ⟨?noWake, fun z hwake hz => ?wakes⟩, ?touch⟩,
    fun s y k d hd hk hr hroute hdep hwatch hy => ⟨?keyHeld, ?keyDoze, ?keyDeep⟩⟩
  case noWake =>
    intro h
    rw [State.raise_quiet src d h, hy]
    rfl
  case touch =>
    intro s hp hp'
    show execTouchIntFall s = _
    unfold execTouchIntFall
    rw [if_pos (by simp [State.keysAwake, hp, hp'])]
    rfl
  case wakes =>
    have hnoted : s.noted src d = z := by
      unfold State.noted
      rw [if_neg hwake, hz, hy]
    have hraise := State.raise_wakes d hwake
    rw [hnoted] at hraise
    rw [hraise]
    have hbs : z.bs = s.bs := by rw [hz, hy]
    have hhead : z.head = s.head := by rw [hz, hy]
    have hparams : z.params = s.params := by rw [hz, hy]
    have hpool : z.pool = s.pool := by rw [hz, hy]
    refine ⟨fun h => ?_, fun h h' => ?_, fun h hp ha => ⟨fun hc hf => ?_, fun hc => ?_⟩, fun h hp hk hm hc hf => ?_⟩
    · exact State.serveWake_idle (by rwa [hbs])
    · rw [State.serveWake_held (by rwa [hbs]) (by rwa [hbs]), hbs]
    · rw [State.serveWake_doze (by rwa [hbs]) (by rwa [hbs]) (by rwa [hbs]),
        State.requestAp_fits (by rwa [hhead]) (by rwa [hhead, hparams])]
    · rw [State.serveWake_doze (by rwa [hbs]) (by rwa [hbs]) (by rwa [hbs]), State.requestAp_alarm (by rwa [hhead])]
    · rw [State.serveWake_deep (by rwa [hbs]) (by rwa [hbs]), State.leaveDeep_plain (by rwa [hbs]) (by rwa [hpool]),
        State.requestAp_fits (by show z.head.alarm = none; rwa [hhead])
          (by show z.head.panel.grant + z.head.radio.grant + z.params.apMW ≤ z.head.ceiling; rwa [hhead, hparams])]
  all_goals
    have hpress : ∀ u, y.serveWake = u → u.serveWake = u →
        exec (.keyDebounceExpiry k) s = .next (if s.bs.power = .deep then u else u.keyActivity).settle := fun u =>
      exec_keyDebounceExpiry_power hd hr hroute (by rw [State.edgeTaken_noted d hr, hy])
    have hbs : y.bs = s.bs := by rw [hy]; rfl
    have hhead : y.head = s.head := by rw [hy]; rfl
    have hparams : y.params = s.params := by rw [hy]; rfl
    have hst : y.staging.watch = none := by rw [hy]; exact hwatch
    have hnow : y.now = max s.now d := by rw [hy]
    have hdep' : y.bs.depleting = false := by rw [hbs]; exact hdep
  case keyHeld =>
    intro hs hp
    have hserve : y.serveWake = { y with bs := { s.bs with heldWake := true } } := by
      rw [State.serveWake_held hdep' (by rwa [hbs]), hbs]
    have hstill : State.Settled { y with bs := { s.bs with heldWake := true } } := by
      rw [hy]
      exact State.settled_after (State.settled_heldWake hs) ((State.settled_iff s).mp hs).1 rfl rfl rfl rfl (by exact id)
        (by exact id) rfl (.inl hwatch)
    have hpower : s.bs.power ≠ .deep ∧ s.bs.power ≠ .doze := by rcases hp with hp | hp <;> simp [hp]
    rw [hpress _ hserve (State.serveWake_held (by exact hdep) (by exact hp)), if_neg hpower.1]
    unfold State.keyActivity
    rw [if_neg (by exact hpower.2), State.settle_of_settled hstill]
  case keyDoze =>
    intro hp hstage hnt
    have hnt' : y.NoTake := by rw [hy]; exact hnt
    have hpower : y.bs.power = .doze := by rwa [hbs]
    have hstage' : y.bs.stage = none := by rwa [hbs]
    have hdeep : ¬s.bs.power = .deep := by rw [hp]; decide
    have hdoze : ∀ u, y.serveWake = u → u.serveWake = u →
        exec (.keyDebounceExpiry k) s = .next u.keyActivity.settle := fun u hu hu' => by
      rw [hpress u hu hu', if_neg hdeep]
    refine ⟨fun ha => ?_, fun ha hc hf => ?_, fun ha hc => ?_, fun g ha hc hf hl hpw hpk hn hg => ?_⟩
    · have hidle : y.serveWake = y := State.serveWake_idle (.inr (.inr (.inr ⟨hpower, by rwa [hbs]⟩)))
      rw [hdoze y hidle hidle, State.keyActivity_doze (by exact hpower),
        State.settle_quiet (by exact ⟨hstage', rfl, hst⟩) (by exact hnt'), hbs, hnow, hparams]
    · have hserve : y.serveWake = y.apUp := by
        rw [State.serveWake_doze hdep' hpower (by rwa [hbs]), State.requestAp_fits (by rwa [hhead]) (by rwa [hhead, hparams])]
      rw [hdoze _ hserve (State.serveWake_idle (.inr (.inl rfl))), State.keyActivity_run rfl,
        State.settle_quiet (by exact ⟨hstage', rfl, hst⟩) (by exact hnt')]
    · have hserve : y.serveWake = y.apWaiting .unjudged := by
        rw [State.serveWake_doze hdep' hpower (by rwa [hbs]), State.requestAp_alarm (by rwa [hhead])]
      rw [hdoze _ hserve (State.serveWake_idle (.inr (.inr (.inr ⟨hpower, rfl⟩)))), State.keyActivity_doze (by exact hpower),
        State.settle_quiet (by exact ⟨hstage', rfl, hst⟩) (by exact hnt')]
      simp only [State.apWaiting, hbs, hnow, hparams]
    · have hserve := State.serveWake_doze hdep' hpower (by rwa [hbs])
      rw [State.requestAp_short (by rwa [hhead]) (by rwa [hhead, hparams]) (by rwa [hhead]) (by rwa [hhead]) (by rwa [hhead])
        (by simp [hbs, ha]) hn (g := g) (by rw [hhead]; exact hg)] at hserve
      rw [hdoze _ hserve (State.serveWake_idle (.inr (.inr (.inr ⟨hpower, rfl⟩)))), State.keyActivity_doze (by exact hpower),
        State.settle_quiet (by exact ⟨hstage', rfl, hst⟩) (by exact hnt')]
      rw [hy]
      rfl
  case keyDeep =>
    intro z hp hoff hstage hm hz
    have hpower : y.bs.power = .deep := by rwa [hbs]
    have hstage' : y.bs.stage = none := by rwa [hbs]
    have hpool : y.pool.mode = .selfRefresh := by rw [hy]; exact hm
    have hdeep : ∀ u, y.serveWake = u → u.serveWake = u → exec (.keyDebounceExpiry k) s = .next u.settle := fun u hu hu' => by
      rw [hpress u hu hu', if_pos hp]
    have hserve := State.serveWake_deep hdep' hpower
    refine ⟨fun hkey hnt hc hf => ?_, fun rk hkey hbusy hlen hc => ?_,
      fun rk n mode hkey hi hq hc hf hbat hsk hn hready hw hmode => ?_⟩
    · have hnt' : y.NoTake := by rw [hy]; exact hnt
      rw [State.leaveDeep_plain (by rwa [hbs]) hpool,
        State.requestAp_fits (by show y.head.alarm = none; rwa [hhead]) (by rw [← hhead, ← hparams] at hf; exact hf),
        ← hz] at hserve
      rw [hdeep _ hserve (State.serveWake_idle (.inr (.inl rfl))),
        State.settle_quiet (by rw [hz]; exact ⟨hstage', rfl, hst⟩) (by rw [hz]; exact hnt')]
    · rw [State.leaveDeep_resume (by rwa [hbs]) hpool (by rw [hy]; exact hlen),
        State.requestAp_alarm (by show y.head.alarm.isSome = true; rwa [hhead])] at hserve
      rw [hdeep _ hserve (State.serveWake_idle (.inr (.inr (.inr ⟨rfl, rfl⟩)))),
        State.settle_quiet (by exact ⟨hstage', rfl, hst⟩) (.inl (by rw [hy]; exact hbusy)), hz, hy]
      rfl
    · rw [State.leaveDeep_resume (by rwa [hbs]) hpool (by rw [hy]; show s.turn.queue.length < 8; simp [hq]),
        State.requestAp_fits (by show y.head.alarm = none; rwa [hhead])
          (by rw [← hhead, ← hparams] at hf; exact hf)] at hserve
      rw [hdeep _ hserve (State.serveWake_idle (.inr (.inl rfl)))]
      have hbat' : y.bs.battery ≠ .critical := by rwa [hbs]
      rw [← State.chooseMode_eq] at hmode
      refine congrArg _ (State.settle_takeHead (State.canTake_idle (by rw [hy]; exact hi) (List.cons_ne_nil _ _) (.inl rfl))
        ?_ ?_)
      · rw [State.takeHead_goto rfl rfl, State.takeGoto_unshown (by exact hbat') (by rw [hy]; exact hsk),
          State.lookUp_ready (n := n) (by rw [hy]; exact hn) (by rw [hy]; exact hready),
          State.beginTurn_valid (by exact hbat') (by rw [hy]; exact hw), hmode, hz, hy]
        rfl
      · exact State.settled_of_quiet (by rw [hz]; exact ⟨hstage', rfl, hst⟩) (.inl (by simp))

end Sys2Proof.Machine

namespace Sys2Proof.Machine

/-! ### A PANEL demand presented (R84, R85, R116, R117, R120) -/

section
variable {s : State} {v : Update}

/-- A rebalance with a PANEL demand that does not fit gives the light what is left (R117). -/
theorem State.rebalance_panelWaits {d : Nat} (ha : s.head.alarm = none) (hp : s.head.apWait = none)
    (hw : s.head.panelWait = some d) (hf : s.panelFits d = false) (hk : s.head.parked = none) : s.rebalance = { s with
      light := s.litBy (min s.head.light.demand (s.head.ceiling - s.head.loads))
      head := { s.head with
        light := { s.head.light with grant := min s.head.light.demand (s.head.ceiling - s.head.loads) } } } := by
  have hlast : s.rebalance = s.lightBeside s.head.loads := by
    simp [State.rebalance, State.alarmed, ha, State.rebalanceAp, hp, hf, State.rebalancePanel, hw, State.rebalanceLease, hk,
      State.rebalanceLight]
  rw [hlast, State.lightBeside_eq]

theorem State.setPhase_eq (ph : Phase) (hv : s.panel.update = some v) :
    s.setPhase ph = { s with panel := { s.panel with update := some { v with phase := ph } } } := by
  unfold State.setPhase
  rw [hv]
  rfl

/-- A demand that does not fit waits, with the engine and under the power wait timer. -/
theorem State.presentPanel_waits (ph : Phase) {d : Nat} (hw : s.NoWaits) (hv : s.panel.update = some v)
    (hf : s.head.ceiling < s.head.ap.grant + s.head.radio.grant + d + min s.head.light.demand s.params.lightFloorMW) :
    s.presentPanel ph d = { s with
      turn := { s.turn with engine := .waitingPower }
      panel := { s.panel with
        waitTimer := some (s.now + s.params.powerWaitS * 1000), update := some { v with phase := ph } }
      light := s.litBy (min s.head.light.demand (s.head.ceiling - s.head.loads))
      head := { s.head with
        panel := ⟨d, s.head.panel.grant⟩, panelWait := some d
        light := ⟨s.head.light.demand, min s.head.light.demand (s.head.ceiling - s.head.loads)⟩ } } := by
  obtain ⟨halarm, hap, -, hpark⟩ := hw
  have hno : decide (s.head.ap.grant + s.head.radio.grant + d + min s.head.light.demand s.params.lightFloorMW
      ≤ s.head.ceiling) = false := decide_eq_false (Nat.not_le.mpr hf)
  unfold State.presentPanel
  dsimp only
  rw [if_neg (by rw [Bool.not_eq_true]; exact hno), State.setPhase_eq (v := v) ph (by exact hv),
    State.rebalance_panelWaits (by exact halarm) (by exact hap) rfl (by exact hno) (by exact hpark)]
  rfl

/-- The light once the PANEL entry holds `d`. -/
def State.lightLeft (s : State) (d : Nat) : Nat :=
  min s.head.light.demand (s.head.ceiling - (s.head.ap.grant + d + s.head.radio.grant))

/-- A rise demand granted: the rails rise (R84). -/
theorem State.grantPanel_rises {d : Nat} (hv : s.panel.update = some v) (hp : v.phase = .riseWait) :
    s.grantPanel d = { s with
      turn := { s.turn with engine := .updating }
      panel := { s.panel with
        rail := .rising, waitTimer := none, riseTimer := some (s.now + s.params.railRiseMs)
        update := some { v with phase := .rising } }
      light := s.litBy (s.lightLeft d)
      head := { s.head with panel := ⟨d, d⟩, panelWait := none, light := ⟨s.head.light.demand, s.lightLeft d⟩ } } := by
  unfold State.grantPanel
  dsimp only
  rw [State.lightBeside_eq]
  unfold State.panelGranted
  dsimp only
  rw [hv]
  dsimp only
  rw [hp]
  rfl

/-- An update demand granted: frame 0 begins (R85). -/
theorem State.grantPanel_drives {d : Nat} (hv : s.panel.update = some v) (hp : v.phase = .driveWait) :
    s.grantPanel d = { s with
      turn := { s.turn with engine := .updating }
      pool := { s.pool with feed := ⟨0, 0, 0, true, false⟩ }
      panel := { s.panel with
        rail := .driving, waitTimer := none
        update := some { v with phase := .driving, frame := 0, frameTimer := some (s.now + 12) } }
      light := s.litBy (s.lightLeft d)
      head := { s.head with panel := ⟨d, d⟩, panelWait := none, light := ⟨s.head.light.demand, s.lightLeft d⟩ } } := by
  unfold State.grantPanel
  dsimp only
  rw [State.lightBeside_eq]
  unfold State.panelGranted
  dsimp only
  rw [hv]
  dsimp only
  rw [hp]
  rfl

/-- A rise demand that fits with no grant waiting. -/
theorem State.presentPanel_rises {r : Nat} (hw : s.NoWaits) (hv : s.panel.update = some v)
    (hf : s.head.ap.grant + s.head.radio.grant + r + min s.head.light.demand s.params.lightFloorMW ≤ s.head.ceiling) :
    s.presentPanel .riseWait r = { s with
      turn := { s.turn with engine := .updating }
      panel := { s.panel with
        rail := .rising, waitTimer := none, riseTimer := some (s.now + s.params.railRiseMs)
        update := some { v with phase := .rising } }
      light := s.litBy (s.lightLeft r)
      head := { s.head with panel := ⟨r, r⟩, light := ⟨s.head.light.demand, s.lightLeft r⟩ } } := by
  have hwait : s.head.panelWait = none := hw.2.2.1
  rw [State.presentPanel_fits _ _ hw (decide_eq_true hf), State.setPhase_eq (v := v) _ (by exact hv),
    State.grantPanel_rises rfl rfl]
  simp only [hwait]
  rfl

/-- An update demand that fits with no grant waiting. -/
theorem State.presentPanel_drives {d : Nat} (hw : s.NoWaits) (hv : s.panel.update = some v)
    (hf : s.head.ap.grant + s.head.radio.grant + d + min s.head.light.demand s.params.lightFloorMW ≤ s.head.ceiling) :
    s.presentPanel .driveWait d = { s with
      turn := { s.turn with engine := .updating }
      pool := { s.pool with feed := ⟨0, 0, 0, true, false⟩ }
      panel := { s.panel with
        rail := .driving, waitTimer := none
        update := some { v with phase := .driving, frame := 0, frameTimer := some (s.now + 12) } }
      light := s.litBy (s.lightLeft d)
      head := { s.head with panel := ⟨d, d⟩, light := ⟨s.head.light.demand, s.lightLeft d⟩ } } := by
  have hwait : s.head.panelWait = none := hw.2.2.1
  rw [State.presentPanel_fits _ _ hw (decide_eq_true hf), State.setPhase_eq (v := v) _ (by exact hv),
    State.grantPanel_drives rfl rfl]
  simp only [hwait]
  rfl

end

/-! ### The ends of planning (R81, R82) -/

section
variable {s : State} {u : Update}

theorem exec_planningEnd (hu : s.panel.update = some u) (hp : u.phase = .planning) (ht : u.tempRead = true)
    (hf : s.feedLeft = false) : exec .planningEnd s = .next (s.endPlanning u).settle := by
  show execPlanningEnd s = _
  unfold execPlanningEnd
  rw [hu]
  exact if_pos ⟨hp, ht, hf⟩

/-- The state with the update's band and plan entered. -/
def State.planned (s : State) (u : Update) : State := { s with
  panel := { s.panel with update := some { u with band := s.panel.band, plan := some (s.planOf u) } } }

theorem State.endPlanning_rails (h : u.mode = .full ∨ (s.planOf u).changed ≠ 0)
    (hl : (s.planOf u).demand ≤ s.params.ceilingMaxMW - s.params.reserveMW) :
    s.endPlanning u = (s.planned u).toRails := by
  have hchange : ¬(u.mode ≠ .full ∧ (s.planOf u).changed = 0) := fun hc => h.elim hc.1 (fun h => h hc.2)
  unfold State.endPlanning
  dsimp only
  rw [if_neg hchange]
  exact if_pos (decide_eq_true hl)

theorem State.toRails_off (h : s.panel.rail = .off) :
    s.toRails = s.presentPanel .riseWait (max 1 s.params.riseMW) := by
  unfold State.toRails
  rw [h]
  rfl

theorem State.toRails_hot {p : Plan} (h : s.panel.rail = .hot) (hu : s.panel.update = some u) (hp : u.plan = some p) :
    s.toRails = s.presentPanel .driveWait p.demand := by
  unfold State.toRails State.presentUpdate
  rw [h, hu, Option.bind_some, hp]

theorem State.toRails_falling (h : s.panel.rail = .falling) : s.toRails = s.setPhase .awaitRails := by
  unfold State.toRails
  rw [h]

theorem State.toRails_rising (h : s.panel.rail = .rising) : s.toRails = s.setPhase .rising := by
  unfold State.toRails
  rw [h]

theorem State.endPlanning_abandons (h : u.mode = .full ∨ (s.planOf u).changed ≠ 0)
    (hl : s.params.ceilingMaxMW - s.params.reserveMW < (s.planOf u).demand) :
    s.endPlanning u = (s.planned u).abandonUpdate := by
  have hchange : ¬(u.mode ≠ .full ∧ (s.planOf u).changed = 0) := fun hc => h.elim hc.1 (fun h => h hc.2)
  unfold State.endPlanning
  dsimp only
  rw [if_neg hchange]
  exact if_neg (by rw [Bool.not_eq_true]; exact decide_eq_false (Nat.not_le.mpr hl))

theorem State.endPlanning_swaps (h : u.mode ≠ .full) (hc : (s.planOf u).changed = 0) :
    s.endPlanning u = s.silentSwap u := if_pos ⟨h, hc⟩

/-- Rails that are HOT with nothing to draw are held, others stay as they are (R82, R87). -/
theorem State.holdIfHot_held (h : s.panel.rail = .hot → 0 < s.params.railHoldMs) : s.holdIfHot = { s with
    panel := { s.panel with
      holdTimer := if s.panel.rail = .hot then some (s.now + s.params.railHoldMs) else s.panel.holdTimer } } := by
  unfold State.holdIfHot
  by_cases hr : s.panel.rail = .hot
  · rw [if_pos hr, if_pos hr, State.startHold_held (h hr)]
  · rw [if_neg hr, if_neg hr]

/-- HOT rails that may not be held fall at once under the hot demand (R83, R87). -/
theorem State.holdIfHot_falls {h g : Nat} (hr : s.panel.rail = .hot) (h0 : s.params.railHoldMs = 0) (hw : s.NoWaits)
    (hh : h = min (max 1 s.params.hotMW) s.head.panel.grant) (hg : g = s.lightLeft h) : s.holdIfHot = { s with
      light := s.litBy g
      head := { s.head with panel := ⟨h, h⟩, light := ⟨s.head.light.demand, g⟩ }
      panel := { s.panel with
        rail := .falling, riseTimer := none, holdTimer := none
        fallTimer := some (s.now + s.params.railFallMs) } } := by
  unfold State.holdIfHot State.startHold State.railsFall
  rw [if_pos hr, if_pos h0, State.presentHot_eq (by exact hw) (by exact hh) (by exact hg)]
  rfl

/-- A reader's turn abandoned for want of headroom (R62, R82). -/
theorem State.turnEnded_abandoned {x : Turn} (h : s.turn.turn = some x) (hp : x.purpose = none) (ha : s.bs.ap = .on) :
    s.turnEnded .abandoned = { s with
      turn := { s.turn with turn := none, engine := s.restEngine }
      notices := { s.notices with
        ap := s.notices.ap.modify 14 (fun n => n.raised (.turnAbandoned (some x.key) .noHeadroom)) } } := by
  have himage : ¬imagePurpose x.purpose = true := by rw [hp]; decide
  unfold State.turnEnded
  rw [h]
  exact (if_neg himage).trans (State.raise_on _ _ ha)

/-- The target shown without a drive, with its notice, short of what the rails and the engine do (R81). -/
def State.swapped (s : State) (u : Update) (k : PageKey) : State := { s with
  notices := { s.notices with ap := s.notices.ap.modify 17 (fun n => n.raised (.updateDone k u.mode)) }
  slots := { s.slots with
    slots := s.slots.slots.set u.target { s.slot u.target with age := s.slots.use }
    use := min 4294967295 (s.slots.use + 1) }
  panel := { s.panel with
    shown := some u.target, shownKey := some k, target := none, update := none
    fidelity := if u.mode = .fast then .twoLevel else .exact } }

theorem State.silentSwap_eq {k : PageKey} (hk : (s.slot u.target).key = some k) (ha : s.bs.ap = .on) :
    s.silentSwap u = (s.swapped u k).holdIfHot.turnEnded .completed := by
  unfold State.silentSwap State.updateDone
  rw [show (s.showTarget u.target (fidelityAfter u.mode) s.panel.ghost).panel.shownKey = some k from hk]
  dsimp only
  rw [State.raise_on _ _ (by exact ha)]
  unfold State.showTarget
  rw [hk]
  rfl

end

/-! ### What the comparison finds (R80) -/

theorem compareRows_changed (os ns : List (List Nat)) (row : Nat) :
    (compareRows row os ns).changed = ((os.zip ns).map (fun x => rowChanges x.1 x.2)).sum := by
  induction os generalizing ns row with
  | nil => rfl
  | cons o os ih =>
    cases ns with
    | nil => rfl
    | cons n ns =>
      have hrest := ih ns (row + 1)
      unfold compareRows
      dsimp only
      rw [List.zip_cons_cons, List.map_cons, List.sum_cons, ← hrest]
      split
      · next hhere => rw [hhere, Nat.zero_add]
      · split
        · next hzero => rw [hzero, Nat.add_zero]
        · rfl

/-- Rows `a` and `b` of a list of row pairs hold a change, and no row before `a` or after `b` does. -/
def ChangedBetween (l : List (List Nat × List Nat)) (a b : Nat) : Prop :=
  (∃ x, l[a]? = some x ∧ rowChanges x.1 x.2 ≠ 0) ∧ (∃ x, l[b]? = some x ∧ rowChanges x.1 x.2 ≠ 0)
    ∧ ∀ r x, l[r]? = some x → r < a ∨ b < r → rowChanges x.1 x.2 = 0

/-- The first and last row of a comparison from row `row` on. -/
theorem compareRows_rows (os ns : List (List Nat)) (row : Nat) (h : (compareRows row os ns).changed ≠ 0) :
    ∃ a b, (compareRows row os ns).firstRow = row + a ∧ (compareRows row os ns).lastRow = row + b
      ∧ ChangedBetween (os.zip ns) a b := by
  induction os generalizing ns row with
  | nil => exact absurd rfl h
  | cons o os ih =>
    cases ns with
    | nil => exact absurd rfl h
    | cons n ns =>
      have hrest := ih ns (row + 1)
      have hsum := compareRows_changed os ns (row + 1)
      unfold compareRows at h ⊢
      dsimp only at h ⊢
      rw [List.zip_cons_cons]
      split at h
      · next hhere =>
        obtain ⟨a, b, ha, hb, ⟨x, hx, hx'⟩, ⟨y, hy, hy'⟩, hout⟩ := hrest h
        rw [if_pos hhere]
        refine ⟨a + 1, b + 1, by omega, by omega, ⟨x, hx, hx'⟩, ⟨y, hy, hy'⟩, fun r z hz hr => ?_⟩
        cases r with
        | zero => cases hz; exact hhere
        | succ r => exact hout r z hz (by omega)
      · next hhere =>
        rw [if_neg hhere]
        split
        · next hzero =>
          refine ⟨0, 0, rfl, rfl, ⟨_, rfl, hhere⟩, ⟨_, rfl, hhere⟩, fun r z hz hr => ?_⟩
          obtain ⟨r, rfl⟩ : ∃ i, r = i + 1 := ⟨r - 1, by omega⟩
          rw [hsum, List.sum_eq_zero_iff] at hzero
          exact hzero _ (List.mem_map_of_mem (List.mem_of_getElem? hz))
        · next hmore =>
          obtain ⟨a, b, -, hb, -, ⟨y, hy, hy'⟩, hout⟩ := hrest hmore
          refine ⟨0, b + 1, rfl, by simp only; omega, ⟨_, rfl, hhere⟩, ⟨y, hy, hy'⟩, fun r z hz hr => ?_⟩
          obtain ⟨r, rfl⟩ : ∃ i, r = i + 1 := ⟨r - 1, by omega⟩
          exact hout r z hz (by omega)

/-- What planning compares of a level, quantized or not (R80). -/
def planLevel (quantized : Bool) (v : Nat) : Nat := if quantized then quantize v else v

theorem planRows_eq (q : Bool) (rows : List (List Nat)) : planRows q rows = rows.map (fun r => r.map (planLevel q)) := by
  cases q
  · have hid : planLevel false = id := rfl
    simp [planRows, hid]
  · rfl

theorem rowChanges_map (f g : Nat → Nat) (o n : List Nat) :
    rowChanges (o.map f) (n.map g) = (o.zip n).countP (fun y => decide (f y.1 ≠ g y.2)) := by
  unfold rowChanges
  rw [List.zip_map, List.countP_map]
  refine List.countP_congr fun y _ => ?_
  simp [bne_iff_ne]

/-- A row holds no change where the pairs of its levels are equal as planning compares them. -/
theorem rowChanges_eq_zero {f g : Nat → Nat} {o n : List Nat} :
    rowChanges (o.map f) (n.map g) = 0 ↔ ∀ y ∈ o.zip n, f y.1 = g y.2 := by
  rw [rowChanges_map, List.countP_eq_zero]
  simp

/-- A row pair that holds a change holds a pair of levels that differ as planning compares them. -/
theorem exists_changed {f g : Nat → Nat} {rows : List (List Nat × List Nat)} {r : Nat}
    (h : ∃ x, (rows.map (fun x => (x.1.map f, x.2.map g)))[r]? = some x ∧ rowChanges x.1 x.2 ≠ 0) :
    ∃ x, rows[r]? = some x ∧ ∃ y ∈ x.1.zip x.2, f y.1 ≠ g y.2 := by
  obtain ⟨z, hz, hne⟩ := h
  rw [List.getElem?_map, Option.map_eq_some_iff] at hz
  obtain ⟨x, hx, rfl⟩ := hz
  rw [Ne, rowChanges_eq_zero] at hne
  push Not at hne
  exact ⟨x, hx, hne⟩

/-- The compared rows, before and after their levels are put as planning compares them. -/
theorem zip_planRows (p q : Bool) (os ns : List (List Nat)) : (planRows p os).zip (planRows q ns)
    = (os.zip ns).map (fun x => (x.1.map (planLevel p), x.2.map (planLevel q))) := by
  rw [planRows_eq, planRows_eq, List.zip_map]
  rfl

/-- The figures of a plan made by comparison (R79, R80). -/
theorem State.planOf_compared {s : State} {u : Update} {n : Nat} (hm : u.mode ≠ .full) (hn : s.panel.shown = some n) :
    let c := compareRows 0 (planRows (decide (s.panel.fidelity = .twoLevel)) (imageRows (s.imageOf n)))
      (planRows (decide (u.mode = .fast)) (imageRows (s.imageOf u.target)))
    (s.planOf u).frames = s.pool.mem.frameCount (waveNumber u.mode (s.panel.band.getD 2)) ∧ (s.planOf u).changed = c.changed
      ∧ (s.planOf u).firstRow = c.firstRow ∧ (s.planOf u).lastRow = c.lastRow := by
  have hc : s.compareImages u = compareRows 0 (planRows (decide (s.panel.fidelity = .twoLevel)) (imageRows (s.imageOf n)))
      (planRows (decide (u.mode = .fast)) (imageRows (s.imageOf u.target))) := by
    unfold State.compareImages
    rw [hn]
  unfold State.planOf
  dsimp only
  rw [if_neg hm, hc]
  exact ⟨rfl, rfl, rfl, rfl⟩

/-- The changed pixels of a plan made by comparison: those whose levels differ as planning compares them (R80). -/
theorem State.planOf_changed {s : State} {u : Update} {n : Nat} (hm : u.mode ≠ .full) (hn : s.panel.shown = some n) :
    (s.planOf u).changed = (((imageRows (s.imageOf n)).zip (imageRows (s.imageOf u.target))).map (fun x =>
      (x.1.zip x.2).countP (fun y => decide (planLevel (decide (s.panel.fidelity = .twoLevel)) y.1
        ≠ planLevel (decide (u.mode = .fast)) y.2)))).sum := by
  rw [(State.planOf_compared hm hn).2.1, compareRows_changed, zip_planRows, List.map_map]
  exact congrArg List.sum (List.map_congr_left fun x _ => rowChanges_map _ _ x.1 x.2)

/-- The first and last rows of a plan made by comparison hold a changed pixel, and no row outside them does (R80). -/
theorem State.planOf_rows {s : State} {u : Update} {n : Nat} (hm : u.mode ≠ .full) (hn : s.panel.shown = some n)
    (hne : (s.planOf u).changed ≠ 0) :
    let rows := (imageRows (s.imageOf n)).zip (imageRows (s.imageOf u.target))
    let old := planLevel (decide (s.panel.fidelity = .twoLevel))
    let new := planLevel (decide (u.mode = .fast))
    (∃ x, rows[(s.planOf u).firstRow]? = some x ∧ ∃ y ∈ x.1.zip x.2, old y.1 ≠ new y.2)
      ∧ (∃ x, rows[(s.planOf u).lastRow]? = some x ∧ ∃ y ∈ x.1.zip x.2, old y.1 ≠ new y.2)
      ∧ ∀ r x, rows[r]? = some x → r < (s.planOf u).firstRow ∨ (s.planOf u).lastRow < r →
          ∀ y ∈ x.1.zip x.2, old y.1 = new y.2 := by
  obtain ⟨-, hcount, hfirstRow, hlastRow⟩ := State.planOf_compared (s := s) hm hn
  rw [hcount] at hne
  obtain ⟨a, b, ha, hb, hchanged⟩ := compareRows_rows _ _ 0 hne
  rw [← hfirstRow, Nat.zero_add] at ha
  rw [← hlastRow, Nat.zero_add] at hb
  rw [zip_planRows] at hchanged
  obtain ⟨hfirst, hlast, hout⟩ := hchanged
  rw [ha, hb]
  exact ⟨exists_changed hfirst, exists_changed hlast, fun r x hx hr =>
    rowChanges_eq_zero.mp (hout r _ (by rw [List.getElem?_map, hx]; rfl) hr)⟩

/-! ### An AP power-up that waits as a drive begins (R117, R120) -/

section
variable {s : State}

theorem State.lightBeside_same {n : Nat} (h : s.head.light.grant = min s.head.light.demand (s.head.ceiling - n)) :
    s.lightBeside n = s := by
  rw [State.lightBeside_eq, ← h]
  simp [State.litBy]

/-- A rebalance grants a judged AP power-up that fits by now, and the light gets what is left (R117, R118). -/
theorem State.rebalance_grantsAp (ha : s.head.alarm = none) (hw : s.head.apWait = some .judged)
    (hd : s.head.ap.demand = s.params.apMW) (hf : s.head.panel.grant + s.head.radio.grant + s.params.apMW ≤ s.head.ceiling)
    (hp : s.head.panelWait = none) (hk : s.head.parked = none) (ht : s.bs.deferTimer = none) : s.rebalance = s.apUp := by
  have hfits : s.apFits = true := by
    refine decide_eq_true ?_
    rw [hd]
    exact hf
  have hap : s.rebalanceAp = s.apUp := by
    have hjudge : s.judgeAp = s.grantAp := if_pos hfits
    unfold State.rebalanceAp
    rw [hw]
    dsimp only
    rw [if_pos hfits, ← hjudge, State.judgeAp_fits hfits, hd]
    simp only [State.apUp, ht]
  have hpanel : s.apUp.rebalancePanel = s.apUp := by
    unfold State.rebalancePanel
    rw [show s.apUp.head.panelWait = none from hp]
  have hlease : s.apUp.rebalanceLease = s.apUp := by
    unfold State.rebalanceLease
    rw [show s.apUp.head.parked = none from hk]
  have hlight : s.apUp.rebalanceLight = s.apUp := by
    unfold State.rebalanceLight
    exact State.lightBeside_same rfl
  have hcalm : ¬s.alarmed = true := by simp [State.alarmed, ha]
  unfold State.rebalance
  rw [if_neg hcalm, hap, hpanel, hlease, hlight]

/-- A rebalance that finds the light at what the loads leave changes nothing beside a judged AP power-up that does not
fit. -/
theorem State.rebalance_keepsAp (ha : s.head.alarm = none) (hw : s.head.apWait = some .judged)
    (hf : s.apFits = false) (hp : s.head.panelWait = none) (hk : s.head.parked = none)
    (hg : s.head.light.grant = min s.head.light.demand (s.head.ceiling - s.head.loads)) : s.rebalance = s := by
  rw [State.rebalance_judged ha hw hf hp hk, ← hg]
  simp [State.litBy]

/-- An update demand below the grant it replaces begins the drive, and a rebalance follows. -/
theorem State.presentPanel_lowers {d : Nat} {v : Update} (hv : s.panel.update = some v) (hw : s.head.panelWait = none)
    (hd : d < s.head.panel.grant)
    (hf : s.head.ap.grant + s.head.radio.grant + d + min s.head.light.demand s.params.lightFloorMW ≤ s.head.ceiling) :
    s.presentPanel .driveWait d = State.rebalance { s with
      turn := { s.turn with engine := .updating }
      pool := { s.pool with feed := ⟨0, 0, 0, true, false⟩ }
      panel := { s.panel with
        rail := .driving, waitTimer := none
        update := some { v with phase := .driving, frame := 0, frameTimer := some (s.now + 12) } }
      light := s.litBy (s.lightLeft d)
      head := { s.head with panel := ⟨d, d⟩, light := ⟨s.head.light.demand, s.lightLeft d⟩ } } := by
  unfold State.presentPanel
  dsimp only
  rw [if_pos (by exact decide_eq_true hf), if_pos hd, State.setPhase_eq (v := v) _ (by exact hv),
    State.grantPanel_drives rfl rfl]
  simp only [hw]
  rfl

end

/-- Settles O34: the plan's figures and the rail state it meets, the comparison it rests on, rails that may not be held, and
an AP power-up that waits. -/
theorem planningEndGoesToRailsOrEnds : Obligations.PlanningEndGoesToRailsOrEnds := by
  refine ⟨?figures, ?comparison, ?falls, ?apWaits⟩
  case figures =>
    intro s u v x p r o hu hphase htemp hfeed hq ha hw hqueue hx hpurpose hp hv hr ho
    have hexec := exec_planningEnd hu hphase htemp hfeed
    have hplanned : (s.planned u).panel.update = some v := by rw [hv, hp]; rfl
    refine ⟨fun hm => ?full, by rw [hp]; rfl, by rw [hp]; rfl, fun hc hl => ?rails, fun hc hl hheld => ?abandons,
      fun k hm hc hk hheld => ?swaps⟩
    case full =>
      rw [hp]
      unfold State.planOf
      dsimp only
      rw [if_pos hm]
      exact ⟨rfl, rfl, rfl⟩
    case rails =>
      subst hv hr ho
      rw [hp] at hc hl
      rw [hexec, State.endPlanning_rails hc hl]
      refine ⟨fun hrail hf => ?_, fun hrail hf => ?_, fun hrail hf => ?_, fun hrail hf => ?_, fun hrail => ?_, fun hrail => ?_⟩
      · rw [State.toRails_off (by exact hrail), State.presentPanel_rises (by exact hw) hplanned (by exact hf),
          State.settle_quiet (by exact hq) (.inr (by exact hqueue))]
        rfl
      · rw [State.toRails_off (by exact hrail), State.presentPanel_waits _ (by exact hw) hplanned (by exact hf),
          State.settle_quiet (by exact hq) (.inr (by exact hqueue))]
        rfl
      · rw [State.toRails_hot (by exact hrail) hplanned rfl, State.presentPanel_drives (by exact hw) hplanned (by exact hf),
          State.settle_quiet (by exact hq) (.inr (by exact hqueue))]
        rfl
      · rw [State.toRails_hot (by exact hrail) hplanned rfl, State.presentPanel_waits _ (by exact hw) hplanned (by exact hf),
          State.settle_quiet (by exact hq) (.inr (by exact hqueue))]
        rfl
      · rw [State.toRails_falling (by exact hrail), State.setPhase_eq _ hplanned,
          State.settle_quiet (by exact hq) (.inr (by exact hqueue))]
        rfl
      · rw [State.toRails_rising (by exact hrail), State.setPhase_eq _ hplanned,
          State.settle_quiet (by exact hq) (.inr (by exact hqueue))]
        rfl
    case abandons =>
      rw [hp] at hc hl
      have hdropped : (s.planned u).dropUpdate.holdIfHot = _ := State.holdIfHot_held (by exact hheld)
      rw [hexec, State.endPlanning_abandons hc hl, State.abandonUpdate, hdropped,
        State.turnEnded_abandoned (by exact hx) hpurpose (by exact ha), State.restEngine_calm (by exact hw.1),
        State.settle_quiet (by exact hq) (.inr (by exact hqueue))]
      rfl
    case swaps =>
      rw [hp] at hc
      rw [hexec, State.endPlanning_swaps hm hc, State.silentSwap_eq hk ha, State.holdIfHot_held (by exact hheld),
        State.turnEnded_reader (by exact hx) hpurpose (.inl rfl), State.restEngine_calm (by exact hw.1),
        State.refill_settle (by exact ha) (by exact hq) (.inr (by exact hqueue))]
      rfl
  case comparison =>
    intro s u n b rows old new p hm hn hb hrows hold hnew hp
    have hold' : old = planLevel (decide (s.panel.fidelity = .twoLevel)) := funext fun v => by
      rw [hold v, planLevel, ← if_congr (decide_eq_true_iff (p := s.panel.fidelity = .twoLevel)) rfl rfl]
      rfl
    have hnew' : new = planLevel (decide (u.mode = .fast)) := funext fun v => by
      rw [hnew v, planLevel, ← if_congr (decide_eq_true_iff (p := u.mode = .fast)) rfl rfl]
      rfl
    subst hold' hnew' hrows hp
    refine ⟨State.planOf_changed hm hn, ?_, State.planOf_rows hm hn⟩
    rw [(State.planOf_compared (s := s) hm hn).1, hb]
    cases hmode : u.mode
    case full => exact absurd hmode hm
    all_goals rfl
  case falls =>
    intro s f u x h g hu hphase htemp hfeed hq ha hw hqueue hx hpurpose hrail h0 hh hg hf
    have hexec := exec_planningEnd hu hphase htemp hfeed
    refine ⟨fun hc hl => ?_, fun k hm hc hk => ?_⟩
    · have hdropped : (s.planned u).dropUpdate.holdIfHot = _ :=
        State.holdIfHot_falls (by exact hrail) (by exact h0) (by exact hw) (by exact hh) (by exact hg)
      rw [hexec, State.endPlanning_abandons hc hl, State.abandonUpdate, hdropped,
        State.turnEnded_abandoned (by exact hx) hpurpose (by exact ha), State.restEngine_calm (by exact hw.1),
        State.settle_quiet (by exact hq) (.inr (by exact hqueue)), hf]
      rfl
    · rw [hexec, State.endPlanning_swaps hm hc, State.silentSwap_eq hk ha,
        State.holdIfHot_falls (by exact hrail) (by exact h0) (by exact hw) (by exact hh) (by exact hg),
        State.turnEnded_reader (by exact hx) hpurpose (.inl rfl), State.restEngine_calm (by exact hw.1),
        State.refill_settle (by exact ha) (by exact hq) (.inr (by exact hqueue)), hf]
      rfl
  case apWaits =>
    intro s y u v p g hu hphase htemp hfeed hq halarm hpw hpark haw hdemand hrail hp hv hc hl hlow hf hg hy
    subst hg
    have hplanned : (s.planned u).panel.update = some v := by rw [hv, hp]; rfl
    have hplan : v.plan = some p := by rw [hv]
    have hbegins : exec .planningEnd s = .next y.rebalance.settle := by
      rw [hp] at hc hl
      rw [exec_planningEnd hu hphase htemp hfeed, State.endPlanning_rails hc hl,
        State.toRails_hot (by exact hrail) hplanned hplan,
        State.presentPanel_lowers hplanned (by exact hpw) (by exact hlow) (by exact hf), hy]
      rfl
    rw [hbegins]
    refine ⟨fun hfit => ?_, fun hshort => ?_⟩
    · rw [State.rebalance_grantsAp (by rw [hy]; exact halarm) (by rw [hy]; exact haw) (by rw [hy]; exact hdemand)
        (by rw [hy]; exact hfit) (by rw [hy]; exact hpw) (by rw [hy]; exact hpark) (by rw [hy]; exact hq.2.1),
        State.settle_quiet (by rw [hy]; exact ⟨hq.1, rfl, hq.2.2⟩) (.inl (by rw [hy]; simp [State.apUp]))]
    · have hno : y.apFits = false := by
        rw [hy]
        refine decide_eq_false ?_
        show ¬p.demand + s.head.radio.grant + s.head.ap.demand + 0 ≤ s.head.ceiling
        rw [hdemand]
        omega
      rw [State.rebalance_keepsAp (by rw [hy]; exact halarm) (by rw [hy]; exact haw) hno (by rw [hy]; exact hpw)
        (by rw [hy]; exact hpark) (by rw [hy]; rfl), State.settle_quiet (by rw [hy]; exact hq) (.inl (by rw [hy]; simp))]

end Sys2Proof.Machine

namespace Sys2Proof.Machine

/-! ### The figures of a sample (R114, R134 to R137) -/

/-- The figures a sample leaves: the capped power, the charge and its remainder, the percent, the charger and battery
states. -/
structure SampleFigures where
  capped : Nat
  q : Nat
  r : Int
  pct : Nat
  charger : Charger
  battery : Battery

/-- What a sample read in state `s` makes of them. -/
def State.figures (s : State) (x : Sample) : SampleFigures :=
  let capped := min (rawPower x.v x.i s.params.resrMOhm s.params.vcutMV) s.params.ceilingMaxMW
  let c := countCharge s.bs.q (s.bs.r + x.i * s.sampleInterval) s.params.capacityMAh
  let pct := percentOf c.1 s.params.capacityMAh
  let ch := chargerState s.pins.chgPresent s.pins.chgDone x.i
  ⟨capped, c.1, c.2, pct, ch, s.bs.battery.next s.params pct capped (decide (ch ≠ .absent))⟩

/-- The figures as R114 and R134 to R137 compute them. -/
theorem State.figures_eq {s : State} {x : Sample} {voc imax capped pct q : Nat} {k r r' : Int} {ch : Charger} {nb : Battery}
    (hvoc : voc = x.v + (if x.i < 0 then x.i.natAbs else 0) * s.params.resrMOhm / 1000)
    (himax : imax = if voc ≤ s.params.vcutMV then 0 else (voc - s.params.vcutMV) * 1000 / s.params.resrMOhm)
    (hcapped : capped = min (imax * s.params.vcutMV / 1000) s.params.ceilingMaxMW)
    (hr : r = s.bs.r + x.i * (if s.bs.power = .deep then 4000 else 250)) (hk : k = Int.tdiv r 3600000)
    (hq : (q, r') = if (s.params.capacityMAh : Int) < s.bs.q + k then (s.params.capacityMAh, 0)
      else if (s.bs.q : Int) + k < 0 then (0, 0) else (((s.bs.q : Int) + k).toNat, r - k * 3600000))
    (hpct : pct = q * 100 / s.params.capacityMAh)
    (hch : ch = if s.pins.chgPresent = true ∧ s.pins.chgDone = true then .done
      else if 20 < x.i then .charging else .absent)
    (hnb : nb = s.bs.battery.next s.params pct capped (decide (ch ≠ .absent))) :
    s.figures x = ⟨capped, q, r', pct, ch, nb⟩ := by
  have hdrop : (-x.i).toNat = if x.i < 0 then x.i.natAbs else 0 := by
    split <;> omega
  have hcap : min (rawPower x.v x.i s.params.resrMOhm s.params.vcutMV) s.params.ceilingMaxMW = capped := by
    rw [hcapped, himax, hvoc, ← hdrop]
    rfl
  have hcount : countCharge s.bs.q (s.bs.r + x.i * s.sampleInterval) s.params.capacityMAh = (q, r') := by
    rw [hq, hk, hr]
    rfl
  have hcharger : chargerState s.pins.chgPresent s.pins.chgDone x.i = ch := by
    rw [hch]
    unfold chargerState
    exact if_congr (Bool.and_eq_true _ _ ▸ Iff.rfl) rfl rfl
  unfold State.figures
  dsimp only
  rw [hcap, hcount, hcharger, hnb, hpct]
  rfl

/-- A state with a sample's figures stored, its battery state judged and the notices that go with it (R134 to R138). -/
def State.withFigures (w : State) (x : Sample) (f : SampleFigures) : State := { w with
  bs := { w.bs with
    lastV := x.v, lastI := x.i, q := f.q, r := f.r, percent := f.pct, charger := f.charger, battery := f.battery
    graceTimer := if f.battery = w.bs.battery then w.bs.graceTimer
      else if f.battery = .critical then some (w.now + w.params.critGraceS * 1000) else none }
  notices := { w.notices with
    ap := if f.battery = w.bs.battery ∨ f.battery = .normal then w.notices.ap
      else if f.battery = .low then w.notices.ap.modify 6 (fun n => n.raised (.batteryLow f.pct f.q))
      else w.notices.ap.modify 7 (fun n => n.raised
        (.batteryCritical f.pct (if f.capped = 0 then .headroom else .percent) w.params.critGraceS)) } }

/-- The battery state judged, where its notice presents no wake request (R136, R138). -/
theorem State.judge_quiet {t : State} {b : Battery} (hb : t.judged = b)
    (hq : b ≠ t.bs.battery → b ≠ .normal → t.NoWake (if b = .low then .batteryLow else .batteryCritical)) :
    t.judge = { t with
      bs := { t.bs with
        battery := b
        graceTimer := if b = t.bs.battery then t.bs.graceTimer
          else if b = .critical then some (t.now + t.params.critGraceS * 1000) else none }
      notices := { t.notices with
        ap := if b = t.bs.battery ∨ b = .normal then t.notices.ap
          else if b = .low then t.notices.ap.modify 6 (fun n => n.raised (.batteryLow t.bs.percent t.bs.q))
          else t.notices.ap.modify 7 (fun n => n.raised
            (.batteryCritical t.bs.percent (if t.head.capped = 0 then .headroom else .percent) t.params.critGraceS)) } } := by
  unfold State.judge
  rw [hb]
  by_cases hsame : b = t.bs.battery
  · subst hsame
    simp
  · rw [if_neg hsame, if_neg hsame]
    cases b with
    | normal => simp
    | low =>
      have hquiet := hq hsame (by decide)
      have hchanged : ¬(Battery.low = t.bs.battery ∨ Battery.low = .normal) := by simp [hsame]
      dsimp only
      rw [State.raise_quiet _ _ (by exact hquiet), if_neg hchanged]
      rfl
    | critical =>
      have hquiet := hq hsame (by decide)
      have hchanged : ¬(Battery.critical = t.bs.battery ∨ Battery.critical = .normal) := by simp [hsame]
      dsimp only
      rw [State.raise_quiet _ _ (by exact hquiet), if_neg hchanged]
      rfl

theorem State.judged_eq (t : State) :
    t.judged = t.bs.battery.next t.params t.bs.percent t.head.capped t.onCharge := by
  unfold State.judged Battery.next
  cases t.bs.battery <;> simp

/-- A sample whose arbiter part leaves `w`. -/
theorem State.sample_eq {s w : State} {x : Sample} {f : SampleFigures} (hw : s.arbiterSample x = w) (hf : s.figures x = f)
    (hq : w.bs.q = s.bs.q) (hr : w.bs.r = s.bs.r) (hb : w.bs.battery = s.bs.battery) (hparams : w.params = s.params)
    (hpins : w.pins = s.pins) (hcap : w.head.capped = f.capped)
    (hquiet : f.battery ≠ w.bs.battery → f.battery ≠ .normal →
      w.NoWake (if f.battery = .low then .batteryLow else .batteryCritical)) : s.sample x = w.withFigures x f := by
  subst hf
  have hcontrol : w.controllerSample x s.sampleInterval = { w with bs := { w.bs with
      lastV := x.v, lastI := x.i, q := (s.figures x).q, r := (s.figures x).r, percent := (s.figures x).pct
      charger := (s.figures x).charger } } := by
    unfold State.controllerSample
    rw [hq, hr, hparams, hpins]
    rfl
  have hjudged : (w.controllerSample x s.sampleInterval).judged = (s.figures x).battery := by
    rw [hcontrol, State.judged_eq]
    dsimp only
    rw [hb, hparams, hcap]
    rfl
  unfold State.sample
  rw [hw, State.judge_quiet hjudged (by rw [hcontrol]; exact hquiet), hcontrol]
  rw [State.withFigures, ← hcap]

/-! ### The power alarm raised by a sample (R127) -/

/-- The arbiter and the light unit as a sample raises the power alarm (R108, R114, R127). -/
def State.alarmSet (s : State) (x : Sample) (capped : Nat) (c : AlarmCause) : State := { s with
  head := { s.head with
    v := x.v, i := x.i, capped := capped, ceiling := capped - s.params.reserveMW, vcut := s.params.vcutMV,
    light := ⟨0, 0⟩, alarm := some c, clearTimer := none }
  light := { s.light with
    duty := ⟨0, 0, s.light.duty.gap⟩, buffer := none, applied := 0, rampTimer := none, total := 0,
    alarmHold := true, capped := false } }

section
variable {s : State} {x : Sample} {c : AlarmCause}

theorem State.alarmLeases_none (hl : s.head.active = none) (hk : s.head.parked = none) : s.alarmLeases = s := by
  unfold State.alarmLeases
  rw [hl, hk]
  dsimp only
  rw [← hk]

/-- A sample that meets a cause of the alarm, with no lease to revoke. -/
theorem State.arbiterSample_raises {f : SampleFigures} (hf : s.figures x = f) (hs : s.head.sampled = true)
    (ha : s.head.alarm = none) (hl : s.head.active = none) (hk : s.head.parked = none)
    (hc : x.v < s.params.vcutMV ∧ c = .voltage
      ∨ s.params.vcutMV ≤ x.v ∧ f.capped - s.params.reserveMW < s.head.loads ∧ c = .ceiling) :
    s.arbiterSample x = ((s.alarmSet x f.capped c).turnAlarm.panelAlarm).raise .powerAlarm
      (.powerAlarm c x.v (f.capped - s.params.reserveMW)) := by
  subst hf
  have hfirst : (s.storeCeiling x).firstGrant = s.storeCeiling x := if_pos hs
  have hcalm : ¬(s.storeCeiling x).alarmed = true := by
    show ¬s.head.alarm.isSome = true
    rw [ha]
    decide
  have hshed : (s.storeCeiling x).shedLease = s.storeCeiling x := by
    unfold State.shedLease State.revokeActive
    rw [show (s.storeCeiling x).head.active = none from hl]
    exact ite_self _
  have hset : ∀ c, (s.storeCeiling x).alarmRaise c
      = ((s.alarmSet x (s.figures x).capped c).turnAlarm.panelAlarm).raise .powerAlarm
        (.powerAlarm c x.v ((s.figures x).capped - s.params.reserveMW)) := fun c => by
    unfold State.alarmRaise
    dsimp only
    rw [State.alarmLeases_none (by exact hl) (by exact hk)]
    rfl
  unfold State.arbiterSample
  rw [hfirst]
  dsimp only
  rw [if_neg hcalm, hshed]
  rcases hc with ⟨hv, rfl⟩ | ⟨hv, hload, rfl⟩
  · exact (if_pos hv).trans (hset _)
  · exact (if_neg (Nat.not_lt.mpr hv)).trans ((if_pos hload).trans (hset _))

/-- A sample outside DEPLETED, whose end finds the engine busy or HALTED in a quiet state. -/
theorem exec_batterySample {w : State} {f : SampleFigures} (hp : s.bs.power ≠ .depleted) (hw : s.sample x = w.withFigures x f)
    (hq : w.Quiet) (he : w.turn.engine ≠ .idle) : exec (.batterySample x) s = .next (w.withFigures x f) := by
  show execBatterySample x s = _
  unfold execBatterySample
  rw [if_neg hp, hw, State.settle_quiet (by exact hq) (.inl (by exact he))]

/-- Once a source above the wake threshold is pending no other raise presents a wake request (R172). -/
theorem State.noWake_after {t : State} {src : Source} {d : Detail} (h : ¬s.NoWake src)
    (hn : t.notices.ap = s.notices.ap.modify src.idx (fun n => n.raised d)) (hp : t.params = s.params) (i : Source) :
    t.NoWake i := by
  obtain ⟨-, hlevel, -⟩ : s.bs.ap ≠ .on
      ∧ ¬(s.notices.ap[src.idx]?).all (fun n => decide (n.level ≤ s.params.wakeThreshold)) = true
      ∧ ¬∃ n ∈ s.notices.ap, n.pending = true ∧ s.params.wakeThreshold < n.level := by
    simpa only [State.NoWake, not_or] using h
  cases hx : s.notices.ap[src.idx]? with
  | none => exact absurd (by rw [hx]; rfl) hlevel
  | some n =>
    rw [hx, Option.all_some, decide_eq_true_eq, Nat.not_le] at hlevel
    refine .inr (.inr ⟨n.raised d, ?_, rfl, by rw [hp]; exact hlevel⟩)
    rw [hn]
    exact List.mem_of_getElem? (i := src.idx) (by rw [List.getElem?_modify, hx]; simp)

/-! ### The alarm at the engine and at the panel drive (R64, R91, R92) -/

/-- What the alarm makes of the rails `rl`, the PANEL entry `pg` and the timers of the rise, the hold and the fall (R83, R92):
rails that are up fall, others stay. -/
def State.RailsDrop (s : State) (rl : Rail) (pg : Allot) (rt ht ft : Option Nat) : Prop :=
  (s.panel.rail = .rising ∨ s.panel.rail = .hot) ∧ rl = .falling
      ∧ pg.demand = min (max 1 s.params.hotMW) s.head.panel.grant ∧ pg.grant = pg.demand
      ∧ rt = none ∧ ht = none ∧ ft = some (s.now + s.params.railFallMs)
    ∨ (s.panel.rail = .falling ∨ s.panel.rail = .off) ∧ rl = s.panel.rail
      ∧ pg.demand = s.head.panel.grant ∧ pg.grant = s.head.panel.grant
      ∧ rt = s.panel.riseTimer ∧ ht = s.panel.holdTimer ∧ ft = s.panel.fallTimer

/-- The hot demand presented under an alarm that has put the light out (R83, R117). -/
theorem State.presentHot_dark (ha : s.head.alarm = some c) (hl : s.head.light = ⟨0, 0⟩) : s.presentHot = { s with
    head := { s.head with
      panel := ⟨min (max 1 s.params.hotMW) s.head.panel.grant, min (max 1 s.params.hotMW) s.head.panel.grant⟩ } } := by
  have hlight : (⟨s.head.light.demand, 0⟩ : Allot) = s.head.light := by rw [hl]
  have hdark : s.litBy 0 = s.light := by
    unfold State.litBy
    exact if_pos (by rw [hl])
  rw [State.presentHot_alarm ha rfl, hdark, hlight]

theorem State.dropRails_stay (h : s.panel.rail = .falling ∨ s.panel.rail = .off) : s.dropRails = s := by
  unfold State.dropRails
  rcases h with h | h <;> rw [h]

theorem State.dropRails_alarm {rl : Rail} {pg : Allot} {rt ht ft : Option Nat} (ha : s.head.alarm = some c)
    (hl : s.head.light = ⟨0, 0⟩) (hd : s.head.panel.demand = s.head.panel.grant) (h : s.RailsDrop rl pg rt ht ft) :
    s.dropRails = { s with
      panel := { s.panel with rail := rl, riseTimer := rt, holdTimer := ht, fallTimer := ft }
      head := { s.head with panel := pg } } := by
  obtain ⟨demand, grant⟩ := pg
  rcases h with ⟨hrail, rfl, hpd, hpg, rfl, rfl, rfl⟩ | ⟨hrail, rfl, hpd, hpg, rfl, rfl, rfl⟩
  · obtain rfl : demand = min (max 1 s.params.hotMW) s.head.panel.grant := hpd
    obtain rfl : grant = min (max 1 s.params.hotMW) s.head.panel.grant := hpg
    have hfall : s.dropRails = s.railsFall := by
      unfold State.dropRails
      rcases hrail with hrail | hrail <;> rw [hrail]
    rw [hfall, State.railsFall, State.presentHot_dark (by exact ha) (by exact hl)]
    rfl
  · have hpanel : (⟨demand, grant⟩ : Allot) = s.head.panel := by
      obtain rfl : demand = s.head.panel.grant := hpd
      obtain rfl : grant = s.head.panel.grant := hpg
      show (⟨s.head.panel.grant, s.head.panel.grant⟩ : Allot) = ⟨s.head.panel.demand, s.head.panel.grant⟩
      rw [hd]
    rw [State.dropRails_stay hrail, hpanel]

theorem State.turnAlarm_idle (h : s.turn.engine = .idle) :
    s.turnAlarm = { s with turn := { s.turn with engine := .halted } } := by
  unfold State.turnAlarm
  rw [h]

theorem State.turnAlarm_busy (h : s.turn.engine = .updating ∨ s.turn.engine = .waitingPower) : s.turnAlarm = s := by
  unfold State.turnAlarm
  rcases h with h | h <;> rw [h]

/-- A turn put back at the head of the queue with the AP ON (R52, R64). -/
theorem State.putBack_on {key : PageKey} {m : TurnMode} {o : Origin} {p : Option Purpose} {es : List Entry} {l : List Notice}
    (h : PlacedAtHead ⟨o, .goto key, m, p⟩ s.turn.queue s.notices.ap es l) (ha : s.bs.ap = .on) :
    s.putBack key m o p = { s with turn := { s.turn with queue := es }, notices := { s.notices with ap := l } } :=
  State.placeHead_eq h (.inl ha)

/-- The alarm ends a miss wait and puts its turn back (R64). -/
theorem State.turnAlarm_waiting {m : Miss} {es : List Entry} {l : List Notice} (he : s.turn.engine = .waitingPage)
    (hm : s.turn.miss = some m) (h : PlacedAtHead ⟨m.origin, .goto m.key, m.mode, m.purpose⟩ s.turn.queue s.notices.ap es l)
    (ha : s.bs.ap = .on) : s.turnAlarm = { s with
      turn := { s.turn with miss := none, engine := .halted, queue := es }, notices := { s.notices with ap := l } } := by
  unfold State.turnAlarm
  rw [he]
  dsimp only
  rw [hm]
  dsimp only
  rw [State.putBack_on (by exact h) (by exact ha)]

theorem State.panelAlarm_none (h : s.panel.update = none) : s.panelAlarm = s.dropRails := by
  unfold State.panelAlarm
  rw [h]

theorem State.panelAlarm_drives {u : Update} (h : s.panel.update = some u) (hp : u.phase = .driving) :
    s.panelAlarm = { s with panel := { s.panel with update := some { u with stopping := true } } } := by
  unfold State.panelAlarm
  rw [h]
  exact if_pos hp

theorem State.panelAlarm_holds {u : Update} (h : s.panel.update = some u) (hp : u.phase ≠ .driving) :
    s.panelAlarm = (s.withdrawPanel.dropUpdate.dropRails).turnEnded .held := by
  unfold State.panelAlarm
  rw [h]
  exact if_neg hp

/-- A held update's turn goes back to the head of the queue (R64). -/
theorem State.turnEnded_held {t : Turn} {es : List Entry} {l : List Notice} (ht : s.turn.turn = some t)
    (h : PlacedAtHead ⟨t.origin, .goto t.key, t.asked, t.purpose⟩ s.turn.queue s.notices.ap es l) (ha : s.bs.ap = .on) :
    s.turnEnded .held = { s with
      turn := { s.turn with turn := none, engine := .halted, queue := es }, notices := { s.notices with ap := l } } := by
  unfold State.turnEnded
  rw [ht]
  dsimp only
  rw [State.putBack_on (by exact h) (by exact ha)]

end

/-- The alarm meets an IDLE engine, no update and rails that are OFF (R64, R92). -/
theorem State.alarmSet_idle {s : State} {x : Sample} {c : AlarmCause} (n : Nat) (he : s.turn.engine = .idle)
    (hu : s.panel.update = none) (hr : s.panel.rail = .off) : (s.alarmSet x n c).turnAlarm.panelAlarm
      = { s.alarmSet x n c with turn := { s.turn with engine := .halted } } := by
  rw [State.turnAlarm_idle (by exact he), State.panelAlarm_none (by exact hu), State.dropRails_stay (.inr (by exact hr))]
  rfl

section
variable {s : State} {x : Sample} {c : AlarmCause} (n : Nat)

/-- The alarm meets a drive, which stops after its frame (R91). -/
theorem State.alarmSet_drives {u : Update} (he : s.turn.engine = .updating) (hu : s.panel.update = some u)
    (hp : u.phase = .driving) : (s.alarmSet x n c).turnAlarm.panelAlarm
      = { s.alarmSet x n c with panel := { s.panel with update := some { u with stopping := true } } } := by
  rw [State.turnAlarm_busy (.inl (by exact he)), State.panelAlarm_drives (by exact hu) hp]
  rfl

section
variable {rl : Rail} {pg : Allot} {rt ht ft : Option Nat} {es : List Entry} {l : List Notice}

/-- The alarm meets an update that is not yet driving: it is held, and its turn goes back (R64, R92). -/
theorem State.alarmSet_holds {u : Update} {t : Turn} (hr : s.RailsDrop rl pg rt ht ft)
    (hl : PlacedAtHead ⟨t.origin, .goto t.key, t.asked, t.purpose⟩ s.turn.queue s.notices.ap es l) (ha : s.bs.ap = .on)
    (he : s.turn.engine = .updating ∨ s.turn.engine = .waitingPower) (hu : s.panel.update = some u)
    (hp : u.phase ≠ .driving) (ht' : s.turn.turn = some t) :
    (s.alarmSet x n c).turnAlarm.panelAlarm = { s.alarmSet x n c with
      turn := { s.turn with turn := none, engine := .halted, queue := es }
      panel := { s.panel with
        target := none, update := none, waitTimer := none, rail := rl, riseTimer := rt, holdTimer := ht, fallTimer := ft }
      head := { (s.alarmSet x n c).head with panel := pg, panelWait := none }
      notices := { s.notices with ap := l } } := by
  rw [State.turnAlarm_busy (by exact he), State.panelAlarm_holds (by exact hu) hp,
    State.dropRails_alarm (c := c) (rl := rl) (pg := pg) (rt := rt) (ht := ht) (ft := ft) rfl rfl rfl (by exact hr),
    State.turnEnded_held (by exact ht') (by exact hl) (by exact ha)]
  rfl

/-- The alarm meets a miss wait, which ends, and its turn goes back (R64, R92). -/
theorem State.alarmSet_waits {m : Miss} (hr : s.RailsDrop rl pg rt ht ft)
    (hl : PlacedAtHead ⟨m.origin, .goto m.key, m.mode, m.purpose⟩ s.turn.queue s.notices.ap es l) (ha : s.bs.ap = .on)
    (he : s.turn.engine = .waitingPage) (hm : s.turn.miss = some m) (hu : s.panel.update = none)
    (hd : s.head.panel.demand = s.head.panel.grant) :
    (s.alarmSet x n c).turnAlarm.panelAlarm = { s.alarmSet x n c with
      turn := { s.turn with miss := none, engine := .halted, queue := es }
      panel := { s.panel with rail := rl, riseTimer := rt, holdTimer := ht, fallTimer := ft }
      head := { (s.alarmSet x n c).head with panel := pg }
      notices := { s.notices with ap := l } } := by
  rw [State.turnAlarm_waiting (by exact he) (by exact hm) (by exact hl) (by exact ha), State.panelAlarm_none (by exact hu),
    State.dropRails_alarm (c := c) (rl := rl) (pg := pg) (rt := rt) (ht := ht) (ft := ft) rfl rfl (by exact hd)
      (by exact hr)]
  rfl

end

end

/-- The end of a sample whose arbiter part leaves `w`, with the engine busy or HALTED. -/
theorem exec_batterySample_raises {s w : State} {x : Sample} {f : SampleFigures} (hp : s.bs.power ≠ .depleted)
    (hw : s.arbiterSample x = w) (hf : s.figures x = f)
    (hbs : w.bs.q = s.bs.q ∧ w.bs.r = s.bs.r ∧ w.bs.battery = s.bs.battery)
    (hparams : w.params = s.params) (hpins : w.pins = s.pins) (hcap : w.head.capped = f.capped)
    (hquiet : f.battery ≠ s.bs.battery → f.battery ≠ .normal →
      w.NoWake (if f.battery = .low then .batteryLow else .batteryCritical))
    (hq : w.Quiet) (he : w.turn.engine ≠ .idle) : exec (.batterySample x) s = .next (w.withFigures x f) := by
  obtain ⟨hcharge, hrest, hbattery⟩ := hbs
  exact exec_batterySample hp
    (State.sample_eq hw hf hcharge hrest hbattery hparams hpins hcap (by rw [hbattery]; exact hquiet)) hq he

/-- Settles O45: the sample's figures, then the alarm by what the engine and the panel drive are at. -/
theorem lowVoltageSampleRaisesAlarm : Obligations.LowVoltageSampleRaisesAlarm := by
  refine ⟨?idle, ?busy⟩
  case idle =>
    intro s x voc imax capped pct q k r r' ch nb c ap a y hvoc himax hcapped hr hk hq hpct hch hnb hap hpower hquiet hs hcalm
      hcause hu hrail he hl hpark hy hcases
    have hf := State.figures_eq hvoc himax hcapped hr hk hq hpct hch hnb
    have harb := State.arbiterSample_raises hf hs hcalm hl hpark hcause
    rw [State.alarmSet_idle _ he hu hrail] at harb
    have harby : s.arbiterSample x = y := by
      rw [harb]
      rcases hcases with ⟨hwake, -, rfl⟩ | ⟨hwake, hoff, hdep, ⟨hdoze, rfl⟩ | ⟨hdeep, hkey, hmode, rfl⟩⟩
      · rw [State.raise_quiet _ _ (by exact hwake), hy, if_pos hwake, hap]
        rfl
      all_goals
        have hnoted : State.noted { s.alarmSet x capped c with turn := { s.turn with engine := .halted } } .powerAlarm
            (.powerAlarm c x.v (capped - s.params.reserveMW)) = a := by
          rw [hy, hap]
          rfl
        rw [State.raise_wakes _ (by exact hwake), hnoted]
      · exact (State.serveWake_doze (by rw [hy]; exact hdep) (by rw [hy]; exact hdoze) (by rw [hy]; exact hoff)).trans
          (State.requestAp_alarm (by rw [hy]; rfl))
      · rw [State.serveWake_deep (by rw [hy]; exact hdep) (by rw [hy]; exact hdeep),
          State.leaveDeep_plain (by rw [hy]; exact hkey) (by rw [hy]; exact hmode),
          State.requestAp_alarm (by rw [hy]; rfl)]
    have hfacts : (y.bs.q = s.bs.q ∧ y.bs.r = s.bs.r ∧ y.bs.battery = s.bs.battery) ∧ y.bs.graceTimer = s.bs.graceTimer
        ∧ y.params = s.params ∧ y.pins = s.pins ∧ y.head.capped = capped ∧ y.now = s.now ∧ y.notices.ap = ap ∧ y.Quiet
        ∧ y.turn.engine = .halted := by
      obtain ⟨hstage, hdefer, hwatch⟩ := hquiet
      rcases hcases with ⟨-, -, rfl⟩ | ⟨-, -, -, ⟨-, rfl⟩ | ⟨-, -, -, rfl⟩⟩
      · rw [hy]
        exact ⟨⟨rfl, rfl, rfl⟩, rfl, rfl, rfl, rfl, rfl, rfl, ⟨hstage, hdefer, hwatch⟩, rfl⟩
      all_goals
        rw [hy]
        exact ⟨⟨rfl, rfl, rfl⟩, rfl, rfl, rfl, rfl, rfl, rfl, ⟨hstage, rfl, hwatch⟩, rfl⟩
    obtain ⟨hbs, hgrace, hparams, hpins, hcap, hnow, hnotes, hstill, hengine⟩ := hfacts
    have hnotice : nb ≠ s.bs.battery → nb ≠ .normal → y.NoWake (if nb = .low then .batteryLow else .batteryCritical) :=
      fun h1 h2 => by
      rcases hcases with ⟨-, hno, rfl⟩ | ⟨hwake, -⟩
      · rw [hy, hap]
        exact State.NoWake.mark (hno h1 h2) .powerAlarm _
      · exact State.noWake_after hwake (hnotes.trans hap) hparams _
    rw [exec_batterySample_raises hpower harby hf hbs hparams hpins hcap hnotice hstill (by rw [hengine]; decide)]
    simp only [State.withFigures, hbs.2.2, hgrace, hparams, hnow, hnotes]
  case busy =>
    intro s x voc imax capped pct q k r r' ch nb c y hvoc himax hcapped hr hk hq hpct hch hnb hpower ha hquiet hs hcalm hcause
      hl hpark hy
    have hf := State.figures_eq hvoc himax hcapped hr hk hq hpct hch hnb
    have harb := State.arbiterSample_raises hf hs hcalm hl hpark hcause
    have hends : ∀ w, (s.alarmSet x capped c).turnAlarm.panelAlarm = w → w.bs = s.bs → w.params = s.params →
        w.pins = s.pins → w.head.capped = capped → w.staging = s.staging → w.turn.engine ≠ .idle →
        exec (.batterySample x) s = .next (State.withFigures
          (w.mark .powerAlarm (.powerAlarm c x.v (capped - s.params.reserveMW))) x ⟨capped, q, r', pct, ch, nb⟩) :=
      fun w hw hbs hparams hpins hcap hst he => by
      have hon : w.bs.ap = .on := by rwa [hbs]
      have hquiet' : w.Quiet := by rwa [State.Quiet, hbs, hst]
      rw [hw, State.raise_on _ _ hon] at harb
      exact exec_batterySample_raises hpower harb hf ⟨congrArg _ hbs, congrArg _ hbs, congrArg _ hbs⟩ hparams hpins hcap
        (fun _ _ => .inl hon) hquiet' he
    refine ⟨fun u l hu hphase he hl => ?drives, fun key md org pp es l rl pg rt ht ft hplaced hrails => ?back⟩
    case drives =>
      have hbusy : s.turn.engine ≠ .idle := by rw [he]; decide
      rw [hends _ (State.alarmSet_drives capped he hu hphase) rfl rfl rfl rfl rfl hbusy, hy, hl]
      rfl
    case back =>
      obtain ⟨l0, hplaced, hl⟩ := hplaced
      refine ⟨fun u t hu hphase he hturn hkey hmode horigin hpurpose => ?_,
        fun m hu hdemand he hm hkey hmode horigin hpurpose => ?_⟩
      · subst hkey hmode horigin hpurpose
        rw [hends _ (State.alarmSet_holds capped hrails hplaced ha he hu hphase hturn) rfl rfl rfl rfl rfl (by simp), hy, hl]
        rfl
      · subst hkey hmode horigin hpurpose
        rw [hends _ (State.alarmSet_waits capped hrails hplaced ha he hm hu hdemand) rfl rfl rfl rfl rfl (by simp), hy, hl]
        rfl

end Sys2Proof.Machine

namespace Sys2Proof.Machine

/-! ### The temperature read of a planning (R76) -/

/-- A band holds ten degrees, but for the lowest and the highest, which also hold what lies beyond (R76). -/
theorem bandOf_spec (r : Int) : bandOf r ≤ 7
    ∧ (-10 ≤ r → r ≤ 69 → 10 * (bandOf r : Int) - 10 ≤ r ∧ r < 10 * (bandOf r : Int))
    ∧ (r < -10 → bandOf r = 0) ∧ (69 < r → bandOf r = 7) := by
  unfold bandOf
  omega

theorem exec_tempReadEnd {s : State} {u : Update} (reading : Option Int) (hu : s.panel.update = some u)
    (hp : u.phase = .planning) (ht : u.tempRead = false) :
    exec (.tempReadEnd reading) s = .next (s.tempRead u reading) := by
  show execTempReadEnd reading s = _
  unfold execTempReadEnd
  rw [hu]
  exact if_pos ⟨hp, ht⟩

/-- A good reading with the AP ON: TEMP_RANGE is raised where it lies outside 0 to 50. -/
theorem State.tempRead_good {s : State} (u : Update) (r : Int) (ha : s.bs.ap = .on) : s.tempRead u (some r) = { s with
    notices := if r < 0 ∨ 50 < r then
        { s.notices with ap := s.notices.ap.modify 19 (fun n => n.raised (.tempRange r)) }
      else s.notices
    panel := { s.panel with
      lastGood := some r, lastRead := some true, band := some (bandOf r), update := some { u with tempRead := true } } } := by
  unfold State.tempRead
  dsimp only
  by_cases hr : r < 0 ∨ 50 < r
  · rw [if_pos hr, if_pos hr, State.raise_on _ _ (by exact ha)]
    rfl
  · rw [if_neg hr, if_neg hr]
    rfl

/-- A failed read: the band of the last good reading, or band 2. -/
theorem State.tempRead_failed (s : State) (u : Update) : s.tempRead u none = { s with
    panel := { s.panel with
      lastRead := some false, band := some ((s.panel.lastGood.map bandOf).getD 2)
      update := some { u with tempRead := true } } } := rfl

/-- Settles O33: a reading, within 0 to 50 or not, then a failed read. -/
theorem temperatureReadChoosesBand : Obligations.TemperatureReadChoosesBand := by
  intro s u hu hp ht ha
  refine ⟨fun r => ⟨_, exec_tempReadEnd (some r) hu hp ht, ?good⟩, _, exec_tempReadEnd none hu hp ht, ?failed⟩
  case good =>
    rw [State.tempRead_good u r ha]
    exact ⟨rfl, ⟨bandOf r, rfl, bandOf_spec r⟩, fun h1 h2 => if_neg (by omega), fun hr => if_pos hr⟩
  case failed =>
    rw [State.tempRead_failed]
    refine ⟨rfl, fun hnone => ?_, fun r hr => ⟨bandOf r, ?_, bandOf_spec r⟩⟩
    · simp [hnone]
    · simp [hr]

/-! ### The rails and their timers (R82 to R87) -/

section
variable {s : State} {d h g : Nat}

theorem exec_railRiseEnd (hd : s.panel.riseTimer = some d) :
    exec .railRiseEnd s = .next ((s.atTime d).railsHot.afterRise).settle := by
  simp only [exec, execRailRiseEnd, hd]

theorem exec_railHoldExpiry (hd : s.panel.holdTimer = some d) :
    exec .railHoldExpiry s = .next ((s.atTime d).railsFall).settle := by
  simp only [exec, execRailHoldExpiry, hd]

theorem exec_railFallEnd (hd : s.panel.fallTimer = some d) :
    exec .railFallEnd s = .next ((s.atTime d).railsDown.afterFall).settle := by
  simp only [exec, execRailFallEnd, hd]

theorem exec_powerWaitExpiry (hd : s.panel.waitTimer = some d) :
    exec .powerWaitExpiry s = .next ((s.atTime d).withdrawPanel.rebalance.abandonUpdate).settle := by
  simp only [exec, execPowerWaitExpiry, hd]

/-- Rails that become HOT take the hot demand, the light what is left (R83, R84). -/
theorem State.railsHot_eq (hw : s.NoWaits) (hh : h = min (max 1 s.params.hotMW) s.head.panel.grant)
    (hg : g = s.lightLeft h) : s.railsHot = { s with
      light := s.litBy g
      head := { s.head with panel := ⟨h, h⟩, light := ⟨s.head.light.demand, g⟩ }
      panel := { s.panel with rail := .hot, riseTimer := none, holdTimer := none } } := by
  unfold State.railsHot
  rw [State.presentHot_eq (by exact hw) (by exact hh) (by exact hg)]
  rfl

/-- Rails that fall take the hot demand, the light what is left (R83, R87). -/
theorem State.railsFall_eq (hw : s.NoWaits) (hh : h = min (max 1 s.params.hotMW) s.head.panel.grant)
    (hg : g = s.lightLeft h) : s.railsFall = { s with
      light := s.litBy g
      head := { s.head with panel := ⟨h, h⟩, light := ⟨s.head.light.demand, g⟩ }
      panel := { s.panel with
        rail := .falling, riseTimer := none, holdTimer := none
        fallTimer := some (s.now + s.params.railFallMs) } } := by
  unfold State.railsFall
  rw [State.presentHot_eq (by exact hw) (by exact hh) (by exact hg)]
  rfl

/-- Rails that reach RAIL_OFF release their grant to the light (R87, R120). -/
theorem State.railsDown_eq (hw : s.NoWaits) (hg : g = s.lightLeft 0) : s.railsDown = { s with
    light := s.litBy g
    head := { s.head with panel := ⟨0, 0⟩, light := ⟨s.head.light.demand, g⟩ }
    panel := { s.panel with rail := .off, fallTimer := none } } := by
  subst hg
  unfold State.railsDown
  rw [State.rebalance_eq (by exact hw)]
  rfl

theorem State.afterRise_idle (hu : s.panel.update = none) : s.afterRise = s.startHold := by
  unfold State.afterRise
  rw [hu]

theorem State.afterRise_rising {u : Update} {p : Plan} (hu : s.panel.update = some u) (hphase : u.phase = .rising)
    (hp : u.plan = some p) : s.afterRise = s.presentPanel .driveWait p.demand := by
  unfold State.afterRise State.presentUpdate
  rw [hu, Option.bind_some, hp]
  exact if_pos hphase

theorem State.afterFall_idle (hu : s.panel.update = none) : s.afterFall = s := by
  unfold State.afterFall
  rw [hu]

/-- A reader's update that waits for headroom with the rails off is given up: the state it leaves, and TURN_ABANDONED
(R62, R84, R85). -/
theorem State.powerWait_abandons {x : Turn} {f : Nat} (hx : s.turn.turn = some x) (hp : x.purpose = none)
    (hap : s.bs.ap = .on) (hr : s.panel.rail = .off) (ha : s.head.alarm = none) (hw : s.head.apWait = none)
    (hk : s.head.parked = none) (hf : f = min s.head.light.demand (s.head.ceiling - s.head.loads)) :
    (s.atTime d).withdrawPanel.rebalance.abandonUpdate
      = (s.waitOver d f).mark .turnAbandoned (.turnAbandoned (some x.key) .noHeadroom) := by
  have hcool : ¬s.panel.rail = .hot := by rw [hr]; decide
  have hlight : (s.atTime d).withdrawPanel.rebalance = _ := State.rebalance_eq ⟨ha, hw, rfl, hk⟩
  have hoff : (s.atTime d).withdrawPanel.rebalance.dropUpdate.holdIfHot
      = (s.atTime d).withdrawPanel.rebalance.dropUpdate := by
    rw [hlight]
    exact if_neg hcool
  subst hf
  rw [State.abandonUpdate, hoff, hlight, State.turnEnded_abandoned (by exact hx) hp (by exact hap),
    State.restEngine_calm (by exact ha)]
  rfl

end

/-- Settles O35: the end of the rise with and without an update, the end of the hold and of the fall, and the end of a wait
for headroom. -/
theorem railsFollowTheirTimers : Obligations.RailsFollowTheirTimers := by
  intro s d h g hq ht hh hg
  have hhot (hw : s.NoWaits) : (s.atTime d).railsHot = _ :=
    State.railsHot_eq (by exact hw) (by exact hh) (by exact hg)
  refine ⟨fun hd hu hhold hw => ?risen, fun u p f hd hu hphase hp hw hfit hf => ?drives, fun hd hw => ?falls,
    fun f hd hu hw hf => ?down, fun x f hd hx hp hap hqueue hr ha hapw hk hf => ?abandons⟩
  case risen =>
    rw [exec_railRiseEnd hd, hhot hw, State.afterRise_idle (by exact hu), State.startHold_held (by exact hhold),
      State.settle_quiet (by exact hq) (by exact ht)]
    rfl
  case drives =>
    have ⟨_, _, hwait, _⟩ := hw
    rw [exec_railRiseEnd hd, hhot hw, State.afterRise_rising (by exact hu) hphase hp,
      State.presentPanel_drives (by exact hw) (by exact hu) (by exact hfit),
      State.settle_quiet (by exact hq) (.inl (by simp)), hf]
    simp only [State.atTime, hwait]
    rfl
  case falls =>
    rw [exec_railHoldExpiry hd, State.railsFall_eq (by exact hw) (by exact hh) (by exact hg),
      State.settle_quiet (by exact hq) (by exact ht)]
    rfl
  case down =>
    rw [exec_railFallEnd hd, State.railsDown_eq (by exact hw) (by exact hf), State.afterFall_idle (by exact hu),
      State.settle_quiet (by exact hq) (by exact ht)]
    rfl
  case abandons =>
    rw [exec_powerWaitExpiry hd, State.powerWait_abandons hx hp hap hr ha hapw hk hf,
      State.settle_quiet (by exact hq) (.inr (by exact hqueue))]
    rfl

end Sys2Proof.Machine

namespace Sys2Proof.Machine

/-! ### The first hit of a search through numbers -/

theorem findSome?_range_eq_none {β : Type} {n : Nat} {f : Nat → Option β} :
    (List.range n).findSome? f = none ↔ ∀ i < n, f i = none := by
  simp [List.findSome?_eq_none_iff]

/-- A search through the numbers below `n` stops at the first that gives a result. -/
theorem findSome?_range_eq_some {β : Type} {n : Nat} {f : Nat → Option β} {b : β} :
    (List.range n).findSome? f = some b ↔ ∃ i < n, f i = some b ∧ ∀ j < i, f j = none := by
  induction n with
  | zero => simp
  | succ n ih =>
    rw [List.range_succ, List.findSome?_append, List.findSome?_singleton, Option.or_eq_some_iff, ih,
      findSome?_range_eq_none]
    constructor
    · rintro (⟨i, hi, hb⟩ | ⟨hnone, hb⟩)
      · exact ⟨i, by omega, hb⟩
      · exact ⟨n, by omega, hb, hnone⟩
    · rintro ⟨i, hi, hb, hnone⟩
      rcases Nat.lt_succ_iff_lt_or_eq.mp hi with hi | rfl
      · exact .inl ⟨i, hi, hb, hnone⟩
      · exact .inr ⟨hnone, hb⟩

/-! ### The commit check (R74, R184) -/

section
variable {m : Memory} {w n : Nat}

/-- Code 3 is the one bad drive code, as a code has two bits. -/
theorem Memory.driveGood_iff (f t k : Nat) : m.DriveGood w f t k ↔ m.driveCode w f t k ≠ 3 := by
  have hcode : m.driveCode w f t k < 4 := Nat.mod_lt _ (by decide)
  unfold Memory.DriveGood
  omega

theorem Memory.firstBadDrive_eq_none :
    m.firstBadDrive w n = none ↔ ∀ f < 16, ∀ t < 16, ∀ k < n, m.DriveGood w f t k := by
  simp only [Memory.firstBadDrive, findSome?_range_eq_none, Memory.driveGood_iff, ite_eq_right_iff, reduceCtorEq,
    imp_false, ne_eq]

theorem Memory.firstBadDrive_ne_frameCount : m.firstBadDrive w n ≠ some .frameCount := by
  simp [Memory.firstBadDrive, findSome?_range_eq_some]

/-- The drive a check names is bad, and those before it in the order of from-level, to-level and frame are good. -/
theorem Memory.firstBadDrive_eq_some (hn : n ≤ 63) (f t k : Nat) :
    m.firstBadDrive w n = some (.driveCode f t k) ↔ f < 16 ∧ t < 16 ∧ k < n ∧ ¬m.DriveGood w f t k
      ∧ ∀ f' < 16, ∀ t' < 16, ∀ k' < n, (f' * 16 + t') * 64 + k' < (f * 16 + t) * 64 + k → m.DriveGood w f' t' k' := by
  simp only [Memory.firstBadDrive, findSome?_range_eq_some, findSome?_range_eq_none, Memory.driveGood_iff, ne_eq, not_not,
    Option.ite_none_right_eq_some, ite_eq_right_iff, reduceCtorEq, imp_false, Option.some.injEq,
    WaveFault.driveCode.injEq]
  constructor
  · rintro ⟨f, hf, ⟨t, ht, ⟨k, hk, ⟨hbad, rfl, rfl, rfl⟩, hframe⟩, hto⟩, hfrom⟩
    refine ⟨hf, ht, hk, hbad, fun f' hf' t' ht' k' hk' hlt => ?_⟩
    rcases Nat.lt_trichotomy f' f with hff | rfl | hff
    · exact hfrom f' hff t' ht' k' hk'
    · rcases Nat.lt_trichotomy t' t with htt | rfl | htt
      · exact hto t' htt k' hk'
      · exact hframe k' (by omega)
      · omega
    · omega
  · rintro ⟨hf, ht, hk, hbad, hbefore⟩
    exact ⟨f, hf, ⟨t, ht, ⟨k, hk, ⟨hbad, rfl, rfl, rfl⟩, fun k' hk' => hbefore f hf t ht k' (by omega) (by omega)⟩,
      fun t' ht' k' hk' => hbefore f hf t' (by omega) k' hk' (by omega)⟩,
      fun f' hf' t' ht' k' hk' => hbefore f' (by omega) t' ht' k' hk' (by omega)⟩

theorem inRange_frames_iff : inRange 1 63 n = true ↔ 1 ≤ n ∧ n ≤ 63 := by simp [inRange]

theorem Memory.waveFault_counted (h : 1 ≤ m.frameCount w ∧ m.frameCount w ≤ 63) :
    m.waveFault w = m.firstBadDrive w (m.frameCount w) := if_pos (inRange_frames_iff.mpr h)

theorem Memory.waveFault_uncounted (h : ¬(1 ≤ m.frameCount w ∧ m.frameCount w ≤ 63)) :
    m.waveFault w = some .frameCount := if_neg (mt inRange_frames_iff.mp h)

theorem Memory.waveFault_eq_none : m.waveFault w = none ↔ m.WaveGood w := by
  by_cases h : 1 ≤ m.frameCount w ∧ m.frameCount w ≤ 63
  · rw [Memory.waveFault_counted h, Memory.firstBadDrive_eq_none]
    exact ⟨fun hgood => ⟨h.1, h.2, hgood⟩, fun ⟨_, _, hgood⟩ => hgood⟩
  · rw [Memory.waveFault_uncounted h]
    exact ⟨nofun, fun ⟨hlow, hhigh, _⟩ => absurd ⟨hlow, hhigh⟩ h⟩

theorem Memory.waveFault_frameCount :
    m.waveFault w = some .frameCount ↔ ¬(1 ≤ m.frameCount w ∧ m.frameCount w ≤ 63) := by
  refine ⟨fun hfault h => ?_, Memory.waveFault_uncounted⟩
  rw [Memory.waveFault_counted h] at hfault
  exact Memory.firstBadDrive_ne_frameCount hfault

theorem Memory.waveFault_driveCode (f t k : Nat) : m.waveFault w = some (.driveCode f t k)
    ↔ 1 ≤ m.frameCount w ∧ m.frameCount w ≤ 63 ∧ f < 16 ∧ t < 16 ∧ k < m.frameCount w ∧ ¬m.DriveGood w f t k
      ∧ ∀ f' < 16, ∀ t' < 16, ∀ k' < m.frameCount w,
          (f' * 16 + t') * 64 + k' < (f * 16 + t) * 64 + k → m.DriveGood w f' t' k' := by
  by_cases h : 1 ≤ m.frameCount w ∧ m.frameCount w ≤ 63
  · rw [Memory.waveFault_counted h, Memory.firstBadDrive_eq_some h.2]
    exact ⟨fun hbad => ⟨h.1, h.2, hbad⟩, fun ⟨_, _, hbad⟩ => hbad⟩
  · rw [Memory.waveFault_uncounted h]
    exact ⟨nofun, fun ⟨hlow, hhigh, _⟩ => absurd ⟨hlow, hhigh⟩ h⟩

/-- The first failure among the eight bands of a mode. -/
def Memory.modeFault (m : Memory) (mode : UpdMode) : Option CommitFail :=
  (List.range 8).findSome? fun band => (m.waveFault (waveNumber mode band)).map fun r => ⟨mode, band, r⟩

/-- The check goes through the modes FULL, GREY and FAST. -/
theorem Memory.checkWaves_eq (m : Memory) :
    m.checkWaves = (m.modeFault .full).or ((m.modeFault .grey).or (m.modeFault .fast)) := by
  show ([UpdMode.full] ++ ([UpdMode.grey] ++ [UpdMode.fast])).findSome? m.modeFault = _
  rw [List.findSome?_append, List.findSome?_append, List.findSome?_singleton, List.findSome?_singleton,
    List.findSome?_singleton]

theorem Memory.modeFault_eq_none (mode : UpdMode) :
    m.modeFault mode = none ↔ ∀ band < 8, m.waveFault (waveNumber mode band) = none := by
  simp only [Memory.modeFault, findSome?_range_eq_none, Option.map_eq_none_iff]

theorem Memory.modeFault_eq_some {mode mode' : UpdMode} {band : Nat} {r : WaveFault} :
    m.modeFault mode = some ⟨mode', band, r⟩ ↔ mode = mode' ∧ band < 8 ∧ m.waveFault (waveNumber mode band) = some r
      ∧ ∀ b < band, m.waveFault (waveNumber mode b) = none := by
  simp only [Memory.modeFault, findSome?_range_eq_some, Option.map_eq_some_iff, Option.map_eq_none_iff, CommitFail.mk.injEq]
  constructor
  · rintro ⟨_, hb, ⟨_, hr, rfl, rfl, rfl⟩, hbefore⟩
    exact ⟨rfl, hb, hr, hbefore⟩
  · rintro ⟨rfl, hb, hr, hbefore⟩
    exact ⟨band, hb, ⟨r, hr, rfl, rfl, rfl⟩, hbefore⟩

/-- The numbers below a sum: those below its first part, and those that follow them. -/
theorem forall_lt_add_iff {p : Nat → Prop} {a b : Nat} :
    (∀ v < a + b, p v) ↔ (∀ v < a, p v) ∧ ∀ v < b, p (a + v) := by
  refine ⟨fun h => ⟨fun v hv => h v (by omega), fun v hv => h (a + v) (by omega)⟩, fun ⟨hlow, hhigh⟩ v hv => ?_⟩
  by_cases hva : v < a
  · exact hlow v hva
  · obtain ⟨d, rfl⟩ := Nat.exists_eq_add_of_le (Nat.not_lt.mp hva)
    exact hhigh d (by omega)

/-- The waveforms before one: those of the modes before its mode, and those of the bands before its band. -/
theorem forall_lt_waveNumber_iff {p : Nat → Prop} (mode : UpdMode) (band : Nat) :
    (∀ v < waveNumber mode band, p v) ↔ (mode ≠ .full → ∀ b < 8, p (waveNumber .full b))
      ∧ (mode = .fast → ∀ b < 8, p (waveNumber .grey b)) ∧ ∀ b < band, p (waveNumber mode b) := by
  cases mode
  case full => simp [waveNumber, modeNumber]
  case grey => simp [waveNumber, modeNumber, forall_lt_add_iff]
  case fast =>
    have hgrey := forall_lt_add_iff (p := p) (a := 8) (b := 8)
    simp [waveNumber, modeNumber, forall_lt_add_iff, hgrey, and_assoc]

theorem Memory.checkWaves_eq_none : m.checkWaves = none ↔ ∀ w < 24, m.WaveGood w := by
  have hfast := forall_lt_waveNumber_iff (p := fun w => m.waveFault w = none) .fast 8
  simp only [← Memory.waveFault_eq_none, Memory.checkWaves_eq, Option.or_eq_none_iff, Memory.modeFault_eq_none]
  refine ⟨fun ⟨hfull, hgrey, hlast⟩ => hfast.mpr ⟨fun _ => hfull, fun _ => hgrey, hlast⟩, fun h => ?_⟩
  obtain ⟨hfull, hgrey, hlast⟩ := hfast.mp h
  exact ⟨hfull nofun, hgrey rfl, hlast⟩

/-- The check names the first failure in the order of the waveforms' numbers. -/
theorem Memory.checkWaves_eq_some {mode : UpdMode} {band : Nat} {r : WaveFault} :
    m.checkWaves = some ⟨mode, band, r⟩ ↔ band < 8 ∧ (∀ v < waveNumber mode band, m.WaveGood v)
      ∧ m.waveFault (waveNumber mode band) = some r := by
  simp only [← Memory.waveFault_eq_none, forall_lt_waveNumber_iff, Memory.checkWaves_eq, Option.or_eq_some_iff,
    Memory.modeFault_eq_none, Memory.modeFault_eq_some]
  cases mode
  case full => simp [and_comm]
  case grey => simp [and_comm, and_assoc]
  case fast => simp [and_comm, and_assoc, and_left_comm]

end

/-! ### WAVEFORM_WRITE and WAVEFORM_COMMIT (R72 to R74) -/

theorem exec_waveformWrite {s : State} (x : WaveformWriteArgs) (h : s.Ready .a) :
    exec (.waveformWrite (freshFrame .a) (.fields x)) s = .next ((s.workingOn .a).serveWaveformWrite .a x) :=
  congrArg _ (State.frame_serve h (by simp) rfl)

theorem exec_waveformCommit {s : State} (h : s.Ready .a) :
    exec (.waveformCommit (freshFrame .a) (.fields ())) s = .next ((s.workingOn .a).serveWaveformCommit .a) :=
  congrArg _ (State.frame_serve h (by simp) rfl)

/-- WAVEFORM_WRITE of a payload in range, by whether an update is in hand. -/
theorem State.serveWaveformWrite_inRange (s : State) (p : Port) {x : WaveformWriteArgs} (h1 : 1 ≤ x.payload.length)
    (h2 : x.payload.length ≤ 4096) (h3 : x.offset + x.payload.length ≤ 131072) : s.serveWaveformWrite p x =
      if s.panel.update.isSome then s.say p .inUse
      else State.setWork { s with panel := { s.panel with wave := .loading } } p
        (some (waveWork .waveformWrite x.offset (x.offset + x.payload.length) x.payload)) := by
  have hp : payloadInRange x.payload = true := (payloadInRange_iff _).mpr ⟨h1, h2⟩
  have hlast : decide (Config.waveBytes < x.offset + x.payload.length) = false :=
    decide_eq_false (Nat.not_lt.mpr h3)
  exact if_neg (by simp [hp, hlast])

theorem State.serveWaveformWrite_outOfRange (s : State) (p : Port) {x : WaveformWriteArgs}
    (h : ¬(1 ≤ x.payload.length ∧ x.payload.length ≤ 4096 ∧ x.offset + x.payload.length ≤ 131072)) :
    s.serveWaveformWrite p x = s.say p .badArgument := by
  refine if_pos ?_
  rw [Bool.or_eq_true, Bool.not_eq_true', Bool.eq_false_iff, ne_eq, payloadInRange_iff, decide_eq_true_iff]
  show _ ∨ 131072 < _
  omega

section
variable {s : State} {w : Work}

/-- The end of a WAVEFORM_WRITE's work at a port that holds no frame (R13, R73). -/
theorem exec_waveformWriteEnd (hw : s.pool.workA = some w) (hk : w.kind = .waveformWrite) (hd : w.stop ≤ w.pos)
    (hh : s.portA.held = none) : exec .waveformWriteEnd s = .next ((s.setWork .a none).say .a .ok) := by
  have hf : finishedWork s.pool.workA isWaveWrite = some w := by
    simp [finishedWork, hw, hk, isWaveWrite, Work.unfinished, Nat.not_lt.mpr hd]
  have hheld : (((s.setWork .a none).say .a .ok).port .a).held = none := (PortUnit.answered_held _ _).trans hh
  simp only [exec, execWaveformWriteEnd]
  rw [hf]
  exact congrArg _ (State.takeHeld_none hheld)

theorem State.commitEnds_held (p : Port) : ((s.commitEnds p).port p).held = (s.port p).held := by
  unfold State.commitEnds
  split <;> cases p <;> exact PortUnit.answered_held _ _

/-- The end of a WAVEFORM_COMMIT's work at a port that holds no frame (R13, R74). -/
theorem exec_waveformCommitEnd (hw : s.pool.workA = some w) (hk : w.kind = .waveformCommit) (hd : w.stop ≤ w.pos)
    (hh : s.portA.held = none) : exec .waveformCommitEnd s = .next ((s.setWork .a none).commitEnds .a) := by
  have hf : finishedWork s.pool.workA isWaveCommit = some w := by
    simp [finishedWork, hw, hk, isWaveCommit, Work.unfinished, Nat.not_lt.mpr hd]
  have hheld : (((s.setWork .a none).commitEnds .a).port .a).held = none := (State.commitEnds_held .a).trans hh
  simp only [exec, execWaveformCommitEnd]
  rw [hf]
  exact congrArg _ (State.takeHeld_none hheld)

theorem State.commitEnds_good (p : Port) (h : s.pool.mem.checkWaves = none) :
    s.commitEnds p = State.say { s with panel := { s.panel with wave := .valid } } p .ok := by
  unfold State.commitEnds
  rw [h]

theorem State.commitEnds_bad (p : Port) {f : CommitFail} (h : s.pool.mem.checkWaves = some f) :
    s.commitEnds p = State.give { s with panel := { s.panel with wave := .absent, commitFail := some f } } p
      ⟨.badArgument, .commitFail f⟩ := by
  unfold State.commitEnds
  rw [h]

end

/-- Settles O32: the two requests, the ends of their work, and the check with the failure it names. -/
theorem waveformStoreIsWrittenAndCommitted : Obligations.WaveformStoreIsWrittenAndCommitted := by
  refine ⟨⟨fun s x h => ⟨fun h1 h2 h3 => ⟨fun hu => ?writes, fun hu => ?inUse⟩, fun hb => ?range⟩,
    fun s h => ⟨fun hv => ?answers, fun hv => ?reads⟩,
    fun s w hw hd hh => ⟨fun hk => ?written, fun hk hc => ?valid, fun f hk hc => ?failed⟩⟩,
    fun m => ⟨fun _ => rfl, fun _ _ _ _ => rfl, m.checkWaves_eq_none, fun mode band w hwave => ?names⟩⟩
  case writes =>
    rw [exec_waveformWrite x h, State.serveWaveformWrite_inRange _ _ h1 h2 h3, if_neg (by simp [State.workingOn, hu])]
    rfl
  case inUse =>
    rw [exec_waveformWrite x h, State.serveWaveformWrite_inRange _ _ h1 h2 h3, if_pos (by exact hu),
      State.say_workingOn _ h]
  case range => rw [exec_waveformWrite x h, State.serveWaveformWrite_outOfRange _ _ hb, State.say_workingOn _ h]
  case answers =>
    rw [exec_waveformCommit h, State.serveWaveformCommit, if_pos (by exact hv), State.say_workingOn _ h]
  case reads =>
    rw [exec_waveformCommit h, State.serveWaveformCommit, if_neg (by exact hv)]
    rfl
  case written =>
    rw [exec_waveformWriteEnd hw hk hd hh]
    rfl
  case valid =>
    rw [exec_waveformCommitEnd hw hk hd hh, State.commitEnds_good _ (by exact hc)]
    rfl
  case failed =>
    rw [exec_waveformCommitEnd hw hk hd hh, State.commitEnds_bad _ (by exact hc)]
    rfl
  case names =>
    obtain rfl : w = waveNumber mode band := hwave.trans (by cases mode <;> rfl)
    refine ⟨?_, fun f t k => ?_⟩
    · rw [Memory.checkWaves_eq_some, Memory.waveFault_frameCount]
    · rw [Memory.checkWaves_eq_some, Memory.waveFault_driveCode]

end Sys2Proof.Machine

namespace Sys2Proof.Machine

/-! ### The split of a total and its power (R102) -/

theorem warmShare_le {w : Nat} (hw : w ≤ 64) (t : Nat) : warmShare w t ≤ t :=
  Nat.div_le_of_le_mul (by rw [Nat.mul_comm]; exact Nat.mul_le_mul_right t hw)

theorem warmShare_mono (w : Nat) {t u : Nat} (h : t ≤ u) : warmShare w t ≤ warmShare w u :=
  Nat.div_le_div_right (Nat.mul_le_mul_right w h)

/-- The COOL share never falls either: a further on-count adds at most one to the WARM share. -/
theorem coolShare_mono {w : Nat} (hw : w ≤ 64) {t u : Nat} (h : t ≤ u) : t - warmShare w t ≤ u - warmShare w u := by
  obtain ⟨k, rfl⟩ := Nat.exists_eq_add_of_le h
  have hstep : warmShare w (t + k) ≤ warmShare w t + k := calc
    (t + k) * w / 64 ≤ (t * w + k * 64) / 64 := by rw [Nat.add_mul]; gcongr
    _ = t * w / 64 + k := Nat.add_mul_div_right _ _ (by decide)
  omega

theorem splitTotal_sum {w : Nat} (hw : w ≤ 64) (gap t : Nat) :
    (splitTotal w gap t).warm + (splitTotal w gap t).cool = t := Nat.add_sub_cancel' (warmShare_le hw t)

/-- The power is the least whole number of milliwatts not below the sum of the shares' figures over 1,024. -/
theorem lightPower_ceil (w f c t : Nat) :
    lightPower w f c t * 1024 < warmShare w t * f + (t - warmShare w t) * c + 1024
      ∧ warmShare w t * f + (t - warmShare w t) * c ≤ lightPower w f c t * 1024 := by
  unfold lightPower
  omega

theorem lightPower_zero (w f c : Nat) : lightPower w f c 0 = 0 := by simp [lightPower, warmShare]

theorem lightPower_zeroFigures (w t : Nat) : lightPower w 0 0 t = 0 := by simp [lightPower]

theorem lightPower_mono {w : Nat} (hw : w ≤ 64) (f c : Nat) {t u : Nat} (h : t ≤ u) :
    lightPower w f c t ≤ lightPower w f c u := by
  have hwarm := Nat.mul_le_mul_right f (warmShare_mono w h)
  have hcool := Nat.mul_le_mul_right c (coolShare_mono hw h)
  exact Nat.div_le_div_right (by omega)

/-- The total fitted to a grant is the largest up to the bound that the grant allows (R103, step 5). -/
theorem fitTotal_spec (w f c g : Nat) : ∀ r, fitTotal w f c g r ≤ r ∧ lightPower w f c (fitTotal w f c g r) ≤ g
    ∧ ∀ t, t ≤ r → lightPower w f c t ≤ g → t ≤ fitTotal w f c g r
  | 0 => ⟨le_rfl, (lightPower_zero w f c).trans_le (Nat.zero_le g), fun _ ht _ => ht⟩
  | r + 1 => by
    obtain ⟨hle, hfits, hmax⟩ := fitTotal_spec w f c g r
    unfold fitTotal
    split
    · next h => exact ⟨le_rfl, h, fun _ ht _ => ht⟩
    · next h =>
      refine ⟨by omega, hfits, fun t ht hg => hmax t ?_ hg⟩
      rcases Nat.le_succ_iff.mp ht with ht | rfl
      · exact ht
      · exact absurd hg h

/-! ### The total of a level (R101) -/

/-- The total of a level on a curve before the limit the gap sets. -/
def curveTotal (c : List Nat) (a : Nat) : Nat :=
  c.getD (a / 16) 0 + (c.getD (a / 16 + 1) 0 - c.getD (a / 16) 0) * (a - 16 * (a / 16)) / 16

theorem lightTotal_eq (c : List Nat) (gap a : Nat) : lightTotal c gap a = min (curveTotal c a) (1024 - 2 * gap) := rfl

theorem getD_le_getD {c : List Nat} (hc : c.Pairwise (· ≤ ·)) {i j : Nat} (hij : i ≤ j) (hj : j < c.length) :
    c.getD i 0 ≤ c.getD j 0 := by
  rw [List.getD_eq_getElem c 0 (hij.trans_lt hj), List.getD_eq_getElem c 0 hj]
  rcases hij.lt_or_eq with h | rfl
  · exact List.pairwise_iff_getElem.mp hc i j _ hj h
  · exact le_rfl

section
variable {c : List Nat} (hl : c.length = 17) (hc : c.Pairwise (· ≤ ·))
include hl hc

/-- The total lies between the two points of the curve beside the level. -/
theorem curveTotal_between {a : Nat} (ha : a ≤ 255) :
    c.getD (a / 16) 0 ≤ curveTotal c a ∧ curveTotal c a ≤ c.getD (a / 16 + 1) 0 := by
  have hpoints : c.getD (a / 16) 0 ≤ c.getD (a / 16 + 1) 0 := getD_le_getD hc (Nat.le_succ _) (by omega)
  have hrise : (c.getD (a / 16 + 1) 0 - c.getD (a / 16) 0) * (a - 16 * (a / 16)) / 16
      ≤ c.getD (a / 16 + 1) 0 - c.getD (a / 16) 0 :=
    Nat.div_le_of_le_mul (by rw [Nat.mul_comm]; exact Nat.mul_le_mul_right _ (by omega))
  unfold curveTotal
  omega

theorem curveTotal_mono {a b : Nat} (hab : a ≤ b) (hb : b ≤ 255) : curveTotal c a ≤ curveTotal c b := by
  rcases (Nat.div_le_div_right (c := 16) hab).lt_or_eq with hlt | heq
  · calc curveTotal c a ≤ c.getD (a / 16 + 1) 0 := (curveTotal_between hl hc (hab.trans hb)).2
      _ ≤ c.getD (b / 16) 0 := getD_le_getD hc hlt (by omega)
      _ ≤ curveTotal c b := (curveTotal_between hl hc hb).1
  · unfold curveTotal
    rw [heq]
    gcongr

theorem lightTotal_mono (gap : Nat) {a b : Nat} (hab : a ≤ b) (hb : b ≤ 255) : lightTotal c gap a ≤ lightTotal c gap b := by
  rw [lightTotal_eq, lightTotal_eq]
  exact min_le_min_right _ (curveTotal_mono hl hc hab hb)

end

theorem lightTotal_zero {c : List Nat} (gap : Nat) (h : c.getD 0 0 = 0) : lightTotal c gap 0 = 0 := by
  rw [lightTotal_eq, show curveTotal c 0 = c.getD 0 0 by simp [curveTotal], h, Nat.zero_min]

/-- On the power-on curve the total is four on-counts a level (R100). -/
theorem curveTotal_powerOn {a : Nat} (ha : a ≤ 255) : curveTotal ((List.range 17).map (fun k => 64 * k)) a = 4 * a := by
  have hpoint : ∀ k < 17, ((List.range 17).map (fun k => 64 * k)).getD k 0 = 64 * k := by decide
  unfold curveTotal
  rw [hpoint _ (by omega), hpoint _ (by omega), show 64 * (a / 16 + 1) - 64 * (a / 16) = 64 by omega]
  omega

/-- Settles O37: the shares and the power of a total, the fitted total, and the total of a level. -/
theorem lightPowerSplitsAndCaps : Obligations.LightPowerSplitsAndCaps := by
  refine ⟨⟨fun w f c t hw => ?power, fun w f c g r => fitTotal_spec w f c g r⟩, fun c gap a b i t hl hc ha hi ht => ?total⟩
  case power =>
    obtain ⟨hup, hlow⟩ := lightPower_ceil w f c t
    exact ⟨rfl, Nat.mul_div_cancel t (by decide), by simp [warmShare], by unfold warmShare; omega, hup, hlow,
      lightPower_zero w f c, lightPower_zeroFigures w t, fun u h => lightPower_mono hw f c h⟩
  case total =>
    subst hi
    obtain rfl : t = curveTotal c a := ht
    obtain ⟨hlow, hhigh⟩ := curveTotal_between hl hc ha
    exact ⟨lightTotal_eq c gap a, hlow, hhigh, fun hab hb => lightTotal_mono hl hc gap hab hb, lightTotal_zero gap,
      by rw [lightTotal_eq, curveTotal_powerOn ha]⟩

end Sys2Proof.Machine

namespace Sys2Proof.Machine

/-! ### LIGHT_SET and the ramp (R105, R107) -/

theorem lightInRange_iff (x : LightSetArgs) : lightInRange x = true ↔ x.level ≤ 255 ∧ ∀ w, x.warmth = some w → w ≤ 64 := by
  simp [lightInRange, Option.all_eq_true]

/-- A new target, with the ramp timer started, stopped or kept (R107). -/
theorem State.retarget_eq (s : State) (n : Nat) : s.retarget n = { s with
    light := { s.light with
      target := n
      rampTimer := if s.light.alarmHold = true then s.light.rampTimer else if n = s.light.applied then none
        else if s.light.rampTimer = none then some (s.now + s.params.rampMs) else s.light.rampTimer } } := by
  unfold State.retarget
  cases s.light.rampTimer <;> rfl

theorem State.setWarmth_same {s : State} {w : Option Nat} (h : w = none ∨ w = some s.light.warmth) : s.setWarmth w = s := by
  rcases h with rfl | rfl
  · rfl
  · exact if_pos rfl

theorem State.setWarmth_new {s : State} {w : Nat} (h : w ≠ s.light.warmth) :
    s.setWarmth (some w) = { s with light := { s.light with warmth := w } }.computeLight := if_neg h

theorem exec_lightSet {s : State} (x : LightSetArgs) (h : s.Ready .a) :
    exec (.lightSet (freshFrame .a) (.fields x)) s = .next ((s.workingOn .a).serveLightSet .a x) :=
  congrArg _ (State.frame_serve h (by simp) rfl)

/-- A LIGHT_SET in range: the warmth, then the target, then the answer (R105). -/
theorem exec_lightSet_inRange {s : State} {x : LightSetArgs} (h : s.Ready .a) (hl : x.level ≤ 255)
    (hw : ∀ w, x.warmth = some w → w ≤ 64) : exec (.lightSet (freshFrame .a) (.fields x)) s
      = .next ((((s.workingOn .a).setWarmth x.warmth).retarget x.level).say .a .ok) := by
  rw [exec_lightSet x h, State.serveLightSet, if_pos ((lightInRange_iff x).mpr ⟨hl, hw⟩)]

theorem exec_lightSet_outOfRange {s : State} {x : LightSetArgs} (h : s.Ready .a)
    (hx : 255 < x.level ∨ ∃ w, x.warmth = some w ∧ 64 < w) :
    exec (.lightSet (freshFrame .a) (.fields x)) s = .next (s.refusedWith .a .badArgument) := by
  have hno : ¬lightInRange x = true := by
    rw [lightInRange_iff]
    rintro ⟨hl, hw⟩
    rcases hx with hx | ⟨w, hsome, hx⟩
    · omega
    · exact absurd (hw w hsome) (by omega)
  rw [exec_lightSet x h, State.serveLightSet, if_neg hno, State.say_workingOn _ h]

theorem exec_rampTimerExpiry {s : State} {d : Nat} (hd : s.light.rampTimer = some d) :
    exec .rampTimerExpiry s = .next (s.atTime d).rampStep := by
  show execRampTimerExpiry s = _
  unfold execRampTimerExpiry
  rw [hd]

/-- A light unit that makes duty computations holds no alarm. -/
theorem State.alarmHold_of_lightComputes {s : State} (h : s.lightComputes = true) : s.light.alarmHold = false := by
  simp only [State.lightComputes, Bool.and_eq_true, Bool.not_eq_true'] at h
  exact h.1

/-- Settles O38: LIGHT_SET by its range and warmth, and a step of the ramp. -/
theorem lightSetAndRampSteps : Obligations.LightSetAndRampSteps := by
  refine ⟨fun s x h hwaits => ⟨exec_lightSet_outOfRange h, fun hl hsame hw => ?same, fun w y g hl hx hw hnew hon hy hg => ?lit,
    fun w hl hx hw hnew hoff => ?dark⟩, fun s y d a g hd hwaits ha hy hg => ?ramp⟩
  case same =>
    have hrange : ∀ w, x.warmth = some w → w ≤ 64 := by
      intro w hsome
      rcases hsame with hx | hx
      · cases hsome.symm.trans hx
      · exact (Option.some.inj (hsome.symm.trans hx)).trans_le hw
    rw [exec_lightSet_inRange h hl hrange, State.setWarmth_same (by exact hsame), State.retarget_eq]
    rfl
  case lit =>
    have hhold := State.alarmHold_of_lightComputes hon
    rw [exec_lightSet_inRange h hl (by rw [hx]; rintro _ ⟨⟩; exact hw), hx, State.setWarmth_new (by exact hnew),
      State.computeLight_eq (by exact hwaits) (by exact hon), State.retarget_eq,
      if_neg (by show ¬s.light.alarmHold = true; rw [hhold]; decide), hg, hy]
    rfl
  case dark =>
    rw [exec_lightSet_inRange h hl (by rw [hx]; rintro _ ⟨⟩; exact hw), hx, State.setWarmth_new (by exact hnew),
      State.computeLight_off (by exact hoff), State.retarget_eq]
    rfl
  case ramp =>
    have hstep : exec .rampTimerExpiry s = .next y.computeLight := by
      rw [exec_rampTimerExpiry hd, hy, ha]
      rfl
    rw [hstep]
    refine ⟨fun hon => ?_, fun hoff => ?_⟩
    · rw [State.computeLight_eq (by rw [hy]; exact hwaits) (by rw [hy]; exact hon), hg, hy]
    · rw [State.computeLight_off (by rw [hy]; exact hoff)]

/-! ### LOAD_CURVE (R100) -/

/-- The first point below the one before it, in a curve whose head counts as point `k`. -/
theorem orderFault_falls {c : List Nat} {i : Nat} (k : Nat) (hl : i + 1 < c.length)
    (hfall : c.getD (i + 1) 0 < c.getD i 0) (hrise : ∀ j < i, c.getD j 0 ≤ c.getD (j + 1) 0) :
    orderFault k c = some (k + i + 1) := by
  induction c generalizing k i with
  | nil => exact absurd hl (by simp)
  | cons a rest ih =>
    cases rest with
    | nil => exact absurd hl (by simp)
    | cons b rest =>
      unfold orderFault
      cases i with
      | zero => exact if_pos hfall
      | succ i =>
        have hab : ¬b < a := not_lt.mpr (hrise 0 (Nat.succ_pos i))
        rw [if_neg hab, ih (i := i) (k + 1) (by simpa using hl) hfall (fun j hj => hrise (j + 1) (by omega))]
        congr 1
        omega

theorem orderFault_rising {c : List Nat} (k : Nat) (h : c.Pairwise (· ≤ ·)) : orderFault k c = none := by
  induction c generalizing k with
  | nil => rfl
  | cons a rest ih =>
    obtain ⟨ha, hrest⟩ := List.pairwise_cons.mp h
    cases rest with
    | nil => rfl
    | cons b rest =>
      unfold orderFault
      rw [if_neg (not_lt.mpr (ha b (by simp))), ih _ hrest]

/-- RANGE at the first point above 1,024. -/
theorem curveFault_range {c : List Nat} {i : Nat} (hi : i < c.length) (hbig : 1024 < c.getD i 0)
    (hsmall : ∀ j < i, c.getD j 0 ≤ 1024) : curveFault c = some (i, .range) := by
  have hfind : c.findIdx? (fun v => decide (1024 < v)) = some i := by
    refine List.findIdx?_eq_some_iff_getElem.mpr ⟨hi, ?_, fun j hj => ?_⟩
    · rw [List.getD_eq_getElem c 0 hi] at hbig
      exact decide_eq_true hbig
    · have := hsmall j hj
      rw [List.getD_eq_getElem c 0 (hj.trans hi)] at this
      simpa using this
  unfold curveFault
  rw [hfind]

/-- With no point above 1,024 the head and the order of the points decide. -/
theorem curveFault_inRange {c : List Nat} (h : ∀ v ∈ c, v ≤ 1024) :
    curveFault c = if c.headD 0 ≠ 0 then some (0, .origin) else (orderFault 0 c).map (fun i => (i, .order)) := by
  have hfind : c.findIdx? (fun v => decide (1024 < v)) = none :=
    List.findIdx?_eq_none_iff.mpr fun v hv => decide_eq_false (not_lt.mpr (h v hv))
  unfold curveFault
  rw [hfind]

theorem headD_eq_getD_zero (c : List Nat) : c.headD 0 = c.getD 0 0 := by cases c <;> rfl

theorem exec_loadCurve {s : State} (x : LoadCurveArgs) (h : s.Ready .a) :
    exec (.loadCurve (freshFrame .a) (.fields x)) s = .next ((s.workingOn .a).serveLoadCurve .a x) :=
  congrArg _ (State.frame_serve h (by simp) rfl)

theorem exec_loadCurve_fault {s : State} {c : List Nat} {i : Nat} {r : CurveFault} (h : s.Ready .a) (hl : c.length = 17)
    (hc : curveFault c = some (i, r)) :
    exec (.loadCurve (freshFrame .a) (.fields ⟨c⟩)) s = .next (s.replied .a ⟨.badArgument, .curveFault i r⟩) := by
  rw [exec_loadCurve _ h, State.serveLoadCurve, if_neg (not_not.mpr hl), hc]
  exact congrArg _ (State.give_workingOn _ _ _)

theorem exec_loadCurve_good {s : State} {c : List Nat} (h : s.Ready .a) (hl : c.length = 17) (hc : curveFault c = none) :
    exec (.loadCurve (freshFrame .a) (.fields ⟨c⟩)) s
      = .next (({ s with light := { s.light with curve := c } }.workingOn .a).computeLight.say .a .ok) := by
  rw [exec_loadCurve _ h, State.serveLoadCurve, if_neg (not_not.mpr hl), hc]
  rfl

/-! ### The strings in a period (R97, R98) -/

/-- With the period counter running, a boundary loads a pending set, and a quiet state stays settled. -/
theorem exec_periodBoundary {s : State} (hr : s.light.running = true) (hq : s.Quiet) (hn : s.NoTake) :
    exec .periodBoundary s = .next { s with light := s.light.boundary } := by
  show execPeriodBoundary s = _
  rw [execPeriodBoundary, if_pos hr, State.settle_quiet (by exact hq) (by exact hn)]

theorem LightUnit.boundary_loads {l : LightUnit} {d : Duty} (h : l.buffer = some d) :
    l.boundary = { l with duty := d, buffer := none } := by
  unfold LightUnit.boundary
  rw [h]

theorem LightUnit.boundary_empty {l : LightUnit} (h : l.buffer = none) : l.boundary = l := by
  unfold LightUnit.boundary
  rw [h]

theorem State.warmOut_iff (s : State) (n : Nat) :
    s.warmOut n = true ↔ s.light.running = true ∧ n < s.light.duty.warm := by simp [State.warmOut]

theorem State.coolOut_iff (s : State) (n : Nat) : s.coolOut n = true ↔ s.light.running = true
    ∧ s.light.duty.warm + s.light.duty.gap ≤ n ∧ n < s.light.duty.warm + s.light.duty.gap + s.light.duty.cool := by
  simp [State.coolOut, and_assoc]

/-- Settles O39: the curve taken or its first failure, a period's boundary, and the strings. -/
theorem curveLoadsAndPeriodsTakeBuffer : Obligations.CurveLoadsAndPeriodsTakeBuffer := by
  refine ⟨⟨fun s c h hwaits => ⟨fun hl hrange hzero hrise y g hy hg => ?good, fun i hl hi hbig hsmall => ?range⟩,
    fun s hr hq hn => ⟨fun d hd => ?loads, fun hb => ?empty⟩⟩,
    fun s c h hl hrange => ⟨fun horigin => ?origin, fun i hzero hi hfall hrise => ?order⟩,
    fun s n => ⟨fun hoff => ?stopped, fun hon => ?running, fun ⟨hwarm, hcool⟩ => ?apart⟩,
    fun w gap t hw hgap ht => ?split⟩
  case good =>
    have hhead : c.headD 0 = 0 := by rw [List.headD_eq_head?_getD, hzero]; rfl
    have hc : curveFault c = none := by
      rw [curveFault_inRange hrange, if_neg (not_not.mpr hhead), orderFault_rising 0 hrise]
      rfl
    rw [exec_loadCurve_good h hl hc, ← hy]
    refine ⟨fun hon => ?_, fun hoff => ?_⟩
    · rw [State.computeLight_eq (by rw [hy]; exact hwaits) (by rw [hy]; exact hon), hg, hy]
      rfl
    · rw [State.computeLight_off (by rw [hy]; exact hoff), hy]
      rfl
  case range => exact exec_loadCurve_fault h hl (curveFault_range (by omega) hbig hsmall)
  case loads => rw [exec_periodBoundary hr hq hn, LightUnit.boundary_loads hd]
  case empty => rw [exec_periodBoundary hr hq hn, LightUnit.boundary_empty hb]
  case origin =>
    refine exec_loadCurve_fault h hl ?_
    rw [curveFault_inRange hrange, headD_eq_getD_zero, if_pos horigin]
  case order =>
    refine exec_loadCurve_fault h hl ?_
    rw [curveFault_inRange hrange, headD_eq_getD_zero, if_neg (not_not.mpr hzero), orderFault_falls 0 (by omega) hfall hrise,
      Nat.zero_add]
    rfl
  case stopped => exact ⟨by simp [State.warmOut, hoff], by simp [State.coolOut, hoff]⟩
  case running => exact ⟨by simp [State.warmOut_iff, hon], by simp [State.coolOut_iff, hon]⟩
  case apart =>
    obtain ⟨-, hwarm⟩ := (s.warmOut_iff n).mp hwarm
    obtain ⟨-, hcool, -⟩ := (s.coolOut_iff n).mp hcool
    omega
  case split =>
    have hsum := splitTotal_sum hw gap t
    have hkept : (splitTotal w gap t).gap = gap := rfl
    exact ⟨hsum, hkept, by omega⟩

end Sys2Proof.Machine

namespace Sys2Proof.Machine

/-! ### TX_LEASE (R121) -/

theorem leaseInRange_iff (x : TxLeaseArgs) :
    leaseInRange x = true ↔ 1 ≤ x.mW ∧ x.mW ≤ 3000 ∧ 10 ≤ x.duration ∧ x.duration ≤ 2000 := by
  simp [leaseInRange, inRange, and_assoc]

theorem State.fits_iff (s : State) (others d floor : Nat) :
    s.fits others d floor = true ↔ others + d + floor ≤ s.head.ceiling := decide_eq_true_iff

theorem State.leaseFits_iff (s : State) (mW : Nat) : s.leaseFits mW = true ↔ s.head.active = none ∧ s.head.apWait = none
    ∧ s.head.panelWait = none ∧ s.head.loads + mW + min s.head.light.demand s.params.lightFloorMW ≤ s.head.ceiling := by
  simp only [State.leaseFits, Bool.and_eq_true, Option.isNone_iff_eq_none, State.fits_iff, State.lightFloor, and_assoc]

theorem exec_txLease {s : State} (x : TxLeaseArgs) (h : s.Ready .r) :
    exec (.txLease (freshFrame .r) (.fields x)) s = .next ((s.workingOn .r).serveTxLease .r x) :=
  congrArg _ (State.frame_serve h (by simp) rfl)

/-- A lease within the limits and without the power alarm is granted at once or parked (R121, steps 4 and 5). -/
theorem State.serveTxLease_allowed {s : State} (p : Port) {x : TxLeaseArgs} (hx : leaseInRange x = true)
    (ha : s.head.alarm = none) (hl : s.head.radioIdle + x.mW ≤ s.params.ceilingMaxMW - s.params.reserveMW) :
    s.serveTxLease p x = if s.leaseFits x.mW then (s.grantLease x.mW x.duration .atOnce).say p .ok
      else ({ s with head := { s.head with parked := some ⟨x.mW, x.duration⟩ } }.rebalance).say p .accepted := by
  simp [State.serveTxLease, hx, State.alarmed, ha, State.withinLimit, hl]

/-- A lease granted: RADIO rises by it, and the light keeps what is left (R104, R121). -/
theorem State.grantLease_eq {s : State} {mW g : Nat} (duration : Nat) (o : LeaseOrigin)
    (hg : g = min s.head.light.demand (s.head.ceiling - (s.head.ap.grant + s.head.panel.grant + (s.head.radio.grant + mW)))) :
    s.grantLease mW duration o = { s with
      light := s.litBy g
      head := { s.head with
        radio := ⟨s.head.radio.demand + mW, s.head.radio.grant + mW⟩
        active := some ⟨mW, duration, s.now, s.now + duration, o⟩, unreleased := none
        light := ⟨s.head.light.demand, g⟩ } } := by
  unfold State.grantLease
  rw [State.lightBeside_eq, hg]
  rfl

/-- A rebalance in which the parked lease cannot be granted, and nothing else waits, changes the light and its grant only
(R117). -/
theorem State.rebalance_staysParked {s : State} {l : ParkedLease} (ha : s.head.alarm = none) (hap : s.head.apWait = none)
    (hw : s.head.panelWait = none) (hp : s.head.parked = some l) (hf : s.leaseFits l.mW = false) : s.rebalance = { s with
      light := s.litBy (min s.head.light.demand (s.head.ceiling - s.head.loads))
      head := { s.head with
        light := { s.head.light with grant := min s.head.light.demand (s.head.ceiling - s.head.loads) } } } := by
  have hlast : s.rebalance = s.lightBeside s.head.loads := by
    simp [State.rebalance, State.alarmed, ha, State.rebalanceAp, hap, State.rebalancePanel, hw, State.rebalanceLease, hp, hf,
      State.rebalanceLight]
  rw [hlast, State.lightBeside_eq]

/-- Settles O40: TX_LEASE refused by its range, the alarm or the limit, granted, or parked. -/
theorem txLeaseGrantedParkedOrRefused : Obligations.TxLeaseGrantedParkedOrRefused := by
  intro s mW ms idle g f h hidle hg hf
  refine ⟨fun hbad => ?badRange, fun hm hm' hd hd' => ?inRange⟩
  case badRange =>
    have hno : ¬leaseInRange ⟨mW, ms⟩ = true := by rwa [leaseInRange_iff]
    rw [exec_txLease _ h, State.serveTxLease, if_pos (by simpa using hno), State.say_workingOn _ h]
  case inRange =>
    have hx : leaseInRange ⟨mW, ms⟩ = true := (leaseInRange_iff _).mpr ⟨hm, hm', hd, hd'⟩
    have hpassed : ¬(!leaseInRange ⟨mW, ms⟩) = true := by simp [hx]
    obtain rfl : idle = (s.workingOn .r).head.radioIdle := hidle
    refine ⟨fun ha => ?halted, fun ha hover hon => ?noHeadroom, fun ha hl hap hpanel => ?allowed⟩
    case halted =>
      rw [exec_txLease _ h, State.serveTxLease, if_neg hpassed, if_pos (by exact ha), State.say_workingOn _ h]
    case noHeadroom =>
      have hcalm : ¬(s.workingOn .r).alarmed = true := by
        show ¬s.head.alarm.isSome = true
        simp [ha]
      have hlimit : (!(s.workingOn .r).withinLimit ((s.workingOn .r).head.radioIdle + mW)) = true := by
        rw [Bool.not_eq_true']
        exact decide_eq_false (not_le.mpr hover)
      rw [exec_txLease _ h, State.serveTxLease, if_neg hpassed, if_neg hcalm, if_pos hlimit, State.raise_on _ _ (by exact hon)]
      rfl
    case allowed =>
      have hserved := State.serveTxLease_allowed (s := s.workingOn .r) .r hx ha hl
      have hiff := (s.workingOn .r).leaseFits_iff mW
      rw [exec_txLease _ h, hserved]
      refine ⟨fun hactive hroom => ?grants, fun hbusy => ?parks⟩
      case grants =>
        rw [if_pos (hiff.mpr ⟨hactive, hap, hpanel, hroom⟩), State.grantLease_eq ms .atOnce (by exact hg)]
        rfl
      case parks =>
        have hno : ¬(s.workingOn .r).leaseFits mW = true := by
          rw [hiff]
          rintro ⟨hactive, -, -, hroom⟩
          rcases hbusy with hbusy | hbusy
          · rw [show s.head.active = none from hactive] at hbusy
            cases hbusy
          · exact absurd hroom (not_le.mpr hbusy)
        rw [if_neg hno, State.rebalance_staysParked (by exact ha) (by exact hap) (by exact hpanel) rfl
          (by exact Bool.eq_false_iff.mpr hno), hf]
        rfl

/-! ### The power alarm cleared (R109, R129, R130) -/

/-- The engine leaves HALTED (R64). -/
theorem State.turnAlarmCleared_eq (s : State) : s.turnAlarmCleared = { s with
    turn := { s.turn with engine := if s.turn.engine = .halted then .idle else s.turn.engine } } := by
  unfold State.turnAlarmCleared
  split <;> rfl

/-- The alarm hold ends, and with the period counter running the ramp starts toward the kept target (R109). -/
theorem State.lightAlarmCleared_eq (s : State) : s.lightAlarmCleared = { s with
    light := { s.light with
      alarmHold := false
      rampTimer := if s.light.running = false then s.light.rampTimer else if s.light.target = s.light.applied then none
        else if s.light.rampTimer = none then some (s.now + s.params.rampMs) else s.light.rampTimer } } := by
  unfold State.lightAlarmCleared
  dsimp only
  cases hr : s.light.running
  · rfl
  · rw [if_pos rfl, State.retarget_eq]
    rfl

/-- All that the clearing of an alarm changes with no grant waiting (R130). -/
theorem State.alarmClear_eq {s : State} {g : Nat} (hap : s.head.apWait = none) (hpanel : s.head.panelWait = none)
    (hparked : s.head.parked = none) (hg : g = min s.head.light.demand (s.head.ceiling - s.head.loads)) :
    s.alarmClear = { s with
      light := s.lightAlarmCleared.litBy g
      turn := { s.turn with engine := if s.turn.engine = .halted then .idle else s.turn.engine }
      head := { s.head with alarm := none, clearTimer := none, light := ⟨s.head.light.demand, g⟩ } } := by
  unfold State.alarmClear
  dsimp only
  rw [State.turnAlarmCleared_eq, State.lightAlarmCleared_eq, State.lightAlarmCleared_eq,
    State.rebalance_eq (by exact ⟨rfl, hap, hpanel, hparked⟩), hg]
  rfl

theorem exec_clearAlarm {s : State} (h : s.Ready .a) :
    exec (.clearAlarm (freshFrame .a) (.fields ())) s = .next ((s.workingOn .a).serveClearAlarm .a) :=
  congrArg _ (State.frame_serve h (by simp) rfl)

theorem State.alarmGone_iff (s : State) : s.alarmGone = true ↔ s.head.vcut ≤ s.head.v ∧ s.head.loads ≤ s.head.ceiling := by
  simp [State.alarmGone]

theorem State.serveClearAlarm_gone {s : State} (p : Port) (ha : s.head.alarm.isSome = true) (hg : s.alarmGone = true) :
    s.serveClearAlarm p = (s.alarmClear.say p .ok).settle := by simp [State.serveClearAlarm, State.alarmed, ha, hg]

theorem State.serveClearAlarm_stays {s : State} (p : Port) (ha : s.head.alarm.isSome = true) (hg : s.alarmGone = false) :
    s.serveClearAlarm p = s.give p ⟨.refusedState, .alarmStays s.head.v s.head.vcut s.head.loads s.head.ceiling⟩ := by
  simp [State.serveClearAlarm, State.alarmed, ha, hg]

theorem exec_alarmClearTimerExpiry {s : State} {d : Nat} (hd : s.head.clearTimer = some d) :
    exec .alarmClearTimerExpiry s = .next (s.atTime d).alarmClear.settle := by
  show execAlarmClearTimerExpiry s = _
  unfold execAlarmClearTimerExpiry
  rw [hd]

/-- Settles O43: CLEAR_ALARM of an alarm that is gone or stays, and the clear timer's expiry. -/
theorem powerAlarmClears : Obligations.PowerAlarmClears := by
  intro s y g hap hpanel hparked hq hqueue ha hy hg
  refine ⟨fun h hv hloads => ?clears, fun h hstays => ?refuses, fun d z hd hz => ?expires⟩
  case clears =>
    rw [exec_clearAlarm h, State.serveClearAlarm_gone (s := s.workingOn .a) _ ha ((State.alarmGone_iff _).mpr ⟨hv, hloads⟩),
      State.alarmClear_eq (by exact hap) (by exact hpanel) (by exact hparked) (by exact hg),
      State.settle_quiet (by exact hq) (.inr (by exact hqueue)), State.lightAlarmCleared_eq, hy]
    rfl
  case refuses =>
    have hno : (s.workingOn .a).alarmGone = false := by
      rw [Bool.eq_false_iff, Ne, State.alarmGone_iff]
      exact hstays
    rw [exec_clearAlarm h, State.serveClearAlarm_stays (s := s.workingOn .a) _ ha hno, State.give_workingOn]
    rfl
  case expires =>
    rw [exec_alarmClearTimerExpiry hd, State.alarmClear_eq (by exact hap) (by exact hpanel) (by exact hparked) (by exact hg),
      State.settle_quiet (by exact hq) (.inr (by exact hqueue)), State.lightAlarmCleared_eq, hz]
    rfl

end Sys2Proof.Machine

namespace Sys2Proof.Machine

/-! ### Leases that end (R115, R123, R125) -/

theorem exec_txRelease {s : State} (h : s.Ready .r) :
    exec (.txRelease (freshFrame .r) (.fields ())) s = .next ((s.workingOn .r).serveTxRelease .r) :=
  congrArg _ (State.frame_serve h (by simp) rfl)

theorem exec_txCancel {s : State} (h : s.Ready .r) :
    exec (.txCancel (freshFrame .r) (.fields ())) s = .next ((s.workingOn .r).serveTxCancel .r) :=
  congrArg _ (State.frame_serve h (by simp) rfl)

theorem exec_leaseExpiry {s : State} {l : Lease} (hl : s.head.active = some l) :
    exec .leaseExpiry s = .next ((s.atTime l.expiry).endLease l (some .expired)).rebalance := by
  show execLeaseExpiry s = _
  unfold execLeaseExpiry
  rw [hl]

/-- An active lease ended with no grant waiting: its milliwatts leave RADIO and the light takes what is left (R115, R117). -/
theorem State.endLease_rebalance {s : State} {l : Lease} {g : Nat} (e : Option LeaseEnd) (hw : s.NoWaits)
    (hg : g =
      min s.head.light.demand (s.head.ceiling - (s.head.ap.grant + s.head.panel.grant + (s.head.radio.grant - l.mW)))) :
    (s.endLease l e).rebalance = { s with
      light := s.litBy g
      head := { s.head with
        active := none, unreleased := e, light := ⟨s.head.light.demand, g⟩
        radio := ⟨s.head.radio.demand - l.mW, s.head.radio.grant - l.mW⟩ } } := by
  rw [State.rebalance_eq (by exact hw), hg]
  rfl

/-- Settles O42: the parked lease, then the active one's origin, decide the answer. -/
theorem txCancelRemovesParkedLease : Obligations.TxCancelRemovesParkedLease := by
  intro s h
  rw [exec_txCancel h]
  unfold State.serveTxCancel
  rw [show (s.workingOn .r).head = s.head from rfl]
  refine ⟨fun hp => ?parked, fun l hp hl ho => ?late, fun hp hl => ?refused⟩
  case parked =>
    obtain ⟨p, hp⟩ := Option.isSome_iff_exists.mp hp
    rw [hp]
    rfl
  case late =>
    rw [hp, hl]
    dsimp only
    rw [if_pos ho, State.say_workingOn _ h]
  case refused =>
    rw [hp]
    rcases hl with hl | ⟨l, hl, ho⟩
    · rw [hl]
      exact congrArg _ (State.say_workingOn _ h)
    · rw [hl]
      dsimp only
      rw [if_neg (by rw [ho]; decide), State.say_workingOn _ h]

/-! ### Leases that are revoked (R118, R122, R124, R127) -/

section
variable {s : State} {l : Lease}

/-- A raise in the RM set, kept while the radio domain is ON (R173). -/
theorem State.raiseRm_eq (s : State) (src : RmSource) (d : RmDetail) : s.raiseRm src d = { s with
    notices := if s.bs.radio then { s.notices with rm := s.notices.rm.set src.idx (some d) } else s.notices } := by
  unfold State.raiseRm
  split <;> rfl

theorem State.revokeActive_some (why : RevokeReason) (hl : s.head.active = some l) :
    s.revokeActive why = s.revoked l why := by
  unfold State.revokeActive
  rw [hl]
  exact State.raiseRm_eq _ _ _

theorem State.revokeActive_none (why : RevokeReason) (hl : s.head.active = none) : s.revokeActive why = s := by
  unfold State.revokeActive
  rw [hl]

/-- A sample's ceiling at or above the loads sheds no lease, nor does one that finds none active (R122). -/
theorem State.shedLease_keeps (h : s.head.active = none ∨ s.head.loads ≤ s.head.ceiling) : s.shedLease = s := by
  unfold State.shedLease
  rcases h with h | h
  · rw [State.revokeActive_none _ h, ite_self]
  · rw [if_neg (Nat.not_lt.mpr h)]

/-- The causes of the power alarm judged at a sample, and the rebalance where there is none (R117, R127). -/
def State.alarmOrRebalance (s : State) (x : Sample) : State :=
  if x.v < s.params.vcutMV then s.alarmRaise .voltage
  else if s.head.ceiling < s.head.loads then s.alarmRaise .ceiling
  else s.rebalance

/-- The arbiter's part of a sample taken with the alarm clear (R114, R122, R127). -/
theorem State.arbiterSample_calm (x : Sample) (ha : s.head.alarm = none) :
    s.arbiterSample x = (s.storeCeiling x).firstGrant.shedLease.alarmOrRebalance x := by
  have hcalm : ¬(s.storeCeiling x).firstGrant.alarmed = true := by
    have halarm : (s.storeCeiling x).firstGrant.head.alarm = s.head.alarm := by
      unfold State.firstGrant
      split <;> rfl
    rw [State.alarmed, halarm, ha]
    decide
  exact if_neg hcalm

theorem State.firstGrant_sampled (h : s.head.sampled = true) : s.firstGrant = s := if_pos h

/-- Two states that differ in what the arbiter's part of a sample settles anyway take the sample alike. -/
theorem exec_batterySample_congr {t : State} {x : Sample} (hp : s.bs.power ≠ .depleted) (hbs : t.bs = s.bs)
    (h : s.arbiterSample x = t.arbiterSample x) : exec (.batterySample x) s = exec (.batterySample x) t := by
  show execBatterySample x s = execBatterySample x t
  unfold execBatterySample State.sample State.sampleInterval
  rw [hbs, if_neg hp, if_neg hp, h]

/-- The arbiter and the light unit as the power alarm is raised, its leases still to be cleared (R108, R127). -/
def State.alarmHeld (s : State) (c : AlarmCause) : State :=
  { s with head := { s.head with alarm := some c, clearTimer := none } }.lightAlarm

/-- The alarm is raised alike from a state whose leases are gone already (R124, R127). -/
theorem State.alarmRaise_congr {t : State} {c : AlarmCause} (h : (s.alarmHeld c).alarmLeases = t.alarmHeld c)
    (hactive : t.head.active = none) (hparked : t.head.parked = none) (hv : t.head.v = s.head.v)
    (hceiling : t.head.ceiling = s.head.ceiling) : s.alarmRaise c = t.alarmRaise c := by
  have hgone : (t.alarmHeld c).alarmLeases = t.alarmHeld c := State.alarmLeases_none hactive hparked
  show (s.alarmHeld c).alarmLeases.turnAlarm.panelAlarm.raise .powerAlarm (.powerAlarm c s.head.v s.head.ceiling)
    = (t.alarmHeld c).alarmLeases.turnAlarm.panelAlarm.raise .powerAlarm (.powerAlarm c t.head.v t.head.ceiling)
  rw [h, hgone, hv, hceiling]

/-- The alarm's leases (R124): the active one alone, with a parked one, and a parked one alone. -/
theorem State.alarmLeases_active (hl : s.head.active = some l) (hk : s.head.parked = none) :
    s.alarmLeases = s.revoked l .alarm := by
  have hkept : { s with head := { s.head with parked := none } } = s := by rw [← hk]
  unfold State.alarmLeases
  rw [hl, hk]
  dsimp only
  rw [hkept]
  exact State.raiseRm_eq _ _ _

theorem State.alarmLeases_both {p : ParkedLease} (hl : s.head.active = some l) (hk : s.head.parked = some p) :
    s.alarmLeases = { s.revoked l .alarm with
      head := { (s.revoked l .alarm).head with parked := none }
      notices := if s.bs.radio then { s.notices with rm := s.notices.rm.set 2 (some (.leaseRevoked l.mW .alarm .both)) }
        else s.notices } := by
  unfold State.alarmLeases
  rw [hl, hk]
  exact State.raiseRm_eq _ _ _

theorem State.alarmLeases_parked {p : ParkedLease} (hl : s.head.active = none) (hk : s.head.parked = some p) :
    s.alarmLeases = { s with
      head := { s.head with parked := none }
      notices := if s.bs.radio then
          { s.notices with rm := s.notices.rm.set 2 (some (.leaseRevoked p.mW .alarm .parked)) }
        else s.notices } := by
  unfold State.alarmLeases
  rw [hl, hk]
  exact State.raiseRm_eq _ _ _

/-- A sample below vcut whose ceiling sheds no lease does what it does once the alarm's leases are gone (R124, R127). -/
theorem exec_batterySample_alarmLeases {t : State} {x : Sample} (hp : s.bs.power ≠ .depleted) (hs : s.head.sampled = true)
    (ha : s.head.alarm = none) (hv : x.v < s.params.vcutMV)
    (hkeeps : s.head.active = none ∨ s.head.loads ≤ (s.storeCeiling x).head.ceiling)
    (ht : t.bs = s.bs ∧ t.params = s.params ∧ t.head.sampled = true ∧ t.head.alarm = none)
    (hactive : t.head.active = none) (hparked : t.head.parked = none)
    (h : ((s.storeCeiling x).alarmHeld .voltage).alarmLeases = (t.storeCeiling x).alarmHeld .voltage) :
    exec (.batterySample x) s = exec (.batterySample x) t := by
  obtain ⟨hbs, hparams, hsampled, halarm⟩ := ht
  have hraise : ∀ u : State, u.head.sampled = true → u.head.alarm = none → x.v < u.params.vcutMV →
      (u.head.active = none ∨ u.head.loads ≤ (u.storeCeiling x).head.ceiling) →
      u.arbiterSample x = (u.storeCeiling x).alarmRaise .voltage := fun u hu hua huv huk => by
    rw [State.arbiterSample_calm x hua, State.firstGrant_sampled (by exact hu), State.shedLease_keeps (by exact huk)]
    exact if_pos huv
  refine exec_batterySample_congr hp hbs ?_
  rw [hraise s hs ha hv hkeeps, hraise t hsampled halarm (by rw [hparams]; exact hv) (.inl hactive)]
  refine State.alarmRaise_congr h hactive hparked rfl ?_
  show (t.storeCeiling x).head.ceiling = (s.storeCeiling x).head.ceiling
  unfold State.storeCeiling
  dsimp only
  rw [hparams]

/-- A sample whose ceiling is below the loads does what it does once the active lease is revoked (R122). -/
theorem exec_batterySample_shed {x : Sample} (hp : s.bs.power ≠ .depleted) (hs : s.head.sampled = true)
    (ha : s.head.alarm = none) (hl : s.head.active = some l) (hc : (s.storeCeiling x).head.ceiling < s.head.loads) :
    exec (.batterySample x) s = exec (.batterySample x) (s.revoked l .ceiling) := by
  refine exec_batterySample_congr hp rfl ?_
  have hshed : (s.storeCeiling x).shedLease = (s.storeCeiling x).revoked l .ceiling :=
    (if_pos hc).trans (State.revokeActive_some _ hl)
  rw [State.arbiterSample_calm x ha, State.firstGrant_sampled (by exact hs), hshed,
    State.arbiterSample_calm (s := s.revoked l .ceiling) x ha, State.firstGrant_sampled (by exact hs),
    State.shedLease_keeps (.inl rfl)]
  rfl

/-- The ceiling a sample sets (R114). -/
theorem State.storeCeiling_ceiling {x : Sample} {voc imax : Nat}
    (hvoc : voc = x.v + (if x.i < 0 then x.i.natAbs else 0) * s.params.resrMOhm / 1000)
    (himax : imax = if voc ≤ s.params.vcutMV then 0 else (voc - s.params.vcutMV) * 1000 / s.params.resrMOhm) :
    (s.storeCeiling x).head.ceiling
      = min (imax * s.params.vcutMV / 1000) s.params.ceilingMaxMW - s.params.reserveMW := by
  have hdrop : (-x.i).toNat = if x.i < 0 then x.i.natAbs else 0 := by
    split <;> omega
  rw [himax, hvoc, ← hdrop]
  rfl

theorem State.judgeAp_active (hl : s.head.active = none) : s.judgeAp.head.active = none := by
  cases hf : s.apFits with
  | true =>
    rw [State.judgeAp_fits hf]
    exact hl
  | false =>
    have hno : ¬s.apFits = true := by rw [hf]; decide
    unfold State.judgeAp
    rw [State.revokeActive_none _ hl]
    dsimp only
    rw [if_neg hno, if_neg hno]
    exact hl

/-- An AP power-up that does not fit revokes the active lease and is judged again; a rebalance follows (R118). -/
theorem State.requestAp_revokes (ha : s.head.alarm = none) (hl : s.head.active = some l)
    (hf : s.head.ceiling < s.head.panel.grant + s.head.radio.grant + s.params.apMW) :
    s.requestAp = (s.revoked l .ap).apAsked.judgeAp.rebalance := by
  have hshort : ¬s.apAsked.apFits = true := by
    refine mt of_decide_eq_true ?_
    show ¬s.head.panel.grant + s.head.radio.grant + s.params.apMW + 0 ≤ s.head.ceiling
    omega
  have hjudge : s.apAsked.judgeAp = (s.revoked l .ap).apAsked.judgeAp := by
    have hrevoke : s.apAsked.revokeActive .ap = (s.revoked l .ap).apAsked := State.revokeActive_some _ hl
    have hagain := State.revokeActive_none (s := (s.revoked l .ap).apAsked) .ap rfl
    unfold State.judgeAp
    rw [if_neg hshort, hrevoke, hagain]
    dsimp only
    split <;> rfl
  have hgone : (s.revoked l .ap).apAsked.judgeAp.head.active = none := State.judgeAp_active rfl
  unfold State.requestAp
  rw [if_neg (by simp [State.alarmed, ha])]
  show (if (s.apAsked.judgeAp.head.apWait.isSome
    || (s.apAsked.head.active.isSome && s.apAsked.judgeAp.head.active.isNone)) = true then s.apAsked.judgeAp.rebalance
    else s.apAsked.judgeAp) = _
  rw [hjudge, hgone, if_pos]
  rw [show s.apAsked.head.active = some l from hl]
  simp

/-- An AP power-up that fits once the active lease is revoked is granted (R118, R124). -/
theorem State.requestAp_revokes_fits (hw : s.NoWaits) (hl : s.head.active = some l)
    (hf : s.head.ceiling < s.head.panel.grant + s.head.radio.grant + s.params.apMW)
    (hfit : s.head.panel.grant + (s.head.radio.grant - l.mW) + s.params.apMW ≤ s.head.ceiling) :
    s.requestAp = (s.revoked l .ap).apUp := by
  obtain ⟨ha, hap, hpanel, hparked⟩ := hw
  have hjudged : (s.revoked l .ap).apAsked.judgeAp = (s.revoked l .ap).apUp :=
    State.judgeAp_fits (decide_eq_true hfit)
  rw [State.requestAp_revokes ha hl hf, hjudged, State.rebalance_same (by exact ⟨ha, rfl, hpanel, hparked⟩) rfl]

/-- An AP power-up that does not fit even then waits, judged, with NO_HEADROOM and the light at what is left (R117, R118). -/
theorem State.requestAp_revokes_short {z : State} {g : Nat} (hz : z = s.revoked l .ap) (hw : s.NoWaits)
    (hl : s.head.active = some l) (hoff : s.bs.ap = .off)
    (hshort : s.head.ceiling < s.head.panel.grant + (s.head.radio.grant - l.mW) + s.params.apMW)
    (hn : z.NoWake .noHeadroom)
    (hg : g =
      min s.head.light.demand (s.head.ceiling - (s.head.ap.grant + s.head.panel.grant + (s.head.radio.grant - l.mW)))) :
    s.requestAp = { z.apWaiting .judged with
      light := s.litBy g
      head := { (z.apWaiting .judged).head with light := ⟨s.head.light.demand, g⟩ }
      notices := { z.notices with
        ap := z.notices.ap.modify 18 (fun n => n.raised (.noHeadroom .ap s.params.apMW s.head.ceiling)) } } := by
  obtain ⟨ha, hap, hpanel, hparked⟩ := hw
  subst hz
  have hno : (s.revoked l .ap).apAsked.apFits = false := by
    refine decide_eq_false ?_
    show ¬s.head.panel.grant + (s.head.radio.grant - l.mW) + s.params.apMW + 0 ≤ s.head.ceiling
    omega
  have hquiet : (s.revoked l .ap).apAsked.NoWake .noHeadroom :=
    .inr (hn.resolve_left (by rw [show (s.revoked l .ap).bs.ap = .off from hoff]; decide))
  rw [State.requestAp_revokes ha hl (by omega), State.judgeAp_short hno rfl hquiet,
    State.rebalance_judged (by exact ha) rfl (by exact hno) (by exact hpanel) (by exact hparked), hg]
  rfl

end

/-- Settles O41: the end of a lease by its cause, each followed by the rebalance or the sample it is part of. -/
theorem leaseEndsAtReleaseOrExpiry : Obligations.LeaseEndsAtReleaseOrExpiry := by
  refine ⟨⟨?release, ?late, ?expiry⟩, ?sample, ?parked, ?wake⟩
  case release =>
    intro s l g h hl hw hg
    rw [exec_txRelease h, State.serveTxRelease, show (s.workingOn .r).head.active = some l from hl]
    dsimp only
    rw [State.endLease_rebalance none (by exact hw) (by exact hg)]
    rfl
  case late =>
    intro s h hl
    rw [exec_txRelease h, State.serveTxRelease, show (s.workingOn .r).head.active = none from hl]
    refine ⟨fun he => ?_, fun he => ?_⟩
    · obtain ⟨e, he⟩ := Option.isSome_iff_exists.mp he
      rw [show (s.workingOn .r).head.unreleased = some e from he]
      rfl
    · rw [show (s.workingOn .r).head.unreleased = none from he]
      exact congrArg _ (State.say_workingOn _ h)
  case expiry =>
    intro s l g hl hw hg
    rw [exec_leaseExpiry hl, State.endLease_rebalance (some .expired) (by exact hw) (by exact hg)]
    rfl
  case sample =>
    intro s x voc imax ceiling l hvoc himax hceiling hp hs ha hl
    have hc : (s.storeCeiling x).head.ceiling = ceiling := by rw [State.storeCeiling_ceiling hvoc himax, hceiling]
    refine ⟨fun hlow => exec_batterySample_shed hp hs ha hl (by rw [hc]; exact hlow),
      fun hloads hv hk => ?active, fun p hloads hv hk => ?both⟩
    case active =>
      exact exec_batterySample_alarmLeases hp hs ha hv (.inr (by rw [hc]; exact hloads)) ⟨rfl, rfl, hs, ha⟩ rfl hk
        (State.alarmLeases_active hl hk)
    case both =>
      exact exec_batterySample_alarmLeases hp hs ha hv (.inr (by rw [hc]; exact hloads)) ⟨rfl, rfl, hs, ha⟩ rfl rfl
        (State.alarmLeases_both hl hk)
  case parked =>
    intro s x p hp hs ha hl hk hv
    exact exec_batterySample_alarmLeases hp hs ha hv (.inl hl) ⟨rfl, rfl, hs, ha⟩ hl rfl (State.alarmLeases_parked hl hk)
  case wake =>
    intro s z src d l g hz hwake hdep hdoze hoff hw hl hover hg
    rw [State.raise_wakes d hwake, State.serveWake_doze (by exact hdep) (by exact hdoze) (by exact hoff)]
    refine ⟨fun hfit => ?_, fun hshort hn => ?_⟩
    · rw [hz]
      exact State.requestAp_revokes_fits (s := s.noted src d) hw hl hover hfit
    · exact State.requestAp_revokes_short (s := s.noted src d) hz hw hl hoff hshort hn hg

end Sys2Proof.Machine

namespace Sys2Proof.Machine

/-! ### The radio domain switched on and off (R119, R126, R146) -/

section
variable {s : State}

theorem exec_radioPower (on : Bool) (h : s.Ready .a) :
    exec (.radioPower (freshFrame .a) (.fields ⟨on⟩)) s = .next ((s.workingOn .a).serveRadioPower .a ⟨on⟩) :=
  congrArg _ (State.frame_serve h (by simp) rfl)

theorem exec_radioSleep (h : s.Ready .r) :
    exec (.radioSleep (freshFrame .r) (.fields ())) s = .next (s.refusedWith .r .ok).radioOff.settle := by
  refine congrArg _ ((State.frame_serve h (by simp) rfl).trans ?_)
  show ((s.workingOn .r).say .r .ok).radioOff.settle = _
  rw [State.say_workingOn _ h]

theorem exec_radioPower_off (h : s.Ready .a) :
    exec (.radioPower (freshFrame .a) (.fields ⟨false⟩)) s = .next (s.refusedWith .a .ok).radioOff.settle := by
  refine (exec_radioPower _ h).trans (congrArg _ ?_)
  show ((s.workingOn .a).say .a .ok).radioOff.settle = _
  rw [State.say_workingOn _ h]

/-- A radio power-on that fits with the light shed: RADIO holds its idle demand, and the light keeps what is left (R119). -/
theorem State.radioOn_fits {g : Nat} (hr : s.bs.radio = false) (ha : s.head.alarm = none)
    (hf : s.head.ap.grant + s.head.panel.grant + s.params.radioIdleMW ≤ s.head.ceiling)
    (hg : g =
      min s.head.light.demand (s.head.ceiling - (s.head.ap.grant + s.head.panel.grant + s.params.radioIdleMW))) :
    s.radioOn = ({ s with
      light := s.litBy g
      bs := { s.bs with radio := true }
      head := { s.head with
        radio := ⟨s.params.radioIdleMW, s.params.radioIdleMW⟩, light := ⟨s.head.light.demand, g⟩ } }, true) := by
  have hfits : s.radioFits = true := decide_eq_true hf
  unfold State.radioOn
  rw [if_neg (by simp [hr]), if_neg (by simp [State.alarmed, ha]), if_pos hfits]
  dsimp only
  rw [State.lightBeside_eq, hg]
  rfl

/-- A radio power-on that does not fit, with the AP ON: NO_HEADROOM and nothing else (R119). -/
theorem State.radioOn_short (hr : s.bs.radio = false) (ha : s.head.alarm = none) (hon : s.bs.ap = .on)
    (hf : s.head.ceiling < s.head.ap.grant + s.head.panel.grant + s.params.radioIdleMW) :
    s.radioOn = (s.mark .noHeadroom (.noHeadroom .radio s.params.radioIdleMW s.head.ceiling), false) := by
  have hfits : ¬s.radioFits = true := by simpa [State.radioFits, State.fits] using hf
  unfold State.radioOn
  rw [if_neg (by simp [hr]), if_neg (by simp [State.alarmed, ha]), if_neg hfits, State.raise_on _ _ hon]

theorem State.radioOff_off (hr : s.bs.radio = false) : s.radioOff = s := if_neg (by simp [hr])

/-- The radio switched off leaves nothing to come about by itself in a quiet state that takes no entry. -/
theorem State.radioOff_settle (hr : s.bs.radio = true) (hw : s.NoWaits) (hq : s.Quiet) (ht : s.NoTake) :
    s.radioOff.settle = s.radioOff := by
  obtain ⟨hstage, hdefer, -⟩ := hq
  obtain ⟨_, _, _, _, _, _, hoff, -⟩ := State.radioOff_frame hr hw rfl
  refine State.settle_quiet ?_ ?_ <;> rw [hoff]
  · exact ⟨hstage, hdefer, rfl⟩
  · exact ht

end

/-- Settles O48: the domain already as asked, switched on with room and without, and switched off by either port. -/
theorem radioDomainFollowsRequests : Obligations.RadioDomainFollowsRequests := by
  refine ⟨fun s hq ht hw => ⟨fun h => ⟨fun hr => ?onAgain, fun hr => ?offAgain, fun hr hf => ?on,
    fun hr hf hon => ?short, fun hr => ?off⟩, fun h hr => ?sleep⟩, fun s => ⟨decide_eq_true_iff, Iff.rfl⟩⟩
  case onAgain =>
    have hon : (s.workingOn .a).radioOn = (s.workingOn .a, true) := if_pos hr
    rw [exec_radioPower _ h, State.serveRadioPower, hon]
    exact congrArg _ (State.say_workingOn _ h)
  case offAgain =>
    rw [exec_radioPower_off h, State.radioOff_off (by exact hr), State.settle_quiet (by exact hq) (by exact ht)]
  case on =>
    rw [exec_radioPower _ h, State.serveRadioPower, State.radioOn_fits (s := s.workingOn .a) hr hw.1 hf rfl]
    rfl
  case short =>
    rw [exec_radioPower _ h, State.serveRadioPower, State.radioOn_short (s := s.workingOn .a) hr hw.1 hon hf]
    rfl
  case off =>
    obtain ⟨o, f, a, b, r, w, hoff, hclosed, hring⟩ := (s.refusedWith .a .ok).radioOff_frame hr hw rfl
    have hsettle := State.radioOff_settle (s := s.refusedWith .a .ok) hr hw hq ht
    refine ⟨_, (exec_radioPower_off h).trans (congrArg _ hsettle), ?_⟩
    rw [hoff] at hclosed hring ⊢
    exact ⟨rfl, rfl, rfl, rfl, hclosed, rfl, rfl, rfl, rfl, rfl, rfl, hring, rfl, rfl, rfl, rfl, rfl, rfl, rfl, rfl⟩
  case sleep =>
    obtain ⟨o, f, a, b, r, w, hoff, hclosed, hring⟩ := (s.refusedWith .r .ok).radioOff_frame hr hw rfl
    have hsettle := State.radioOff_settle (s := s.refusedWith .r .ok) hr hw hq ht
    refine ⟨_, (exec_radioSleep h).trans (congrArg _ hsettle), ?_⟩
    rw [hoff] at hclosed hring ⊢
    exact ⟨rfl, rfl, rfl, rfl, hclosed, rfl, rfl, rfl, rfl, rfl, rfl, hring, rfl, rfl, rfl, rfl, rfl, rfl, rfl, rfl⟩

end Sys2Proof.Machine

namespace Sys2Proof.Machine

/-! ### RESET_PORT on Port R (R126, R166, R173, R181) -/

/-- The RADIO entry once the active lease, if there is one, has ended (R115, R123). -/
def Headroom.radioUnleased (h : Headroom) : Allot :=
  match h.active with
  | some l => ⟨h.radio.demand - l.mW, h.radio.grant - l.mW⟩
  | none => h.radio

section
variable {s : State}

theorem State.dropLeases_eq (s : State) : s.dropLeases = { s with
    head := { s.head with radio := s.head.radioUnleased, active := none, parked := none, unreleased := none } } := by
  unfold State.dropLeases Headroom.radioUnleased
  cases hl : s.head.active with
  | none =>
    dsimp only
    rw [← hl]
  | some l => rfl

/-- All that a Port R reset changes in the blocks (R126, R166, R173). -/
theorem State.resetRadioSide_frame (s : State) : ∃ o f a b r w, s.resetRadioSide = { s with
      pool := { s.pool with owners := o, free := f }
      staging := { s.staging with stream1 := a, stream2 := b, ring := r, write := w, watch := none }
      notices := { s.notices with rm := List.replicate 5 none }
      head := { s.head with radio := s.head.radioUnleased, active := none, parked := none, unreleased := none } }
    ∧ s.resetRadioSide.staging.anyOpen = false ∧ s.RingKept s.resetRadioSide := by
  obtain ⟨o, f, a, b, r, w, hclose⟩ := s.dropLeases.closeAllOpen_frame .radioReset
  have hclosed := s.dropLeases.closeAllOpen_anyOpen .radioReset
  have hring := s.dropLeases.closeAllOpen_ringKept .radioReset
  rw [State.dropLeases_eq] at hclose hclosed hring
  refine ⟨o, f, a, b, r, w, ?_, ?_, ?_⟩
  · unfold State.resetRadioSide
    rw [State.dropLeases_eq, hclose]
    rfl
  · unfold State.resetRadioSide
    rw [State.dropLeases_eq]
    exact hclosed
  · unfold State.resetRadioSide
    rw [State.dropLeases_eq]
    exact hring

/-- A light that has nothing in its buffer after it got its grant made no duty computation. -/
theorem State.litBy_unbuffered {g : Nat} (h : (s.litBy g).buffer = none) : s.litBy g = s.light := by
  unfold State.litBy at h ⊢
  split
  · rfl
  · next hg =>
    rw [if_neg hg] at h
    split
    · next hc =>
      rw [if_pos hc] at h
      cases h
    · rfl

/-- What RESET_PORT on Port R does in the blocks: with a lease ended the light takes what is left, and else stays (R117,
R126, R181). -/
theorem State.serveReset_radio (ha : s.head.alarm = none) (hap : s.head.apWait = none) (hpanel : s.head.panelWait = none) :
    ∃ o f a b r w l lg, s.serveReset .r = { s with
        pool := { s.pool with owners := o, free := f }
        staging := { s.staging with stream1 := a, stream2 := b, ring := r, write := w, watch := none }
        notices := { s.notices with rm := List.replicate 5 none }
        light := l
        head := { s.head with
          radio := s.head.radioUnleased, active := none, parked := none, unreleased := none, light := lg } }
      ∧ (s.serveReset .r).staging.anyOpen = false ∧ s.RingKept (s.serveReset .r)
      ∧ (s.head.active = none → l = s.light ∧ lg = s.head.light) ∧ (l.buffer = none → l = s.light) := by
  obtain ⟨o, f, a, b, r, w, hreset, hclosed, hring⟩ := s.resetRadioSide_frame
  cases hl : s.head.active with
  | none =>
    have hserve : s.serveReset .r = s.resetRadioSide := if_neg (by rw [hl]; decide)
    rw [hserve]
    exact ⟨o, f, a, b, r, w, s.light, s.head.light, hreset, hclosed, hring, fun _ => ⟨rfl, rfl⟩, fun _ => rfl⟩
  | some l =>
    have hserve : s.serveReset .r = s.resetRadioSide.rebalance := if_pos (by rw [hl]; rfl)
    rw [hreset] at hclosed hring
    rw [hserve, hreset, State.rebalance_eq (by exact ⟨ha, hap, hpanel, rfl⟩)]
    exact ⟨o, f, a, b, r, w, _, _, rfl, hclosed, hring, (absurd · (Option.some_ne_none l)),
      fun h => State.litBy_unbuffered (by exact h)⟩

/-- A settled state stays settled where the engine, the controller, the panel drive and the alarm stay, no deferral runs, no
watch is armed, and no fade is completed. -/
theorem State.settled_unwatched {t : State} (h : s.Settled) (hd : s.bs.deferTimer = none) (hturn : t.turn = s.turn)
    (hbs : t.bs = s.bs) (hpanel : t.panel = s.panel) (halarm : t.head.alarm = s.head.alarm) (hw : t.staging.watch = none)
    (hfade : t.fadeComplete = true → s.fadeComplete = true) : t.Settled := by
  rw [State.settled_iff] at h ⊢
  obtain ⟨htake, -, hfadeStage, hrails, hrefresh, hreported, -⟩ := h
  refine ⟨?_, ?_, ?_, ?_, ?_, ?_, ?_⟩
  · simpa only [State.canTake, hturn, hbs] using htake
  · simp [State.deferralOver, hbs, hd]
  · rw [Bool.eq_false_iff] at hfadeStage ⊢
    refine fun ht => hfadeStage ?_
    simp only [State.fadeStageOver, hbs, Bool.and_eq_true] at ht ⊢
    exact ⟨⟨ht.1.1, hfade ht.1.2⟩, ht.2⟩
  · simpa only [State.railsAsked, State.railStage, hbs, hpanel] using hrails
  · simpa only [State.refreshAsked, State.railStage, State.alarmed, hturn, hbs, hpanel, halarm] using hrefresh
  · simpa only [State.railsReported, hbs, hpanel] using hreported
  · simp [State.watchMet, hw]

end

/-- Settles O10: the port is reset, the radio side's records go, and what is left is settled as before. -/
theorem resetPortREndsRadioSide : Obligations.ResetPortREndsRadioSide := by
  intro s hp hs hd ha hap hpanel
  have hcalm : s.head.alarm = none := by simpa [State.alarmed] using ha
  obtain ⟨o, f, a, b, r, w, l, lg, hreset, hclosed, hring, hkept, hbuffer⟩ :=
    (s.setPort .r s.portR.released.resetTaken).serveReset_radio hcalm hap hpanel
  generalize hu : (s.setPort .r s.portR.released.resetTaken).serveReset .r = u at hreset hclosed hring
  have hfade : u.fadeComplete = true → s.fadeComplete = true := fun h => by
    have hnone : l.buffer = none := by
      rw [hreset] at h
      simp only [State.fadeComplete, Bool.and_eq_true, Option.isNone_iff_eq_none] at h
      exact h.2
    rw [hreset, hbuffer hnone] at h
    exact h
  have hset : u.Settled := State.settled_unwatched hs hd (by rw [hreset]; rfl) (by rw [hreset]; rfl) (by rw [hreset]; rfl)
    (by rw [hreset]; rfl) (by rw [hreset]) hfade
  have hexec : exec (.resetPort (freshFrame .r) (.fields ())) s = .next (u.setPort .r u.portR.resetAnswered) := by
    rw [exec_resetPort hp]
    unfold State.takeReset
    rw [State.port_setPort, State.setPort_setPort,
      show (s.port .r).released.resetTaken = s.portR.released.resetTaken from rfl, hu]
    exact congrArg _ (State.settle_of_settled ((u.settled_setPort .r _).mpr hset))
  refine ⟨_, hexec, ?_⟩
  rw [hreset] at hclosed hring ⊢
  refine ⟨?port, rfl, rfl, rfl, hclosed, rfl, rfl, rfl, rfl, rfl, rfl, rfl, rfl, rfl, rfl, rfl, rfl, ?radio, hkept,
    hring⟩
  case port =>
    show (s.portR.released.resetTaken).resetAnswered = _
    cases hb : s.portR.busy <;> simp [PortUnit.resetAnswered, PortUnit.resetTaken, PortUnit.released, hb]
  case radio =>
    show s.head.radioUnleased = _
    unfold Headroom.radioUnleased
    cases s.head.active <;> rfl

end Sys2Proof.Machine

namespace Sys2Proof.Machine

/-! ### A sample that holds the loads (R114, R134 to R138) -/

section
variable {s : State} {x : Sample}

/-- With V at or above vcut and the loads within the ceiling there is no cause of the alarm (R117, R127). -/
theorem State.alarmOrRebalance_calm (hv : s.params.vcutMV ≤ x.v) (hloads : s.head.loads ≤ s.head.ceiling) :
    s.alarmOrRebalance x = s.rebalance :=
  (if_neg (Nat.not_lt.mpr hv)).trans (if_neg (Nat.not_lt.mpr hloads))

/-- The arbiter's part of a sample that holds the loads (R114, R117). -/
def State.arbiterHolds (s : State) (x : Sample) (capped g : Nat) : State := { s with
  light := s.litBy g
  head := { s.head with
    v := x.v, i := x.i, capped := capped, ceiling := capped - s.params.reserveMW, vcut := s.params.vcutMV
    light := ⟨s.head.light.demand, g⟩ } }

theorem State.arbiterSample_holds {f : SampleFigures} {g : Nat} (hf : s.figures x = f) (hs : s.head.sampled = true)
    (hw : s.NoWaits) (hv : s.params.vcutMV ≤ x.v) (hloads : s.head.loads ≤ f.capped - s.params.reserveMW)
    (hg : g = min s.head.light.demand (f.capped - s.params.reserveMW - s.head.loads)) :
    s.arbiterSample x = s.arbiterHolds x f.capped g := by
  subst hf
  rw [State.arbiterSample_calm x hw.1, State.firstGrant_sampled (by exact hs),
    State.shedLease_keeps (.inr (by exact hloads)),
    State.alarmOrRebalance_calm (by exact hv) (by exact hloads), State.rebalance_eq (by exact hw), hg]
  rfl

/-! ### A battery state whose notice wakes the AP (R136, R141, R144, R172) -/

/-- A state with its wake request outstanding. -/
def State.wakeAsked (s : State) : State := { s with notices := { s.notices with wakeOut := true } }

/-- A raise that presents a wake request sets its notice and has the request served (R167, R172). -/
theorem State.raise_wakeAsked {src : Source} (d : Detail) (h : ¬s.NoWake src) :
    s.raise src d = (s.mark src d).wakeAsked.serveWake := by
  rw [State.raise_wakes d h, State.noted, if_neg h]
  rfl

/-- A state with the battery state `b` judged, and the grace timer and the notice that go with it (R136, R138). -/
def State.judgedAs (t : State) (b : Battery) : State := { t with
  bs := { t.bs with
    battery := b
    graceTimer := if b = t.bs.battery then t.bs.graceTimer
      else if b = .critical then some (t.now + t.params.critGraceS * 1000) else none }
  notices := { t.notices with
    ap := if b = t.bs.battery ∨ b = .normal then t.notices.ap
      else if b = .low then t.notices.ap.modify 6 (fun n => n.raised (.batteryLow t.bs.percent t.bs.q))
      else t.notices.ap.modify 7 (fun n => n.raised
        (.batteryCritical t.bs.percent (if t.head.capped = 0 then .headroom else .percent) t.params.critGraceS)) } }

/-- A new battery state whose notice presents a wake request, which is served (R136, R138, R172). -/
theorem State.judge_wakes {t : State} {b : Battery} (hb : t.judged = b) (hchanged : b ≠ t.bs.battery) (hn : b ≠ .normal)
    (hwake : ¬t.NoWake (if b = .low then .batteryLow else .batteryCritical)) :
    t.judge = (t.judgedAs b).wakeAsked.serveWake := by
  have hnew : ¬(b = t.bs.battery ∨ b = .normal) := not_or.mpr ⟨hchanged, hn⟩
  unfold State.judge State.judgedAs
  rw [hb, if_neg hchanged, if_neg hchanged, if_neg hnew]
  cases b with
  | normal => exact absurd rfl hn
  | low =>
    dsimp only
    rw [State.raise_wakeAsked _ (by exact hwake)]
    rfl
  | critical =>
    dsimp only
    rw [State.raise_wakeAsked _ (by exact hwake)]
    rfl

/-- A sample whose arbiter part leaves `w`, and whose new battery state presents a wake request. -/
theorem State.sample_wakes {w : State} {f : SampleFigures} (hw : s.arbiterSample x = w) (hf : s.figures x = f)
    (hbs : w.bs = s.bs) (hparams : w.params = s.params) (hpins : w.pins = s.pins) (hcap : w.head.capped = f.capped)
    (hchanged : f.battery ≠ s.bs.battery) (hn : f.battery ≠ .normal)
    (hwake : ¬w.NoWake (if f.battery = .low then .batteryLow else .batteryCritical)) :
    s.sample x = (w.withFigures x f).wakeAsked.serveWake := by
  subst hf
  have hcontrol : w.controllerSample x s.sampleInterval = { w with bs := { w.bs with
      lastV := x.v, lastI := x.i, q := (s.figures x).q, r := (s.figures x).r, percent := (s.figures x).pct
      charger := (s.figures x).charger } } := by
    unfold State.controllerSample
    rw [hbs, hparams, hpins]
    rfl
  have hjudged : (w.controllerSample x s.sampleInterval).judged = (s.figures x).battery := by
    rw [hcontrol, State.judged_eq]
    dsimp only
    rw [hbs, hparams, hcap]
    rfl
  unfold State.sample
  rw [hw, State.judge_wakes hjudged (by rw [hcontrol, hbs]; exact hchanged) hn (by rw [hcontrol]; exact hwake), hcontrol]
  rw [State.judgedAs, State.withFigures, ← hcap]

/-- A wake that finds the AP OFF in DOZE, with room for it, grants the power-up (R118, R141). -/
theorem State.serveWake_grantsDoze (hdep : s.bs.depleting = false) (hdoze : s.bs.power = .doze) (hoff : s.bs.ap = .off)
    (ha : s.head.alarm = none) (hf : s.head.panel.grant + s.head.radio.grant + s.params.apMW ≤ s.head.ceiling) :
    s.wakeAsked.serveWake = s.apUp := by
  rw [State.serveWake_doze (by exact hdep) (by exact hdoze) (by exact hoff),
    State.requestAp_fits (by exact ha) (by exact hf)]
  rfl

/-- A wake in DEEP with no resume key, with room for the AP, leaves DEEP and grants the power-up (R144). -/
theorem State.serveWake_grantsDeep (hdep : s.bs.depleting = false) (hdeep : s.bs.power = .deep)
    (hkey : s.bs.resumeKey = none) (hmode : s.pool.mode = .selfRefresh) (ha : s.head.alarm = none)
    (hf : s.head.panel.grant + s.head.radio.grant + s.params.apMW ≤ s.head.ceiling) :
    s.wakeAsked.serveWake = s.outOfDeep.apUp := by
  rw [State.serveWake_deep (by exact hdep) (by exact hdeep), State.leaveDeep_plain (by exact hkey) (by exact hmode),
    State.requestAp_fits (by exact ha) (by exact hf)]
  rfl

theorem exec_batterySample_settles {t : State} (hp : s.bs.power ≠ .depleted) (ht : s.sample x = t) (hq : t.Quiet)
    (hn : t.NoTake) : exec (.batterySample x) s = .next t := by
  show execBatterySample x s = _
  unfold execBatterySample
  rw [if_neg hp, ht, State.settle_quiet hq hn]

end

/-- Settles O44: the sample's figures over the arbiter's part, and the power-up its notice may ask for. -/
theorem sampleSetsCeilingAndCharge : Obligations.SampleSetsCeilingAndCharge := by
  intro s y x voc imax capped pct q g k r r' ch nb hvoc himax hcapped hr hk hq hpct hch hnb hg hpower hquiet htake hw hs hv
    hloads hy
  have hf := State.figures_eq hvoc himax hcapped hr hk hq hpct hch hnb
  have harb : s.arbiterSample x = s.arbiterHolds x capped g := State.arbiterSample_holds hf hs hw hv hloads hg
  have hfigures : (s.arbiterHolds x capped g).withFigures x ⟨capped, q, r', pct, ch, nb⟩ = y := hy.symm
  refine ⟨fun hcalm => ?calm, fun hchanged hn hwake hoff hdep hroom => ?wakes⟩
  case calm =>
    have hsample : s.sample x = y := by
      rw [← hfigures]
      exact State.sample_eq harb hf rfl rfl rfl rfl rfl rfl hcalm
    exact exec_batterySample_settles hpower hsample (by rw [hy]; exact hquiet) (by rw [hy]; exact htake)
  case wakes =>
    have hsample : s.sample x = y.wakeAsked.serveWake := by
      rw [← hfigures]
      exact State.sample_wakes harb hf rfl rfl rfl rfl hchanged hn hwake
    obtain ⟨hstage, -, hwatch⟩ := hquiet
    refine ⟨fun hdoze => ?_, fun hdeep hkey hmode => ?_⟩
    · rw [State.serveWake_grantsDoze (by rw [hy]; exact hdep) (by rw [hy]; exact hdoze) (by rw [hy]; exact hoff)
        (by rw [hy]; exact hw.1) (by rw [hy]; exact hroom)] at hsample
      exact exec_batterySample_settles hpower hsample (by rw [hy]; exact ⟨hstage, rfl, hwatch⟩) (by rw [hy]; exact htake)
    · rw [State.serveWake_grantsDeep (by rw [hy]; exact hdep) (by rw [hy]; exact hdeep) (by rw [hy]; exact hkey)
        (by rw [hy]; exact hmode) (by rw [hy]; exact hw.1) (by rw [hy]; exact hroom)] at hsample
      exact exec_batterySample_settles hpower hsample (by rw [hy]; exact ⟨hstage, rfl, hwatch⟩) (by rw [hy]; exact htake)

end Sys2Proof.Machine

namespace Sys2Proof.Machine

/-! ### The first sample of a start (R115, R134, R139, R149) -/

/-- The arbiter's record of a first sample, with R115's AP grant (R114). -/
def State.firstSampled (s : State) (x : Sample) (capped : Nat) : State := { s with
  head := { s.head with
    v := x.v, i := x.i, capped := capped, ceiling := capped - s.params.reserveMW, vcut := s.params.vcutMV
    ap := ⟨s.params.apMW, s.params.apMW⟩, sampled := true } }

/-- The arbiter's part of a first sample at or above vcut whose ceiling holds ap_mW, with nothing else granted (R115). -/
theorem State.arbiterSample_first {s : State} {x : Sample} {f : SampleFigures} (hf : s.figures x = f)
    (hs : s.head.sampled = false) (hw : s.NoWaits) (hpanel : s.head.panel.grant = 0) (hradio : s.head.radio.grant = 0)
    (hlight : s.head.light = ⟨0, 0⟩) (hv : s.params.vcutMV ≤ x.v)
    (hroom : s.params.apMW ≤ f.capped - s.params.reserveMW) :
    s.arbiterSample x = s.firstSampled x f.capped := by
  subst hf
  have hfirst : (s.storeCeiling x).firstGrant = s.firstSampled x (s.figures x).capped :=
    if_neg (Bool.eq_false_iff.mp hs)
  have hloads : (s.firstSampled x (s.figures x).capped).head.loads
      ≤ (s.firstSampled x (s.figures x).capped).head.ceiling := by
    show s.params.apMW + s.head.panel.grant + s.head.radio.grant ≤ _
    rw [hpanel, hradio]
    exact hroom
  have hdark : (s.firstSampled x (s.figures x).capped).head.light = ⟨0, 0⟩ := hlight
  rw [State.arbiterSample_calm x hw.1, hfirst, State.shedLease_keeps (.inr hloads),
    State.alarmOrRebalance_calm (by exact hv) hloads, State.rebalance_same (by exact hw) (by rw [hdark, Nat.zero_min])]

/-- No first sample moves a whole mAh (R134, R135). -/
theorem tdiv_mAh_eq_zero {i : Int} (hlow : -3000 ≤ i) (hhigh : i ≤ 3000) : Int.tdiv (i * 250) 3600000 = 0 := by
  rw [← Int.natAbs_eq_zero, Int.natAbs_tdiv]
  exact Nat.div_eq_of_lt (by omega)

theorem exec_depletedRestartSample {s : State} {d : Nat} (v : Nat) (x : Sample) (hd : s.bs.restartTimer = some d) :
    exec (.depletedRestartSample v x) s = if s.params.restartMV ≤ v then .next (s.coldStart s.pins x)
      else .next { s with now := max s.now d, bs := { s.bs with restartTimer := some (max s.now d + 4000) } } := by
  show execDepletedRestartSample v x s = _
  unfold execDepletedRestartSample
  rw [hd]
  rfl

/-- Settles O46: the first sample's figures over the power-on state, and the restart sample that leads to the same start. -/
theorem powerOnAndRestartBegin : Obligations.PowerOnAndRestartBegin := by
  refine ⟨?powerOn, fun s v x d hd => ⟨fun hlow => ?again, fun p hhigh hpins => ?restart⟩⟩
  case powerOn =>
    intro s p x voc imax capped hvoc himax hcapped hlow hhigh hv hroom c hc
    subst hc
    refine ⟨rfl, rfl, rfl, rfl, rfl, ?_⟩
    have hrest : (0 : Int) + x.i * 250 = x.i * 250 := Int.zero_add _
    have hf : State.figures { State.start (pinsOf p) with pending := s.pending } x = ⟨capped, 750, x.i * 250, 50,
        if p.chgPresent = true ∧ p.chgDone = true then .done else if 20 < x.i then .charging else .absent, .normal⟩ := by
      refine State.figures_eq (k := 0) (r := x.i * 250) hvoc himax hcapped hrest.symm
        (tdiv_mAh_eq_zero hlow hhigh).symm ?_ (show 50 = 750 * 100 / 1500 from rfl) rfl ?_
      · simp [State.start, Controller.start, Params.defaults]
      · have hpower : capped ≠ 0 := by
          rintro rfl
          exact absurd hroom (by decide)
        simp [State.start, Controller.start, Params.defaults, Battery.next, hpower]
    have harb := State.arbiterSample_first hf rfl ⟨rfl, rfl, rfl, rfl⟩ rfl rfl rfl hv hroom
    have hsample := State.sample_eq harb hf rfl rfl rfl rfl rfl rfl (fun h => absurd rfl h)
    show Host.Outcome.next (State.sample { State.start (pinsOf p) with pending := s.pending } x) = _
    rw [hsample]
    rfl
  case again =>
    rw [exec_depletedRestartSample v x hd, if_neg (Nat.not_le.mpr hlow)]
  case restart =>
    rw [exec_depletedRestartSample v x hd, if_pos hhigh, hpins]
    rfl

end Sys2Proof.Machine

namespace Sys2Proof.Machine

/-! ### SET_TIME and SET_ALARM (R147) -/

section
variable {s : State}

theorem exec_setTime (t : Nat) (h : s.Ready .a) : exec (.setTime (freshFrame .a) (.fields ⟨t⟩)) s =
    .next { s.replied .a ⟨.ok, .timeSet (s.alarmPassed t)⟩ with
      bs := { s.bs with time := t, alarm := if s.alarmPassed t then none else s.bs.alarm } } :=
  congrArg _ ((State.frame_serve h (by simp) rfl).trans rfl)

theorem State.alarmPassed_iff (t : Nat) : s.alarmPassed t = true ↔ ∃ a, s.bs.alarm = some a ∧ a ≤ t := by
  simp [State.alarmPassed, Option.any_eq_true]

theorem exec_setAlarm (x : Option Nat) (h : s.Ready .a) :
    exec (.setAlarm (freshFrame .a) (.fields ⟨x⟩)) s = .next ((s.workingOn .a).serveSetAlarm .a ⟨x⟩) :=
  congrArg _ (State.frame_serve h (by simp) rfl)

theorem State.serveSetAlarm_later {t : Nat} (ht : s.bs.time < t) : (s.workingOn .a).serveSetAlarm .a ⟨some t⟩ =
    { s.refusedWith .a .ok with bs := { s.bs with alarm := some t } } := if_pos ht

theorem State.serveSetAlarm_past {t : Nat} (ht : t ≤ s.bs.time) :
    (s.workingOn .a).serveSetAlarm .a ⟨some t⟩ = s.refusedWith .a .badArgument := if_neg (Nat.not_lt.mpr ht)

/-! ### The time counter and the wake alarm (R144, R147) -/

/-- The counter at its next value, before the wake alarm is looked at (R147). -/
def State.timeAt (s : State) (t : Nat) : State := { s with bs := { s.bs with time := t } }

/-- The wake alarm cleared, with its outcome (R147). -/
def State.alarmEnded (s : State) (o : AlarmOutcome) : State :=
  { s with bs := { s.bs with alarm := none, outcome := some o } }

/-- The radio ON with its idle milliwatts and the light at the grant `g` (R119, R146). -/
def State.radioIdling (s : State) (g : Nat) : State := { s with
  light := s.litBy g
  bs := { s.bs with radio := true }
  head := { s.head with
    radio := ⟨s.params.radioIdleMW, s.params.radioIdleMW⟩, light := ⟨s.head.light.demand, g⟩ } }

theorem State.stepTime_silent {t : Nat} (ht : t = if s.bs.time = 4294967295 then 0 else s.bs.time + 1)
    (ha : s.bs.alarm ≠ some t) : s.stepTime = s.timeAt t := by
  subst ht
  exact if_neg ha

theorem State.stepTime_fires {t : Nat} (ht : t = if s.bs.time = 4294967295 then 0 else s.bs.time + 1)
    (ha : s.bs.alarm = some t) : s.stepTime = (s.timeAt t).fireAlarm t := by
  subst ht
  exact if_pos ha

theorem State.fireAlarm_awake (t : Nat) (hp : s.bs.power ≠ .deep) (hon : s.bs.ap = .on) :
    s.fireAlarm t = (s.alarmEnded .firedAwake).mark .wakeAlarm (.wakeAlarm t none) :=
  (if_neg hp).trans (State.raise_on _ _ hon)

theorem State.fireAlarm_skipped (t : Nat) (hp : s.bs.power = .deep) (hb : s.bs.battery ≠ .normal) :
    s.fireAlarm t = s.alarmEnded .skippedBattery := (if_pos hp).trans (if_neg hb)

/-- DEEP is left and the radio, with room for it, is ON at once (R119, R144). -/
theorem State.leaveDeep_radioOn {g : Nat} (hr : s.bs.radio = false) (hk : s.bs.resumeKey = none)
    (hm : s.pool.mode = .selfRefresh) (ha : s.head.alarm = none)
    (hf : s.head.ap.grant + s.head.panel.grant + s.params.radioIdleMW ≤ s.head.ceiling)
    (hg : g =
      min s.head.light.demand (s.head.ceiling - (s.head.ap.grant + s.head.panel.grant + s.params.radioIdleMW))) :
    s.leaveDeep.radioOn = (s.outOfDeep.radioIdling g, true) := by
  rw [State.leaveDeep_plain hk hm]
  exact State.radioOn_fits hr ha hf hg

/-- In DEEP on a NORMAL battery, with room for the radio, the alarm leaves DEEP and switches the radio ON before its
notice (R144, R147). -/
theorem State.fireAlarm_deep (t : Nat) {g : Nat} (hp : s.bs.power = .deep) (hb : s.bs.battery = .normal)
    (hr : s.bs.radio = false) (hk : s.bs.resumeKey = none) (hm : s.pool.mode = .selfRefresh) (ha : s.head.alarm = none)
    (hf : s.head.ap.grant + s.head.panel.grant + s.params.radioIdleMW ≤ s.head.ceiling)
    (hg : g =
      min s.head.light.demand (s.head.ceiling - (s.head.ap.grant + s.head.panel.grant + s.params.radioIdleMW))) :
    s.fireAlarm t =
      ((s.outOfDeep.radioIdling g).alarmEnded .firedDeep).raise .wakeAlarm (.wakeAlarm t (some true)) := by
  have hradio := State.leaveDeep_radioOn (s := { s with bs := { s.bs with alarm := none } }) hr hk hm ha hf hg
  unfold State.fireAlarm
  rw [if_pos hp, if_pos hb]
  dsimp only
  rw [hradio]
  rfl

theorem exec_timeCounterStep_settles {t : State} (hp : s.bs.power ≠ .depleted) (ht : s.stepTime = t) (hq : t.Quiet)
    (hn : t.NoTake) : exec .timeCounterStep s = .next t := by
  show execTimeCounterStep s = _
  unfold execTimeCounterStep
  rw [if_neg hp, ht, State.settle_quiet hq hn]

end

/-- Settles O47: the two requests by the alarm they meet, then the counter's step by whether and where the alarm fires. -/
theorem timeAndAlarm : Obligations.TimeAndAlarm := by
  refine ⟨fun s h => ⟨fun t a ha hat => ?passed, fun t ha => ?kept, fun t ht => ?later, fun t ht => ?past, ?absent⟩,
    fun s next hnext hp hq hn => ⟨fun ha => ?silent, fun ha hdeep hon => ?awake, fun ha hdeep hb => ?skipped,
      fun ha hdeep hb hoff hr hk hm hcalm hf z y g hz hg hy => ?deep⟩⟩
  case passed =>
    rw [exec_setTime t h, (State.alarmPassed_iff t).mpr ⟨a, ha, hat⟩]
    rfl
  case kept =>
    have hkept : s.alarmPassed t = false := by
      rw [← Bool.not_eq_true, State.alarmPassed_iff]
      rintro ⟨a, hsome, hle⟩
      exact Nat.not_lt.mpr hle (ha a hsome)
    rw [exec_setTime t h, hkept]
    rfl
  case later => rw [exec_setAlarm _ h, State.serveSetAlarm_later ht]
  case past => rw [exec_setAlarm _ h, State.serveSetAlarm_past ht]
  case absent => exact exec_setAlarm _ h
  case silent => exact exec_timeCounterStep_settles hp (State.stepTime_silent hnext ha) hq hn
  case awake =>
    exact exec_timeCounterStep_settles hp
      ((State.stepTime_fires hnext ha).trans (State.fireAlarm_awake next hdeep hon)) hq hn
  case skipped =>
    exact exec_timeCounterStep_settles hp
      ((State.stepTime_fires hnext ha).trans (State.fireAlarm_skipped next hdeep hb)) hq hn
  case deep =>
    have hfired : s.stepTime = (((s.timeAt next).outOfDeep.radioIdling g).alarmEnded .firedDeep).raise .wakeAlarm
        (.wakeAlarm next (some true)) :=
      (State.stepTime_fires hnext ha).trans (State.fireAlarm_deep next hdeep hb hr hk hm hcalm hf hg)
    have hnoted : (((s.timeAt next).outOfDeep.radioIdling g).alarmEnded .firedDeep).mark .wakeAlarm
        (.wakeAlarm next (some true)) = y := by
      rw [hy, hz]
      rfl
    obtain ⟨hstage, hdefer, hwatch⟩ := hq
    refine ⟨fun hwake => ?_, fun hwake hdep hroom => ?_⟩
    · rw [State.raise_quiet _ _ (by exact hwake), hnoted] at hfired
      exact exec_timeCounterStep_settles hp hfired (by rw [hy]; exact ⟨hstage, hdefer, hwatch⟩) (by rw [hy]; exact hn)
    · rw [State.raise_wakeAsked _ (by exact hwake), hnoted, State.serveWake_grantsDoze (by rw [hy]; exact hdep)
        (by rw [hy]) (by rw [hy]; exact hoff) (by rw [hy]; exact hcalm) (by rw [hy]; exact hroom)] at hfired
      exact exec_timeCounterStep_settles hp hfired (by rw [hy]; exact ⟨hstage, rfl, hwatch⟩) (by rw [hy]; exact hn)

end Sys2Proof.Machine

namespace Sys2Proof.Machine

/-! ### The charger lines (R137, R149) -/

section
variable {s : State}

theorem exec_chargerLineChange_same {line : ChgLine} {high : Bool} (h : s.pins.lineAt line = high) :
    exec (.chargerLineChange line high) s = .next s := if_pos h

theorem exec_chargerLineChange_depleted {line : ChgLine} {high : Bool} (h : s.pins.lineAt line ≠ high)
    (hp : s.bs.power = .depleted) :
    exec (.chargerLineChange line high) s = .next (s.chargerEdgeDepleted line high) := (if_neg h).trans (if_pos hp)

/-- Outside DEPLETED a line's change acts and nothing follows by itself, where nothing waited to. -/
theorem exec_chargerLineChange_settles {line : ChgLine} {high : Bool} {t : State} (h : s.pins.lineAt line ≠ high)
    (hp : s.bs.power ≠ .depleted) (ht : s.chargerEdge line high = t) (hq : t.Quiet) (hn : t.NoTake) :
    exec (.chargerLineChange line high) s = .next t := by
  show execChargerLineChange line high s = _
  unfold execChargerLineChange
  rw [if_neg h, if_neg hp, ht, State.settle_quiet hq hn]

/-- The charger state is DONE with both lines high, and else follows the last current (R137). -/
theorem chargerState_eq (present done : Bool) (i : Int) : chargerState present done i =
    if present = true ∧ done = true then .done else if 20 < i then .charging else .absent := by
  simp only [chargerState, Bool.and_eq_true]

/-- A rise of CHG_DONE with CHG_PRESENT high fills the count (R137). -/
theorem State.chargerEdge_filled (hpresent : s.pins.chgPresent = true) (hon : s.bs.ap = .on) :
    s.chargerEdge .done true = State.mark { s with
      pins := { s.pins with chgDone := true }
      bs := { s.bs with charger := .done, q := s.params.capacityMAh, r := 0, percent := 100 } }
        .charger (.charger true true .done) := by
  unfold State.chargerEdge
  rw [State.raise_on _ _ (by exact hon)]
  simp [Pins.setLine, hpresent, chargerState]

/-- A change of CHG_PRESENT sets the charger state and leaves the count (R137). -/
theorem State.chargerEdge_present (high : Bool) (hon : s.bs.ap = .on) :
    s.chargerEdge .present high = State.mark { s with
      pins := { s.pins with chgPresent := high }
      bs := { s.bs with charger := chargerState high s.pins.chgDone s.bs.lastI } }
        .charger (.charger high s.pins.chgDone (chargerState high s.pins.chgDone s.bs.lastI)) :=
  State.raise_on _ _ hon

end

/-- Settles O51: a line at its level, the lines in DEPLETED, and the two changes that raise CHARGER. -/
theorem chargerLinesSetStateAndRestart : Obligations.ChargerLinesSetStateAndRestart := by
  refine fun s line high => ⟨exec_chargerLineChange_same, fun hp => ⟨?restart, ?shown⟩,
    fun hdone hpresent hp hon hq hn => ?filled, fun hchange hp hon hq hn => ⟨_, rfl, ?changed⟩⟩
  case restart =>
    by_cases h : s.pins.chgPresent = high
    · rw [if_pos h, exec_chargerLineChange_same (by exact h)]
    · rw [if_neg h, exec_chargerLineChange_depleted (by exact h) hp]
      rfl
  case shown =>
    by_cases h : s.pins.chgDone = high
    · rw [exec_chargerLineChange_same (by exact h), ← h]
    · rw [exec_chargerLineChange_depleted (by exact h) hp]
      rfl
  case filled =>
    have hlow : s.pins.lineAt .done ≠ true := by simp [Pins.lineAt, hdone]
    exact exec_chargerLineChange_settles hlow hp (State.chargerEdge_filled hpresent hon) hq hn
  case changed =>
    rw [← chargerState_eq]
    exact exec_chargerLineChange_settles hchange hp (State.chargerEdge_present high hon) hq hn

end Sys2Proof.Machine

namespace Sys2Proof.Machine

/-! ### Judging a stream and its blocks (R153, R158) -/

theorem streamInRange_iff (id : Nat) : streamInRange id = true ↔ id = 1 ∨ id = 2 := by
  simp only [streamInRange, inRange, Bool.and_eq_true, decide_eq_true_eq]
  omega

section
variable {s : State}

theorem exec_openStream (x : OpenStreamArgs) (h : s.Ready .r) :
    exec (.openStream (freshFrame .r) (.fields x)) s = .next ((s.workingOn .r).serveOpenStream .r x) :=
  congrArg _ (State.frame_serve h (by simp) rfl)

/-- A stream opened takes the free entry and is told its id (R153). -/
theorem State.serveOpenStream_opens {x : OpenStreamArgs} {id : Nat} (p : Port) (ht : x.total ≠ some 0)
    (hf : s.staging.freeEntry = some id) : (s.workingOn p).serveOpenStream p x =
      { s.replied p ⟨.ok, .stream id⟩ with
        staging := s.staging.setStream id (some (Stream.fresh x.tag x.total)) } := by
  have hfree : (s.workingOn p).staging.freeEntry = some id := by rw [State.workingOn, State.setPort_staging, hf]
  rw [State.serveOpenStream, if_neg ht, hfree]
  cases p <;> rfl

/-- Settles O53: a total of 0, both entries held, and the first free entry. -/
theorem openStreamTakesLowerFreeEntry : Obligations.OpenStreamTakesLowerFreeEntry := by
  refine fun s tag total h => ⟨fun hzero => ?zero, fun ht => ⟨fun h1 h2 => ?full, fun h1 => ?first, fun h1 h2 => ?second⟩⟩
  case zero =>
    rw [exec_openStream _ h, State.serveOpenStream, if_pos hzero, State.say_workingOn _ h]
  case full =>
    have hfree : (s.workingOn .r).staging.freeEntry = none := by
      show s.staging.freeEntry = none
      rw [Staging.freeEntry, if_neg (by simpa [Option.isSome_iff_ne_none] using h1),
        if_neg (by simpa [Option.isSome_iff_ne_none] using h2)]
    rw [exec_openStream _ h, State.serveOpenStream, if_neg ht, hfree]
    exact congrArg _ (State.say_workingOn _ h)
  case first =>
    have hfree : s.staging.freeEntry = some 1 := if_pos (by rw [h1]; rfl)
    rw [exec_openStream _ h, State.serveOpenStream_opens .r ht hfree]
    rfl
  case second =>
    have hfree : s.staging.freeEntry = some 2 := by
      rw [Staging.freeEntry, if_neg (by simpa [Option.isSome_iff_ne_none] using h1), if_pos (by rw [h2]; rfl)]
    rw [exec_openStream _ h, State.serveOpenStream_opens .r ht hfree]
    rfl

end

section
variable {s : State} {st : Stream} {x : PutBlockArgs}

theorem exec_putBlock_serves (x : PutBlockArgs) (h : s.Ready .r) :
    exec (.putBlock (freshFrame .r) (.fields x)) s = .next ((s.workingOn .r).servePutBlock .r x) :=
  congrArg _ (State.frame_serve h (by simp) rfl)

theorem putBlock_args_iff (x : PutBlockArgs) : (!streamInRange x.stream || !payloadInRange x.payload) = true ↔
    ¬(x.stream = 1 ∨ x.stream = 2) ∨ x.payload.length = 0 ∨ 4096 < x.payload.length := by
  rw [Bool.or_eq_true, Bool.not_eq_true', Bool.not_eq_true', ← Bool.not_eq_true, ← Bool.not_eq_true, streamInRange_iff,
    payloadInRange_iff]
  omega

/-- R158's tests, by the first that fails. -/
theorem Stream.judgeBlock_duplicate (h : st.exhausted = true ∨ x.sequence < st.next) :
    st.judgeBlock x = some .duplicate := if_pos h

theorem Stream.judgeBlock_outOfOrder (hx : st.exhausted = false) (h : st.next < x.sequence) :
    st.judgeBlock x = some .outOfOrder := by
  rw [Stream.judgeBlock, if_neg (by simp [hx, Nat.le_of_lt h]), if_pos h]

theorem Stream.judgeBlock_inOrder (hx : st.exhausted = false) (h : x.sequence = st.next) : st.judgeBlock x =
    if x.first ≠ decide (x.sequence = 0) ∨ st.totalRefuses x.payload.length x.last = true then some .badArgument
    else none := by
  rw [Stream.judgeBlock, if_neg (by simp [hx, h]), if_neg (by simp [h])]
  by_cases hf : x.first ≠ decide (x.sequence = 0)
  · rw [if_pos hf, if_pos (.inl hf)]
  · rw [if_neg hf]
    simp only [hf, false_or]

theorem Stream.judgeBlock_first (hx : st.exhausted = false) (h : x.sequence = st.next)
    (hf : x.first = true ↔ x.sequence ≠ 0) : st.judgeBlock x = some .badArgument := by
  refine (Stream.judgeBlock_inOrder hx h).trans (if_pos (.inl fun he => ?_))
  rw [he, decide_eq_true_eq] at hf
  tauto

theorem Stream.judgeBlock_total {n : Nat} (hx : st.exhausted = false) (h : x.sequence = st.next)
    (hn : st.total = some n)
    (ht : n < st.accepted + x.payload.length ∨ (x.last = true ∧ st.accepted + x.payload.length < n)) :
    st.judgeBlock x = some .badArgument :=
  (Stream.judgeBlock_inOrder hx h).trans (if_pos (.inr (by simpa [Stream.totalRefuses, hn] using ht)))

/-- An OPEN stream's block that its tests refuse (R158). -/
theorem State.putBlock_refused {c : Status} (h : s.Ready .r) (hj : st.judgeBlock x = some c) :
    (s.workingOn .r).putBlock .r st x = s.refusedWith .r c := by
  rw [State.putBlock, hj]
  exact State.say_workingOn c h

/-- A block that no room is made for (R156, R158). -/
theorem State.putBlock_full (h : s.Ready .r) (hj : st.judgeBlock x = none)
    (hm : (s.workingOn .r).makeRoom x.payload.length = none) :
    (s.workingOn .r).putBlock .r st x = s.refusedWith .r .full := by
  rw [State.putBlock, hj]
  dsimp only
  rw [hm]
  exact State.say_workingOn .full h

/-- A block placed in the room made for it, with no watch armed (R155, R158). -/
theorem State.putBlock_placed {t : State} {pl past : RingPos} {es : List Nat} (hj : st.judgeBlock x = none)
    (hm : (s.workingOn .r).makeRoom x.payload.length = some t) (hp : t.staging.Places (blockOf x) pl past es)
    (hw : t.staging.watch = none) :
    (s.workingOn .r).putBlock .r st x = { t with
      staging := { t.staging with write := some past, writing := some { blockOf x with pos := pl } }
      pool := { t.pool with
        workR := some ⟨.putBlock, .staging, es, pl.offset, pl.offset + x.payload.length, x.payload, [], false⟩ } } := by
  rw [State.putBlock, hj]
  dsimp only
  rw [hm]
  dsimp only
  rw [State.placeBlock_at x.payload hp]
  exact State.evalWatch_none hw

/-- A ring below staging_max grows by the head of the free list (R3, R156). -/
theorem State.makeRoom_grows {len e : Nat} {rest : List Nat} (hroom : s.staging.room < len)
    (hring : s.staging.ring.length < s.params.stagingMax) (hfree : s.pool.free = e :: rest) :
    s.makeRoom len = some (s.grown e rest) := by
  rw [State.makeRoom, if_neg (Nat.not_le.mpr hroom), State.obtainExtent, if_pos ⟨hring, by rw [hfree]; simp⟩,
    State.growRing_grown hfree]

/-- A ring at staging_max, or one at staging_floor with no free extent, obtains none (R156). -/
theorem State.makeRoom_none {len : Nat} (hroom : s.staging.room < len)
    (h : s.params.stagingMax ≤ s.staging.ring.length ∧ s.params.stagingFloor ≤ s.params.stagingMax
      ∨ s.pool.free = [] ∧ s.params.stagingFloor ≤ s.staging.ring.length) : s.makeRoom len = none := by
  have hgrow : ¬(s.staging.ring.length < s.params.stagingMax ∧ s.pool.free ≠ []) := by
    rcases h with ⟨hmax, -⟩ | ⟨hfree, -⟩
    · exact fun hg => Nat.not_lt.mpr hmax hg.1
    · exact fun hg => hg.2 hfree
  have hfloor : ¬(s.pool.free = [] ∧ s.staging.ring.length < s.params.stagingFloor) := by omega
  rw [State.makeRoom, if_neg (Nat.not_le.mpr hroom), State.obtainExtent, if_neg hgrow, if_neg hfloor]

/-- A block that fits behind the write position goes there (R155). -/
theorem Staging.places_here {g : Staging} {b : Block} {w : RingPos} (h1 : 1 ≤ b.length) (hw : g.write = some w)
    (hfit : w.offset + b.length ≤ 16384) : g.Places b w ⟨w.extent, w.offset + b.length⟩ [w.extent] := by
  have hat : w.offset < Config.extentBytes := by
    show w.offset < 16384
    omega
  exact ⟨by simp [Staging.placeAt, hw, hat], if_pos hfit, if_pos hfit⟩

/-- The room behind the write position of a ring (R156). -/
theorem Staging.room_write {g : Staging} {w : RingPos} (hw : g.write = some w) (hr : g.ring ≠ []) :
    g.room = 16384 - w.offset := by
  unfold Staging.room
  rw [hw]
  exact if_neg (by simpa using hr)

end

/-- Settles O54: the checks in R158's order, then the block behind the write position, in a new extent or across into it, or
with no room. -/
theorem putBlockIsJudgedAndPlaced : Obligations.PutBlockIsJudgedAndPlaced := by
  refine fun s x h => ⟨fun hbad => ?args, fun hid h1 h2 => ?inRange⟩
  case args =>
    rw [exec_putBlock_serves x h, State.servePutBlock, if_pos ((putBlock_args_iff x).mpr hbad), State.say_workingOn _ h]
  have hargs : ¬(!streamInRange x.stream || !payloadInRange x.payload) = true := by
    rw [putBlock_args_iff]
    omega
  refine ⟨fun ha => ?halted, fun ha hno => ?notOpen, fun st ha hst hopen => ?judged⟩
  case halted =>
    rw [exec_putBlock_serves x h, State.servePutBlock, if_neg hargs, if_pos (by exact ha), State.say_workingOn _ h]
  case notOpen =>
    have hcalm : ¬(s.workingOn .r).alarmed = true := by
      show ¬s.head.alarm.isSome = true
      rw [ha]
      decide
    rw [exec_putBlock_serves x h, State.servePutBlock, if_neg hargs, if_neg hcalm,
      show (s.workingOn .r).staging = s.staging from rfl]
    cases hst : s.staging.stream x.stream with
    | none => exact congrArg _ (State.say_workingOn _ h)
    | some st =>
      dsimp only
      rw [if_neg (hno st hst), State.say_workingOn _ h]
  case judged =>
    rw [exec_putBlock h ha hid h1 h2 hst hopen]
    refine ⟨fun hd => ?duplicate, fun hx ho => ?outOfOrder, fun hx hs hf => ?firstFlag, fun n hx hs _ hn ht => ?total,
      fun hx hs hf ht => ?accepted⟩
    case duplicate => rw [State.putBlock_refused h (Stream.judgeBlock_duplicate hd)]
    case outOfOrder => rw [State.putBlock_refused h (Stream.judgeBlock_outOfOrder hx ho)]
    case firstFlag => rw [State.putBlock_refused h (Stream.judgeBlock_first hx hs hf)]
    case total => rw [State.putBlock_refused h (Stream.judgeBlock_total hx hs hn ht)]
    have hj : st.judgeBlock x = none := Stream.judgeBlock_none hx hs hf ht
    refine ⟨fun w hw hr hfit hwatch => ?here, fun e rest hr hw hfree hmax hwatch => ?first,
      fun w pre e rest pl past es hw hr hpre hcross hoff hfree hmax hwatch hcase => ?grows, fun hw hnone => ?full⟩
    case here =>
      have hroom : x.payload.length ≤ (s.workingOn .r).staging.room := by
        show _ ≤ s.staging.room
        rw [Staging.room_write hw hr]
        omega
      have hplaces : s.staging.Places (blockOf x) w ⟨w.extent, w.offset + x.payload.length⟩ [w.extent] :=
        Staging.places_here h1 hw hfit
      rw [State.putBlock_placed hj (if_pos hroom) (by exact hplaces) (by exact hwatch)]
      rfl
    case first =>
      have hroom : (s.workingOn .r).staging.room < x.payload.length := Staging.room_lt h1 (.inl hw)
      have hplaces := Staging.places_grown (g := s.staging) (b := blockOf x) (e := e) h2 (.inl hw)
        (.inl ⟨.inl hw, rfl, rfl, rfl⟩)
      have hlen : s.staging.ring.length < s.params.stagingMax := by
        rw [hr]
        exact hmax
      rw [State.putBlock_placed hj (State.makeRoom_grows hroom (by exact hlen) (by exact hfree)) (by exact hplaces)
        (by exact hwatch)]
      simp only [State.grown, State.workingOn, State.setPort, hr, List.nil_append, Nat.zero_add]
      rfl
    case grows =>
      have hshort : s.staging.write = none ∨ ∃ w, s.staging.write = some w ∧ 16384 < w.offset + (blockOf x).length :=
        .inr ⟨w, hw, hcross⟩
      have hroom : (s.workingOn .r).staging.room < x.payload.length := Staging.room_lt h1 hshort
      have hplaces : Staging.Places { s.staging with ring := s.staging.ring ++ [e] } (blockOf x) pl past es := by
        refine Staging.places_grown h2 hshort ?_
        rcases hcase with ⟨hend, hpl, hpast, hes⟩ | ⟨hlt, hpl, hpast, hes⟩
        · exact .inl ⟨.inr ⟨w, hw, hend⟩, hpl, hpast, hes⟩
        · exact .inr ⟨w, pre, hw, hlt, hr, hpre, hpl, hpast, hes⟩
      rw [State.putBlock_placed hj (State.makeRoom_grows hroom (by exact hmax) (by exact hfree)) (by exact hplaces)
        (by exact hwatch)]
      rfl
    case full =>
      have hshort : s.staging.write = none ∨ ∃ w, s.staging.write = some w ∧ 16384 < w.offset + x.payload.length := by
        cases hwrite : s.staging.write with
        | none => exact .inl rfl
        | some w => exact .inr ⟨w, rfl, hw w hwrite⟩
      have hroom : (s.workingOn .r).staging.room < x.payload.length := Staging.room_lt h1 hshort
      rw [State.putBlock_full h hj (State.makeRoom_none hroom (by exact hnone))]

end Sys2Proof.Machine

namespace Sys2Proof.Machine

/-! ### Streams that leave the table (R152) -/

section
variable {g : Staging}

/-- A stream in the table is entry 1 or 2 (section 8.2). -/
theorem Staging.id_of_stream {id : Nat} {x : Stream} (h : g.stream id = some x) : id = 1 ∨ id = 2 := by
  unfold Staging.stream at h
  by_contra hid
  rw [not_or] at hid
  rw [if_neg hid.1, if_neg hid.2] at h
  cases h

/-- Does a stream leave the table: not OPEN, and with no block queued or in writing? (R152) -/
def Staging.leaves (g : Staging) (id : Nat) : Bool :=
  (g.stream id).any (fun x => decide (x.state ≠ .open)) && !g.hasBlock id

theorem Staging.stream_pruned (g : Staging) (i j : Nat) :
    (g.pruned i).stream j = if j = i ∧ g.leaves j = true then none else g.stream j := by
  by_cases hl : g.leaves i = true
  · have hpruned : g.pruned i = g.setStream i none := if_pos hl
    rw [hpruned, Staging.stream_setStream]
    by_cases hj : j = i
    · subst hj
      obtain ⟨x, hx, -⟩ := (Option.any_eq_true _ _).mp ((Bool.and_eq_true _ _).mp hl).1
      rw [if_pos ⟨rfl, Staging.id_of_stream hx⟩, if_pos ⟨rfl, hl⟩]
    · rw [if_neg (fun h => hj h.1), if_neg (fun h => hj h.1)]
  · have hpruned : g.pruned i = g := if_neg hl
    rw [hpruned, if_neg]
    rintro ⟨rfl, h⟩
    exact hl h

theorem Staging.leaves_pruned (g : Staging) {i j : Nat} (h : j ≠ i) : (g.pruned i).leaves j = g.leaves j := by
  have hstream : (g.pruned i).stream j = g.stream j := by rw [Staging.stream_pruned, if_neg (fun hj => h hj.1)]
  have hblock : (g.pruned i).hasBlock j = g.hasBlock j := by
    obtain ⟨a, b, hp⟩ := g.pruned_frame i
    rw [hp]
    rfl
  rw [Staging.leaves, hstream, hblock, Staging.leaves]

/-- The staging unit once streams without blocks have left the table (R152). -/
def Staging.tidied (g : Staging) : Staging := (g.pruned 1).pruned 2

theorem Staging.tidied_frame (g : Staging) : ∃ a b, g.tidied = { g with stream1 := a, stream2 := b } := by
  obtain ⟨a1, b1, h1⟩ := g.pruned_frame 1
  obtain ⟨a2, b2, h2⟩ := (g.pruned 1).pruned_frame 2
  exact ⟨a2, b2, by rw [Staging.tidied, h2, h1]⟩

@[simp] theorem Staging.tidied_queue (g : Staging) : g.tidied.queue = g.queue := by
  obtain ⟨a, b, h⟩ := g.tidied_frame
  rw [h]

@[simp] theorem Staging.tidied_writing (g : Staging) : g.tidied.writing = g.writing := by
  obtain ⟨a, b, h⟩ := g.tidied_frame
  rw [h]

@[simp] theorem Staging.tidied_ring (g : Staging) : g.tidied.ring = g.ring := by
  obtain ⟨a, b, h⟩ := g.tidied_frame
  rw [h]

@[simp] theorem Staging.tidied_write (g : Staging) : g.tidied.write = g.write := by
  obtain ⟨a, b, h⟩ := g.tidied_frame
  rw [h]

theorem Staging.stream_tidied (g : Staging) (j : Nat) :
    g.tidied.stream j = if g.leaves j = true then none else g.stream j := by
  rw [Staging.tidied, Staging.stream_pruned, Staging.stream_pruned]
  by_cases h2 : j = 2
  · rw [Staging.leaves_pruned g (by omega : j ≠ 1), if_neg (fun h : j = 1 ∧ _ => absurd h.1 (by omega))]
    simp [h2]
  · rw [if_neg (fun h => h2 h.1)]
    by_cases h1 : j = 1
    · simp [h1]
    · have hnone : g.stream j = none := by rw [Staging.stream, if_neg h1, if_neg h2]
      simp [h1, hnone]

/-- A stream with a block stays in the table (R152). -/
theorem Staging.leaves_of_block {id : Nat} (h : g.hasBlock id = true) : g.leaves id = false := by
  simp [Staging.leaves, h]

/-- A CLOSED or ABORTED stream leaves the table once it has no block (R152). -/
theorem Staging.leaves_notOpen {id : Nat} {x : Stream} (hx : g.stream id = some x) (ho : x.state ≠ .open) :
    g.leaves id = !g.hasBlock id := by
  simp [Staging.leaves, hx, ho]

/-! ### What is kept of the ring (R157) -/

theorem Staging.mem_extentsOf (b : Block) (e : Nat) : (g.extentsOf b).contains e = true ↔
    e = b.pos.extent ∨ 16384 < b.pos.offset + b.length ∧ g.nextExtent b.pos.extent = some e := by
  rw [List.contains_iff_mem]
  unfold Staging.extentsOf
  by_cases h : b.pos.offset + b.length ≤ 16384
  · rw [if_pos (by exact h)]
    simp [Nat.not_lt.mpr h]
  · rw [if_neg (by exact h)]
    simp [Nat.not_le.mp h]

/-- An extent is in use by a block queued or in writing, or by the write position (R157). -/
theorem Staging.inUse_iff (e : Nat) : g.inUse e = true ↔
    (∃ b, (b ∈ g.queue ∨ g.writing = some b)
      ∧ (e = b.pos.extent ∨ 16384 < b.pos.offset + b.length ∧ g.nextExtent b.pos.extent = some e))
    ∨ ∃ w, g.write = some w ∧ w.extent = e := by
  simp only [Staging.inUse, Bool.or_eq_true, List.any_eq_true, Option.any_eq_true, Staging.mem_extentsOf,
    decide_eq_true_eq, or_and_right, exists_or]

theorem Staging.inUse_tidied (g : Staging) (e : Nat) : g.tidied.inUse e = g.inUse e := by
  obtain ⟨a, b, h⟩ := g.tidied_frame
  rw [h]
  rfl

theorem Staging.kept_none (hq : g.queue = []) (hw : g.writing = none) (h1 : g.stream1 = none) (h2 : g.stream2 = none) :
    g.kept = ([], none) := by
  simp [Staging.kept, hq, hw, h1, h2]

theorem Staging.kept_streams (hq : g.queue = []) (hw : g.writing = none)
    (h : g.stream1.isSome = true ∨ g.stream2.isSome = true) :
    g.kept = (g.ring.filter (fun e => g.write.any (fun w => decide (w.extent = e))),
      g.write.map (fun w => { w with offset := 0 })) := by
  have htable : ¬(g.stream1.isNone ∧ g.stream2.isNone) := by
    rintro ⟨h1, h2⟩
    rw [Option.isNone_iff_eq_none] at h1 h2
    simp [h1, h2] at h
  rw [Staging.kept, if_pos ⟨by rw [hq]; rfl, by rw [hw]; rfl⟩, if_neg htable]

/-- A block queued or in writing. -/
theorem Staging.not_emptied (h : g.queue ≠ [] ∨ g.writing.isSome = true) : ¬(g.queue.isEmpty ∧ g.writing.isNone) := by
  rintro ⟨hq, hw⟩
  rw [List.isEmpty_iff] at hq
  rw [Option.isNone_iff_eq_none] at hw
  simp [hq, hw] at h

theorem Staging.kept_blocks (h : g.queue ≠ [] ∨ g.writing.isSome = true) : g.kept = (g.ring.filter g.inUse, g.write) :=
  if_neg (Staging.not_emptied h)

theorem Staging.keptAtClose_none (hq : g.queue = []) (hw : g.writing = none) (h1 : g.stream1 = none)
    (h2 : g.stream2 = none) : g.keptAtClose = ([], none) := by
  simp [Staging.keptAtClose, hq, hw, h1, h2]

theorem Staging.keptAtClose_stays
    (h : g.queue ≠ [] ∨ g.writing.isSome = true ∨ g.stream1.isSome = true ∨ g.stream2.isSome = true) :
    g.keptAtClose = (g.ring, g.write) := by
  refine if_neg ?_
  rintro ⟨hq, hw, h1, h2⟩
  rw [List.isEmpty_iff] at hq
  rw [Option.isNone_iff_eq_none] at hw h1 h2
  simp [hq, hw, h1, h2] at h

end

/-! ### Giving back the ring (R4, R152, R157) -/

section
variable {s : State}

/-- What giving back changes, by what it keeps of the tidied staging unit. -/
theorem State.giveBack_eq (s : State) (keep : Staging → List Nat × Option RingPos) : s.giveBack keep = { s with
    pool := s.pool.release (s.staging.ring.filter (fun e => !(keep s.staging.tidied).1.contains e))
    staging := { s.staging with
      stream1 := s.staging.tidied.stream1, stream2 := s.staging.tidied.stream2
      ring := (keep s.staging.tidied).1, write := (keep s.staging.tidied).2 } } := by
  obtain ⟨a, b, h⟩ := s.staging.tidied_frame
  show { s with
    pool := s.pool.release (s.staging.tidied.ring.filter (fun e => !(keep s.staging.tidied).1.contains e))
    staging := { s.staging.tidied with
      ring := (keep s.staging.tidied).1, write := (keep s.staging.tidied).2 } } = _
  generalize s.staging.tidied = t at h
  subst h
  rfl

/-- A stream after the tidying of a removal or of a close (R152). -/
theorem State.stream_giveBack (s : State) (keep : Staging → List Nat × Option RingPos) (j : Nat) :
    (s.giveBack keep).staging.stream j = if s.staging.leaves j = true then none else s.staging.stream j :=
  Staging.stream_tidied s.staging j

theorem State.stream_tidyStaging (s : State) (j : Nat) :
    s.tidyStaging.staging.stream j = if s.staging.leaves j = true then none else s.staging.stream j :=
  s.stream_giveBack Staging.kept j

theorem State.stream_afterClose (s : State) (j : Nat) :
    s.afterClose.staging.stream j = if s.staging.leaves j = true then none else s.staging.stream j :=
  s.stream_giveBack Staging.keptAtClose j

/-- The extents that leave the ring are the pool's again, the waveform store's excepted (R4, R6). -/
theorem State.giveBack_extents (s : State) (keep : Staging → List Nat × Option RingPos) {out : List Nat}
    (ho : out = (s.staging.ring.filter (fun e => !(s.giveBack keep).staging.ring.contains e)).filter
      (fun e => decide (e < 504))) :
    (s.giveBack keep).pool.free = s.pool.free ++ out
    ∧ ∀ e, (s.giveBack keep).pool.owners[e]? =
        if e ∈ out then (s.pool.owners[e]?).map (fun _ => .free) else s.pool.owners[e]? := by
  subst ho
  rw [State.giveBack_eq]
  exact ⟨rfl, setOwners_getElem? _ _ _⟩

end

end Sys2Proof.Machine

namespace Sys2Proof.Machine

/-! ### What a removal and a close give back (R152, R157, R160) -/

section
variable {s : State}

/-- What the tidying after a removal changes (R152, R157, R160). -/
theorem State.tidyStaging_eq (s : State) : s.tidyStaging = { s with
    pool := { s.pool with owners := s.tidyStaging.pool.owners, free := s.tidyStaging.pool.free }
    staging := { s.staging with
      stream1 := s.tidyStaging.staging.stream1, stream2 := s.tidyStaging.staging.stream2
      ring := s.tidyStaging.staging.ring, write := s.tidyStaging.staging.write
      idleTimer := if s.staging.queue = [] then none else s.staging.idleTimer } } := by
  unfold State.tidyStaging
  rw [State.giveBack_eq]
  simp only [State.withStaging, List.isEmpty_iff]
  rfl

/-- What the tidying after a close changes (R152, R157). -/
theorem State.afterClose_eq (s : State) : s.afterClose = { s with
    pool := { s.pool with owners := s.afterClose.pool.owners, free := s.afterClose.pool.free }
    staging := { s.staging with
      stream1 := s.afterClose.staging.stream1, stream2 := s.afterClose.staging.stream2
      ring := s.afterClose.staging.ring, write := s.afterClose.staging.write } } := by
  unfold State.afterClose
  rw [State.giveBack_eq]
  rfl

@[simp] theorem State.tidyStaging_watch (s : State) : s.tidyStaging.staging.watch = s.staging.watch := by
  rw [State.tidyStaging_eq]

@[simp] theorem State.afterClose_watch (s : State) : s.afterClose.staging.watch = s.staging.watch := by
  rw [State.afterClose_eq]

/-- The ring and the write position after a removal are those kept of the tidied unit (R157). -/
theorem State.tidyStaging_ring {r : List Nat} {w : Option RingPos} (h : s.staging.tidied.kept = (r, w)) :
    s.tidyStaging.staging.ring = r ∧ s.tidyStaging.staging.write = w := by
  show (s.giveBack Staging.kept).staging.ring = r ∧ (s.giveBack Staging.kept).staging.write = w
  rw [State.giveBack_eq, h]
  exact ⟨rfl, rfl⟩

/-- After a removal with blocks left, the ring keeps the extents in use (R157). -/
theorem State.tidyStaging_blocks {used : Nat → Bool} (hb : s.staging.queue ≠ [] ∨ s.staging.writing.isSome = true)
    (hu : ∀ e, s.staging.inUse e = used e) :
    s.tidyStaging.staging.ring = s.staging.ring.filter used ∧ s.tidyStaging.staging.write = s.staging.write := by
  have hkept : s.staging.tidied.kept = (s.staging.tidied.ring.filter s.staging.tidied.inUse, s.staging.tidied.write) :=
    Staging.kept_blocks (by simpa using hb)
  have hused : s.staging.tidied.inUse = used := funext fun e => (s.staging.inUse_tidied e).trans (hu e)
  rw [hused, Staging.tidied_ring, Staging.tidied_write] at hkept
  exact State.tidyStaging_ring hkept

/-- After a removal of the last block, with a stream in the table, the ring keeps the write position's extent (R157). -/
theorem State.tidyStaging_streams (hq : s.staging.queue = []) (hw : s.staging.writing = none)
    (ht : s.tidyStaging.staging.stream1.isSome = true ∨ s.tidyStaging.staging.stream2.isSome = true) :
    s.tidyStaging.staging.ring = s.staging.ring.filter (fun e => s.staging.write.any (fun w => decide (w.extent = e)))
    ∧ s.tidyStaging.staging.write = s.staging.write.map (fun w => { w with offset := 0 }) := by
  have hkept := Staging.kept_streams (g := s.staging.tidied) (by simpa using hq) (by simpa using hw) ht
  rw [Staging.tidied_ring, Staging.tidied_write] at hkept
  exact State.tidyStaging_ring hkept

/-- After a close the last stream's leaving, with no block, gives the whole ring back (R157). -/
theorem State.afterClose_none (hq : s.staging.queue = []) (hw : s.staging.writing = none)
    (h1 : s.afterClose.staging.stream1 = none) (h2 : s.afterClose.staging.stream2 = none) :
    s.afterClose.staging.ring = [] ∧ s.afterClose.staging.write = none := by
  have hkept := Staging.keptAtClose_none (g := s.staging.tidied) (by simpa using hq) (by simpa using hw) h1 h2
  unfold State.afterClose
  rw [State.giveBack_eq, hkept]
  exact ⟨rfl, rfl⟩

/-- After a close with a block or a stream left the ring and the pool are as they were (R157). -/
theorem State.afterClose_stays (h : s.staging.queue ≠ [] ∨ s.staging.writing.isSome = true
      ∨ s.afterClose.staging.stream1.isSome = true ∨ s.afterClose.staging.stream2.isSome = true) :
    s.afterClose.staging.ring = s.staging.ring ∧ s.afterClose.staging.write = s.staging.write
    ∧ s.afterClose.pool = s.pool := by
  have hkept : s.staging.tidied.keptAtClose = (s.staging.tidied.ring, s.staging.tidied.write) :=
    Staging.keptAtClose_stays (by
      rw [Staging.tidied_queue, Staging.tidied_writing]
      exact h)
  rw [Staging.tidied_ring, Staging.tidied_write] at hkept
  have hnone : s.staging.ring.filter (fun e => !s.staging.ring.contains e) = [] := by simp
  unfold State.afterClose
  rw [State.giveBack_eq, hkept]
  dsimp only
  rw [hnone, Pool.release_nil]
  exact ⟨rfl, rfl, rfl⟩

/-! ### CLOSE_STREAM and ABORT_STREAM (R161, R162) -/

@[simp] theorem Staging.setStream_queue (g : Staging) (i : Nat) (x : Option Stream) :
    (g.setStream i x).queue = g.queue := by
  obtain ⟨a, b, h⟩ := g.setStream_frame i x
  rw [h]

@[simp] theorem Staging.setStream_watch (g : Staging) (i : Nat) (x : Option Stream) :
    (g.setStream i x).watch = g.watch := by
  obtain ⟨a, b, h⟩ := g.setStream_frame i x
  rw [h]

@[simp] theorem Staging.setStream_hasBlock (g : Staging) (i j : Nat) (x : Option Stream) :
    (g.setStream i x).hasBlock j = g.hasBlock j := by
  obtain ⟨a, b, h⟩ := g.setStream_frame i x
  rw [h]
  rfl

@[simp] theorem Staging.setStream_isWriting (g : Staging) (i j : Nat) (x : Option Stream) :
    (g.setStream i x).isWriting j = g.isWriting j := by
  obtain ⟨a, b, h⟩ := g.setStream_frame i x
  rw [h]
  rfl

theorem Staging.stream_setStream_same {g : Staging} {i : Nat} (x : Option Stream) (hi : i = 1 ∨ i = 2) :
    (g.setStream i x).stream i = x := by rw [Staging.stream_setStream, if_pos ⟨rfl, hi⟩]

/-- An entry whose stream is no longer OPEN, after the tidying: it stays while the stream has a block (R152). -/
theorem Staging.tidied_notOpen {g : Staging} {id : Nat} {x : Stream} (hx : g.stream id = some x) (ho : x.state ≠ .open) :
    (if g.leaves id = true then none else g.stream id) = if g.hasBlock id = true then some x else none := by
  rw [Staging.leaves_notOpen hx ho, hx]
  cases g.hasBlock id <;> rfl

theorem exec_closeStream (x : CloseStreamArgs) (h : s.Ready .r) :
    exec (.closeStream (freshFrame .r) (.fields x)) s = .next ((s.workingOn .r).serveCloseStream .r x) :=
  congrArg _ (State.frame_serve h (by simp) rfl)

theorem exec_abortStream (x : StreamArgs) (h : s.Ready .a) :
    exec (.abortStream (freshFrame .a) (.fields x)) s = .next ((s.workingOn .a).serveAbortStream .a x) :=
  congrArg _ (State.frame_serve h (by simp) rfl)

/-- A stream closed with the AP ON (R161). -/
theorem State.closeStream_on {id : Nat} {x : Stream} {r : CloseReason} (h : s.bs.ap = .on) :
    s.closeStream id x r = State.afterClose { s with
      staging := s.staging.setStream id (some (x.closed r))
      notices := { s.notices with
        ap := s.notices.ap.modify 5 (fun n => n.raised (.streamEnd id x.tag r x.accepted)) } } := by
  unfold State.closeStream
  dsimp only
  rw [State.raise_on _ _ (by exact h)]
  rfl

/-- A stream aborted (R162). -/
theorem State.abortStream_eq (s : State) (id : Nat) (x : Stream) : s.abortStream id x = State.tidyStaging { s with
    staging := { s.staging.setStream id (some { x with state := .aborted, reason := some .aborted }) with
      queue := s.staging.queue.filter (fun b => decide (b.stream ≠ id)) }
    notices := if s.bs.radio then { s.notices with rm := s.notices.rm.set 3 (some (.streamAborted id x.tag)) }
      else s.notices } := by
  unfold State.abortStream
  dsimp only
  rw [State.raiseRm_eq, Staging.setStream_queue]
  rfl

theorem closeReason_eq (r : ClosedBy) : closeReason r = if r = .complete then .complete else .failed := by
  cases r <;> rfl

theorem Stream.short_iff (x : Stream) (r : ClosedBy) :
    x.short r = true ↔ r = .complete ∧ ∃ n, x.total = some n ∧ x.accepted < n := by
  simp [Stream.short, Option.any_eq_true]

/-- CLOSE_STREAM of a stream in the table, by its state and its declared total (R161). -/
theorem State.serveCloseStream_some {p : Port} {id : Nat} {r : ClosedBy} {x : Stream}
    (hx : s.staging.stream id = some x) : s.serveCloseStream p ⟨id, r⟩ =
      if x.state ≠ .open then s.say p .refusedState
      else if x.short r then s.say p .badArgument
      else ((s.closeStream id x (closeReason r)).say p .ok).settle := by
  rw [State.serveCloseStream, if_neg (by simp [(streamInRange_iff id).mpr (Staging.id_of_stream hx)])]
  dsimp only
  rw [hx]

/-- ABORT_STREAM of a stream in the table, by its state (R162). -/
theorem State.serveAbortStream_some {p : Port} {id : Nat} {x : Stream} (hx : s.staging.stream id = some x) :
    s.serveAbortStream p ⟨id⟩ =
      if x.state = .aborted then s.say p .refusedState
      else ((s.abortStream id x).tell p (.removed (s.staging.blocksOf id).length
        ((s.staging.blocksOf id).map Block.length).sum)).settle := by
  rw [State.serveAbortStream, if_neg (by simp [(streamInRange_iff id).mpr (Staging.id_of_stream hx)])]
  dsimp only
  rw [hx]

/-- Both requests refuse an id of no entry, and an entry that is free (R161, R162). -/
theorem State.serveCloseStream_none {p : Port} {id : Nat} {r : ClosedBy} (hx : s.staging.stream id = none) :
    s.serveCloseStream p ⟨id, r⟩ = s.say p (if id = 1 ∨ id = 2 then .refusedState else .badArgument) := by
  simp only [State.serveCloseStream, hx, ← streamInRange_iff]
  cases streamInRange id <;> rfl

theorem State.serveAbortStream_none {p : Port} {id : Nat} (hx : s.staging.stream id = none) :
    s.serveAbortStream p ⟨id⟩ = s.say p (if id = 1 ∨ id = 2 then .refusedState else .badArgument) := by
  simp only [State.serveAbortStream, hx, ← streamInRange_iff]
  cases streamInRange id <;> rfl

theorem Staging.stream_outOfRange (g : Staging) {id : Nat} (h : ¬(id = 1 ∨ id = 2)) : g.stream id = none := by
  cases hx : g.stream id with
  | none => rfl
  | some x => exact absurd (Staging.id_of_stream hx) h

/-- No queued block is the stream's once its blocks are removed: it has one only in writing (R162). -/
theorem Staging.hasBlock_removed (g : Staging) (id : Nat) :
    ({ g with queue := g.queue.filter (fun b => decide (b.stream ≠ id)) } : Staging).hasBlock id = g.isWriting id := by
  have hnone : (g.queue.filter (fun b => decide (b.stream ≠ id))).any (fun b => decide (b.stream = id)) = false := by
    simp
  rw [Staging.hasBlock, hnone, Bool.false_or]
  rfl

end

/-- Settles O56: the two requests by the stream they name, then what the tidying keeps and gives back. -/
theorem streamsCloseAndAbort : Obligations.StreamsCloseAndAbort := by
  refine ⟨fun s id r h => ⟨fun hid => ?closeRange, fun hid => ⟨fun hno => ?closeRefused,
      fun x n hx ho hr hn hlt => ?closeShort, fun x hx ho hr hon hq hn => ?closes⟩⟩,
    fun s id h => ⟨fun hid => ?abortRange, fun hid => ⟨fun hno => ?abortRefused,
      fun x gone hx ho hgone hq hn => ?aborts⟩⟩, ?tidy, ?close⟩
  case closeRange =>
    rw [exec_closeStream _ h, State.serveCloseStream_none (by exact s.staging.stream_outOfRange hid), if_neg hid,
      State.say_workingOn _ h]
  case closeRefused =>
    rw [exec_closeStream _ h]
    cases hx : s.staging.stream id with
    | none => rw [State.serveCloseStream_none (by exact hx), if_pos hid, State.say_workingOn _ h]
    | some x => rw [State.serveCloseStream_some (by exact hx), if_pos (hno x hx), State.say_workingOn _ h]
  case closeShort =>
    rw [exec_closeStream _ h, State.serveCloseStream_some (by exact hx), if_neg (not_not.mpr ho),
      if_pos ((x.short_iff r).mpr ⟨hr, n, hn, hlt⟩), State.say_workingOn _ h]
  case closes =>
    have hlong : ¬x.short r = true := by
      rw [Stream.short_iff]
      rintro ⟨rfl, n, hn, hlt⟩
      rcases hr with hr | hr
      · cases hr
      · exact Nat.not_lt.mpr (hr n hn) hlt
    obtain ⟨hstage, hdefer, hwatch⟩ := hq
    refine ⟨_, _, ?runs, rfl, rfl, ?entry⟩
    case runs =>
      rw [exec_closeStream _ h, State.serveCloseStream_some (by exact hx), if_neg (not_not.mpr ho), if_neg hlong,
        State.closeStream_on (by exact hon), closeReason_eq]
      exact congrArg _ (State.settle_quiet ⟨hstage, hdefer,
        (State.afterClose_watch _).trans ((Staging.setStream_watch _ _ _).trans hwatch)⟩ hn)
    case entry =>
      rw [State.stream_afterClose, Staging.tidied_notOpen (Staging.stream_setStream_same _ hid) (by simp),
        Staging.setStream_hasBlock]
  case abortRange =>
    rw [exec_abortStream _ h, State.serveAbortStream_none (by exact s.staging.stream_outOfRange hid), if_neg hid,
      State.say_workingOn _ h]
  case abortRefused =>
    rw [exec_abortStream _ h]
    cases hx : s.staging.stream id with
    | none => rw [State.serveAbortStream_none (by exact hx), if_pos hid, State.say_workingOn _ h]
    | some x => rw [State.serveAbortStream_some (by exact hx), if_pos (hno x hx), State.say_workingOn _ h]
  case aborts =>
    obtain ⟨hstage, hdefer, hwatch⟩ := hq
    refine ⟨_, ?runs, rfl, ?entry⟩
    case runs =>
      rw [exec_abortStream _ h, State.serveAbortStream_some (by exact hx), if_neg ho, State.abortStream_eq, hgone]
      exact congrArg _ (State.settle_quiet ⟨hstage, hdefer,
        (State.tidyStaging_watch _).trans ((Staging.setStream_watch _ _ _).trans hwatch)⟩ hn)
    case entry =>
      have hblock :=
        (s.staging.setStream id (some { x with state := .aborted, reason := some .aborted })).hasBlock_removed id
      rw [Staging.setStream_queue, Staging.setStream_isWriting] at hblock
      rw [State.stream_tidyStaging,
        Staging.tidied_notOpen (by exact Staging.stream_setStream_same _ hid) (by simp), hblock]
  case tidy =>
    rintro s t used rfl hu
    refine ⟨s.tidyStaging_eq, fun j _ => s.stream_tidyStaging j, fun hq hw => ⟨fun h1 h2 => ?emptied,
      State.tidyStaging_streams hq hw⟩, fun hb => ?blocks, fun out ho => s.giveBack_extents Staging.kept ho⟩
    case emptied =>
      exact State.tidyStaging_ring (Staging.kept_none (by simpa using hq) (by simpa using hw) h1 h2)
    case blocks =>
      exact State.tidyStaging_blocks hb fun e => Bool.eq_iff_iff.mpr ((Staging.inUse_iff e).trans (hu e).symm)
  case close =>
    rintro s t out rfl ho
    refine ⟨s.afterClose_eq, fun j _ => s.stream_afterClose j, fun hq hw h1 h2 => ?emptied, fun h => ?stays⟩
    case emptied =>
      obtain ⟨hring, hwrite⟩ := State.afterClose_none hq hw h1 h2
      have hout : out = (s.staging.ring.filter (fun e => !s.afterClose.staging.ring.contains e)).filter
          (fun e => decide (e < 504)) := by
        rw [hring, ho]
        simp
      exact ⟨hring, hwrite, s.giveBack_extents Staging.keptAtClose hout⟩
    case stays =>
      obtain ⟨hring, hwrite, hpool⟩ := State.afterClose_stays h
      exact ⟨hring, hwrite, by rw [hpool], by rw [hpool]⟩

end Sys2Proof.Machine

namespace Sys2Proof.Machine

/-! ### DRAIN (R155, R163) -/

section
variable {s : State}

theorem exec_drain (h : s.Ready .a) :
    exec (.drain (freshFrame .a) (.fields ())) s = .next ((s.workingOn .a).serveDrain .a) :=
  congrArg _ (State.frame_serve h (by simp) rfl)

/-- DRAIN begins to read the head block from the extents of its bytes (R155, R163). -/
theorem State.serveDrain_reads {b : Block} {rest : List Block} {es : List Nat} (hq : s.staging.queue = b :: rest)
    (he : s.staging.extentsOf b = es) : (s.workingOn .a).serveDrain .a = { s.workingOn .a with
      pool := { s.pool with
        workA := some ⟨.drain, .staging, es, b.pos.offset, b.pos.offset + b.length, [], [], false⟩ } } := by
  subst he
  rw [State.serveDrain, show (s.workingOn .a).staging = s.staging from rfl, hq]
  rfl

/-- The end of a DRAIN's read at a port that holds no frame, where nothing follows by itself (R13, R163). -/
theorem exec_drainEnd {w : Work} {t : State} (hw : s.pool.workA = some w) (hk : w.kind = .drain) (hd : w.stop ≤ w.pos)
    (ht : (s.setWork .a none).drainEnds .a w.got = t) (hq : t.Quiet) (hn : t.NoTake) (hh : t.portA.held = none) :
    exec .drainEnd s = .next t := by
  have hf : finishedWork s.pool.workA isDrain = some w := by
    simp [finishedWork, hw, hk, isDrain, Work.unfinished, Nat.not_lt.mpr hd]
  show execDrainEnd s = _
  unfold execDrainEnd
  rw [hf]
  dsimp only
  rw [ht, State.settle_quiet hq hn, State.takeHeld_none (by exact hh)]

theorem State.drainEnds_answers {b : Block} {rest : List Block} {x : Stream} (l : List Byte)
    (hq : s.staging.queue = b :: rest) (hx : s.staging.stream b.stream = some x) :
    (s.setWork .a none).drainEnds .a l = State.tidyStaging { s with
      staging := { s.staging with queue := rest }
      portA := s.portA.answered ⟨.ok, .drained b x.tag rest.length l⟩
      pool := { s.pool with workA := none } } := by
  rw [State.drainEnds, State.setWork_staging, hq]
  dsimp only
  rw [hx]
  rfl

end

/-- Settles O57: an empty queue, a head block in one extent or in two, and the end of its read. -/
theorem drainTakesOldestBlock : Obligations.DrainTakesOldestBlock := by
  refine ⟨fun s h => ⟨fun hq => ?empty, fun b rest hq hfit => ?one, fun b rest e hq hcross hnext => ?two⟩,
    fun s b rest x w hw hk hd hqueue hx hheld hq hn => ?ends⟩
  case empty =>
    rw [exec_drain h, State.serveDrain, show (s.workingOn .a).staging = s.staging from rfl, hq]
    exact congrArg _ (State.say_workingOn _ h)
  case one => rw [exec_drain h, State.serveDrain_reads hq (if_pos hfit)]
  case two =>
    have hextents : s.staging.extentsOf b = [b.pos.extent, e] := by
      rw [Staging.extentsOf, if_neg (Nat.not_le.mpr hcross), hnext]
      rfl
    rw [exec_drain h, State.serveDrain_reads hq hextents]
  case ends =>
    obtain ⟨hstage, hdefer, hwatch⟩ := hq
    refine ⟨_, exec_drainEnd hw hk hd (State.drainEnds_answers w.got hqueue hx)
      ⟨hstage, hdefer, (State.tidyStaging_watch _).trans hwatch⟩ hn ((PortUnit.answered_held _ _).trans hheld), rfl, ?_⟩
    rw [State.stream_tidyStaging]
    show (if ((s.staging.stream b.stream).any (fun y => decide (y.state ≠ .open))
      && !(rest.any (fun c => decide (c.stream = b.stream)) || s.staging.isWriting b.stream)) = true then none
      else s.staging.stream b.stream) = _
    rw [hx]
    simp only [Option.any_some, Bool.and_eq_true, Bool.not_eq_true', Bool.or_eq_false_iff, decide_eq_true_eq]

/-! ### The end of a block's writing (R159, R160) -/

section
variable {s : State} {b : Block} {x : Stream}

/-- The end of a block's work at a port that holds no frame, where nothing follows by itself (R13, R159). -/
theorem exec_putBlockWriteEnd {w : Work} {t : State} (hw : s.pool.workR = some w) (hk : w.kind = .putBlock)
    (hd : w.stop ≤ w.pos) (ht : (s.setWork .r none).blockWritten .r = t) (hq : t.Quiet) (hn : t.NoTake)
    (hh : t.portR.held = none) : exec .putBlockWriteEnd s = .next t := by
  have hf : finishedWork s.pool.workR isPutBlock = some w := by
    simp [finishedWork, hw, hk, isPutBlock, Work.unfinished, Nat.not_lt.mpr hd]
  show execPutBlockWriteEnd s = _
  unfold execPutBlockWriteEnd
  rw [hf]
  dsimp only
  rw [ht, State.settle_quiet hq hn, State.takeHeld_none (by exact hh)]

/-- The block in writing joins, or with its stream ABORTED is given up (R159). -/
theorem State.blockWritten_some (p : Port) (hb : s.staging.writing = some b) (hx : s.staging.stream b.stream = some x) :
    s.blockWritten p = if x.state = .aborted then (s.giveUpBlock b).say p .refusedState
      else (s.joinBlock b x).say p .ok := by
  rw [State.blockWritten, hb]
  dsimp only
  rw [hx]

/-- The notices after the trigger test as a block joins the queue (R160): STAGING_TRIGGER is raised where the bytes reach the
threshold from below it. -/
def State.triggered (s : State) (b : Block) (n : NoticeUnit) : NoticeUnit :=
  if s.staging.bytes < s.triggerBytes ∧ s.triggerBytes ≤ s.staging.bytes + b.length then
    { n with ap := n.ap.modify 3 (fun x =>
        x.raised (.staged (s.staging.bytes + b.length) (s.staging.queue.length + 1))) }
  else n

theorem State.triggerTest_on {t : State} (h : t.bs.ap = .on) (hp : t.params = s.params)
    (hq : t.staging.queue = s.staging.queue ++ [b]) :
    t.triggerTest s.staging.bytes = { t with notices := s.triggered b t.notices } := by
  have hbytes : t.staging.bytes = s.staging.bytes + b.length := by simp [Staging.bytes, hq]
  have hblocks : t.staging.queue.length = s.staging.queue.length + 1 := by simp [hq]
  have hthreshold : t.triggerBytes = s.triggerBytes := by rw [State.triggerBytes, hp, State.triggerBytes]
  unfold State.triggerTest State.triggered
  rw [hbytes, hblocks, hthreshold, State.raise_on _ _ h]
  split <;> rfl

/-- The written block at the tail of the queue, before the tests of its joining (R159). -/
def State.queued (s : State) (b : Block) (x : Stream) : State := { s with
  staging := { s.staging.setStream b.stream (some (x.joined b)) with
    writing := none, queue := s.staging.queue ++ [b] } }

/-- With the AP ON a joining ends with the trigger test and the idle timer started, behind a close or none (R159, R160). -/
theorem State.joinBlock_eq {u : State} (hu : (if b.last = true ∧ x.state = .open then
      (s.queued b x).closeStream b.stream (x.joined b) .complete else s.queued b x) = u)
    (h : u.bs.ap = .on) (hp : u.params = s.params) (hn : u.now = s.now)
    (hq : u.staging.queue = s.staging.queue ++ [b]) : s.joinBlock b x = { u with
      staging := { u.staging with idleTimer := some (s.now + s.params.idleS * 1000) }
      notices := s.triggered b u.notices } := by
  have hjoin : s.joinBlock b x = (u.triggerTest s.staging.bytes).withStaging
      { (u.triggerTest s.staging.bytes).staging with
        idleTimer := (u.triggerTest s.staging.bytes).timerFor
          ((u.triggerTest s.staging.bytes).params.idleS * 1000) } := by
    rw [← hu, State.joinBlock, Staging.setStream_queue]
    rfl
  rw [hjoin, State.triggerTest_on h hp hq, ← hp, ← hn]
  rfl

/-- A block joins without a close, not being the LAST of an OPEN stream (R159, R160). -/
theorem State.joinBlock_stays (h : s.bs.ap = .on) (hl : ¬(b.last = true ∧ x.state = .open)) :
    s.joinBlock b x = { s.queued b x with
      staging := { (s.queued b x).staging with idleTimer := some (s.now + s.params.idleS * 1000) }
      notices := s.triggered b s.notices } :=
  State.joinBlock_eq (u := s.queued b x) (if_neg hl) h rfl rfl rfl

/-- An entry set over again, with the queue and the block in writing replaced between. -/
theorem Staging.setStream_setStream (g : Staging) (i : Nat) (x y : Option Stream) (q : List Block) (w : Option Block) :
    ({ g.setStream i x with writing := w, queue := q } : Staging).setStream i y
      = { g.setStream i y with writing := w, queue := q } := by
  unfold Staging.setStream
  by_cases h1 : i = 1
  · simp only [if_pos h1]
  · by_cases h2 : i = 2
    · simp only [if_neg h1, if_pos h2]
    · simp only [if_neg h1, if_neg h2]

/-- A LAST block in the queue and its stream closed COMPLETE, before the trigger and idle tests (R159, R161). -/
def State.lastJoined (s : State) (b : Block) (y : Stream) : State :=
  State.afterClose { s with
    staging := { s.staging.setStream b.stream (some (y.closed .complete)) with
      writing := none, queue := s.staging.queue ++ [b] } }

theorem State.queued_closeStream (h : s.bs.ap = .on) :
    (s.queued b x).closeStream b.stream (x.joined b) .complete = { s.lastJoined b (x.joined b) with
      notices := { s.notices with
        ap := s.notices.ap.modify 5 (fun n =>
          n.raised (.streamEnd b.stream x.tag .complete (x.joined b).accepted)) } } := by
  rw [State.closeStream_on (by exact h), State.queued]
  dsimp only
  rw [Staging.setStream_setStream]
  rfl

/-- A LAST block of an OPEN stream joins and closes it (R159 to R161). -/
theorem State.joinBlock_closes (h : s.bs.ap = .on) (hl : b.last = true) (ho : x.state = .open) :
    s.joinBlock b x = { s.lastJoined b (x.joined b) with
      staging := { (s.lastJoined b (x.joined b)).staging with idleTimer := some (s.now + s.params.idleS * 1000) }
      notices := s.triggered b { s.notices with
        ap := s.notices.ap.modify 5 (fun n =>
          n.raised (.streamEnd b.stream x.tag .complete (x.joined b).accepted)) } } := by
  have hqueue : (s.lastJoined b (x.joined b)).staging.queue = s.staging.queue ++ [b] := by
    rw [State.lastJoined, State.afterClose_eq]
  exact State.joinBlock_eq ((if_pos ⟨hl, ho⟩).trans (State.queued_closeStream h)) h rfl rfl hqueue

/-- A block in the queue keeps its stream in the table and the ring as it is (R152, R157). -/
theorem State.lastJoined_keeps (y : Stream) (hid : b.stream = 1 ∨ b.stream = 2) :
    (s.lastJoined b y).staging.stream b.stream = some (y.closed .complete)
    ∧ (s.lastJoined b y).staging.ring = s.staging.ring ∧ (s.lastJoined b y).staging.write = s.staging.write
    ∧ (s.lastJoined b y).pool = s.pool := by
  unfold State.lastJoined
  refine ⟨?stream, ?ring⟩
  case stream =>
    rw [State.stream_afterClose, Staging.leaves_of_block (by simp [Staging.hasBlock])]
    exact Staging.stream_setStream_same _ hid
  case ring =>
    obtain ⟨hring, hwrite, hpool⟩ := State.afterClose_stays (s := { s with
      staging := { s.staging.setStream b.stream (some (y.closed .complete)) with
        writing := none, queue := s.staging.queue ++ [b] } }) (.inl (by simp))
    obtain ⟨a, c, hset⟩ := s.staging.setStream_frame b.stream (some (y.closed .complete))
    exact ⟨hring.trans (by rw [hset]), hwrite.trans (by rw [hset]), hpool⟩

end

/-- Settles O55: the block joins, joins and closes its stream, or is given up with its ABORTED stream. -/
theorem blockWriteEndJoinsOrGivesUp : Obligations.BlockWriteEndJoinsOrGivesUp := by
  rintro s b x y w hw hk hd hwriting hx hheld ⟨hstage, hdefer, hwatch⟩ hn hy
  obtain rfl : x.joined b = y := hy.symm
  refine ⟨fun hlive hlast hon => ?joins, fun ho hl hon v ap hap hv => ?closes, fun ha => ?givenUp⟩
  case joins =>
    have hstays : ¬(b.last = true ∧ x.state = .open) := by
      rcases hlast with hl | hl <;> simp [hl]
    refine exec_putBlockWriteEnd hw hk hd ?_ ⟨hstage, hdefer, (Staging.setStream_watch _ _ _).trans hwatch⟩ hn
      ((PortUnit.answered_held _ _).trans hheld)
    rw [State.blockWritten_some .r (by exact hwriting) (by exact hx), if_neg hlive,
      State.joinBlock_stays (by exact hon) hstays]
    rfl
  case closes =>
    have hlive : x.state ≠ .aborted := by
      rw [ho]
      decide
    have hlastJoined : s.lastJoined b (x.joined b) = v := hv.symm
    obtain ⟨hstream, hring, hwrite, hpool⟩ := s.lastJoined_keeps (x.joined b) (Staging.id_of_stream hx)
    rw [hlastJoined] at hstream hring hwrite hpool
    refine ⟨?_, hstream, hring, hwrite, by rw [hpool], by rw [hpool]⟩
    have hvwatch : v.staging.watch = none := by
      rw [hv]
      exact (State.afterClose_watch _).trans ((Staging.setStream_watch _ _ _).trans hwatch)
    refine exec_putBlockWriteEnd hw hk hd ?_ ⟨hstage, hdefer, hvwatch⟩ hn ((PortUnit.answered_held _ _).trans hheld)
    rw [State.blockWritten_some .r (by exact hwriting) (by exact hx), if_neg hlive,
      State.joinBlock_closes (by exact hon) hl ho, hv, hap]
    rfl
  case givenUp =>
    refine ⟨_, exec_putBlockWriteEnd hw hk hd ((State.blockWritten_some .r (by exact hwriting) (by exact hx)).trans
      (if_pos ha)) ⟨hstage, hdefer, (State.tidyStaging_watch _).trans hwatch⟩ hn
      ((PortUnit.answered_held _ _).trans hheld), rfl, ?_⟩
    refine (State.stream_tidyStaging _ _).trans ?_
    rw [Staging.tidied_notOpen (by exact hx) (by rw [ha]; decide)]
    simp [Staging.hasBlock, Staging.isWriting, State.withStaging]

end Sys2Proof.Machine

namespace Sys2Proof.Machine

/-! ### The sources of the AP notice set (R167) -/

theorem sourceInRange_iff {n : Nat} : sourceInRange n = true ↔ 1 ≤ n ∧ n ≤ 20 := by
  simp [sourceInRange, inRange]

theorem State.noticeAt_of_getElem? {s : State} {k : Nat} {x : Notice} (h : s.notices.ap[k]? = some x) :
    s.noticeAt k = x := by
  simp [State.noticeAt, List.getD_eq_getElem?_getD, h]

@[simp] theorem State.noticeAt_workingOn (s : State) (k : Nat) : (s.workingOn .a).noticeAt k = s.noticeAt k := rfl

/-- A place outside the set reads as a source that is not pending. -/
theorem State.noticeAt_pending (s : State) (k : Nat) :
    (s.noticeAt k).pending = (s.notices.ap[k]?).any Notice.pending := by
  rw [State.noticeAt, List.getD_eq_getElem?_getD]
  cases s.notices.ap[k]? <;> rfl

theorem State.noticeAt_calls (s : State) (k : Nat) :
    (s.noticeAt k).calls = (s.notices.ap[k]?).any Notice.calls := by
  rw [State.noticeAt, List.getD_eq_getElem?_getD]
  cases s.notices.ap[k]? <;> rfl

theorem Notice.calls_iff {x : Notice} : x.calls = true ↔ x.pending = true ∧ 1 ≤ x.level := by
  simp [Notice.calls]

theorem Notice.before_iff {x y : Notice} :
    x.before y = true ↔ y.level < x.level ∨ x.level = y.level ∧ y.priority < x.priority := by
  simp [Notice.before]

/-! ### The source that a plain TAKE_NOTICE takes (R170) -/

/-- One place of the search: the place found so far, or this one where it calls for attention and comes before it. -/
def State.better (s : State) (best : Option Nat) (k : Nat) : Option Nat :=
  if (s.noticeAt k).calls then
    match best with
    | some j => if (s.noticeAt k).before (s.noticeAt j) then some k else some j
    | none => some k
  else best

theorem State.bestNotice_eq (s : State) :
    s.bestNotice = (List.range s.notices.ap.length).foldl s.better none := rfl

theorem State.better_silent {s : State} {k : Nat} (b : Option Nat) (h : (s.noticeAt k).calls = false) :
    s.better b k = b := by
  simp [State.better, h]

/-- A calling source comes in the place of each that it comes before. -/
theorem State.better_wins {s : State} {b : Option Nat} {k : Nat} (h : (s.noticeAt k).calls = true)
    (hb : ∀ j ∈ b, (s.noticeAt k).before (s.noticeAt j) = true) : s.better b k = some k := by
  cases b with
  | none => simp [State.better, h]
  | some j => simp [State.better, h, hb j rfl]

/-- A source found stays where the next does not come before it. -/
theorem State.better_stays {s : State} {j k : Nat}
    (h : (s.noticeAt k).calls = true → (s.noticeAt k).before (s.noticeAt j) = false) :
    s.better (some j) k = some j := by
  cases hk : (s.noticeAt k).calls with
  | false => exact State.better_silent _ hk
  | true => simp [State.better, hk, h hk]

theorem State.better_mem {s : State} {b : Option Nat} {i k : Nat} (h : i ∈ s.better b k) :
    i ∈ b ∨ i = k ∧ (s.noticeAt k).calls = true := by
  unfold State.better at h
  split at h
  · next hk =>
    cases b with
    | none => exact .inr ⟨(Option.mem_some.mp h).symm, hk⟩
    | some j =>
      dsimp only at h
      split at h
      · exact .inr ⟨(Option.mem_some.mp h).symm, hk⟩
      · exact .inl h
  · exact .inl h

/-- What a search finds is a calling source of the places searched. -/
theorem State.search_mem {s : State} {i : Nat} : ∀ {m : Nat}, i ∈ (List.range m).foldl s.better none →
    i < m ∧ (s.noticeAt i).calls = true
  | 0, h => by cases h
  | m + 1, h => by
    rw [List.range_succ, List.foldl_append] at h
    rcases State.better_mem h with h | ⟨rfl, hm⟩
    · obtain ⟨hlt, hcalls⟩ := State.search_mem h
      exact ⟨by omega, hcalls⟩
    · exact ⟨by omega, hm⟩

/-- A search past a calling source finds it, if it comes before each calling one of a lower number and none of a higher
number comes before it. -/
theorem State.search_finds {s : State} {k : Nat} (hk : (s.noticeAt k).calls = true)
    (hlow : ∀ j < k, (s.noticeAt j).calls = true → (s.noticeAt k).before (s.noticeAt j) = true)
    (hhigh : ∀ j, k < j → (s.noticeAt j).calls = true → (s.noticeAt j).before (s.noticeAt k) = false) :
    ∀ m, k < m → (List.range m).foldl s.better none = some k
  | m + 1, hm => by
    rw [List.range_succ, List.foldl_append, List.foldl_cons, List.foldl_nil]
    rcases Nat.lt_succ_iff_lt_or_eq.mp hm with hlt | rfl
    · rw [State.search_finds hk hlow hhigh m hlt, State.better_stays (hhigh m hlt)]
    · exact State.better_wins hk fun j hj => hlow j (State.search_mem hj).1 (State.search_mem hj).2

theorem State.bestNotice_none {s : State} (h : ∀ x ∈ s.notices.ap, x.pending = true → x.level = 0) :
    s.bestNotice = none := by
  rw [State.bestNotice_eq, Option.eq_none_iff_forall_not_mem]
  intro k hk
  obtain ⟨-, hcalls⟩ := State.search_mem hk
  rw [State.noticeAt_calls, Option.any_eq_true] at hcalls
  obtain ⟨x, hx, hc⟩ := hcalls
  obtain ⟨hp, hl⟩ := Notice.calls_iff.mp hc
  have := h x (List.mem_of_getElem? hx) hp
  omega

/-- The source of the highest level, then the highest priority, then the lowest number (R170). -/
theorem State.bestNotice_some {s : State} {k : Nat} {x : Notice} (hx : s.notices.ap[k]? = some x)
    (hp : x.pending = true) (hl : 1 ≤ x.level)
    (hbest : ∀ j y, s.notices.ap[j]? = some y → j ≠ k → y.pending = true →
      y.level < x.level ∨ (y.level = x.level ∧ (y.priority < x.priority ∨ (y.priority = x.priority ∧ k < j)))) :
    s.bestNotice = some k := by
  have hk : s.noticeAt k = x := State.noticeAt_of_getElem? hx
  have hrank : ∀ j, j ≠ k → (s.noticeAt j).calls = true → (s.noticeAt j).level < x.level
      ∨ ((s.noticeAt j).level = x.level ∧ ((s.noticeAt j).priority < x.priority
        ∨ ((s.noticeAt j).priority = x.priority ∧ k < j))) := by
    intro j hj hcalls
    rw [State.noticeAt_calls, Option.any_eq_true] at hcalls
    obtain ⟨y, hy, hc⟩ := hcalls
    rw [State.noticeAt_of_getElem? hy]
    exact hbest j y hy hj (Notice.calls_iff.mp hc).1
  refine State.search_finds (by rw [hk]; exact Notice.calls_iff.mpr ⟨hp, hl⟩) (fun j hj hc => ?low) (fun j hj hc => ?high) _
    (List.getElem?_eq_some_iff.mp hx).1
  case low =>
    have := hrank j (by omega) hc
    rw [hk, Notice.before_iff]
    omega
  case high =>
    have := hrank j (by omega) hc
    rw [hk, Bool.eq_false_iff, ne_eq, Notice.before_iff]
    omega

/-! ### TAKE_NOTICE on Port A (R170) -/

section
variable {s : State}

theorem exec_takeNotice_a (src : Option Nat) (h : s.Ready .a) :
    exec (.takeNotice (freshFrame .a) (.fields ⟨src⟩)) s = .next ((s.workingOn .a).takeAp .a src) :=
  congrArg _ (State.frame_serve h (by simp) rfl)

theorem State.mapNotice_eq_set {k : Nat} {x : Notice} (f : Notice → Notice) (hx : s.notices.ap[k]? = some x) :
    s.mapNotice k f = { s with notices := { s.notices with ap := s.notices.ap.set k (f x) } } := by
  rw [State.mapNotice, List.modify_eq_set_getElem?, hx]
  rfl

/-- A source is taken: its flag, detail and count go, and how many still call is told (R170). -/
theorem State.takeNoticeAt_workingOn {k : Nat} {x : Notice} (hx : s.notices.ap[k]? = some x) :
    (s.workingOn .a).takeNoticeAt .a k
      = { s.replied .a ⟨.ok, .notice (k + 1) x.detail x.count ((s.notices.ap.set k x.taken).countP Notice.calls)⟩ with
          notices := { s.notices with ap := s.notices.ap.set k x.taken } } := by
  rw [State.takeNoticeAt, State.mapNotice_eq_set (s := s.workingOn .a) _ hx, State.noticeAt_workingOn,
    State.noticeAt_of_getElem? hx]
  rfl

/-- TAKE_NOTICE of a source in range (R170). -/
theorem State.takeAp_named {n : Nat} {x : Notice} (h1 : 1 ≤ n) (h20 : n ≤ 20) (hx : s.notices.ap[n - 1]? = some x) :
    s.takeAp .a (some n) = if x.pending = true then s.takeNoticeAt .a (n - 1) else s.tell .a .noNotice := by
  rw [State.takeAp, if_neg (by simp [sourceInRange_iff.mpr ⟨h1, h20⟩]), State.noticeAt_of_getElem? hx]

end

/-! ### TAKE_NOTICE on Port R (R173) -/

section
variable {s : State}

theorem exec_takeNotice_r (src : Option Nat) (h : s.Ready .r) :
    exec (.takeNotice (freshFrame .r) (.fields ⟨src⟩)) s = .next ((s.workingOn .r).takeRm .r) :=
  congrArg _ (State.frame_serve h (by simp) rfl)

theorem firstRm_none : ∀ (k : Nat) {l : List (Option RmDetail)}, (∀ x ∈ l, x = none) → firstRm k l = none
  | _, [], _ => rfl
  | k, x :: l, h => by
    obtain rfl := h x List.mem_cons_self
    exact firstRm_none (k + 1) fun y hy => h y (List.mem_cons_of_mem _ hy)

theorem firstRm_append (d : RmDetail) (post : List (Option RmDetail)) :
    ∀ (k : Nat) {pre : List (Option RmDetail)}, (∀ x ∈ pre, x = none) →
      firstRm k (pre ++ some d :: post) = some (k + pre.length, d)
  | _, [], _ => rfl
  | k, x :: pre, h => by
    obtain rfl := h x List.mem_cons_self
    rw [List.cons_append, firstRm, firstRm_append d post (k + 1) fun y hy => h y (List.mem_cons_of_mem _ hy),
      List.length_cons]
    congr 2
    omega

theorem State.takeRm_none (h : ∀ x ∈ s.notices.rm, x = none) :
    (s.workingOn .r).takeRm .r = s.replied .r ⟨.ok, .noNotice⟩ := by
  rw [State.takeRm, show (s.workingOn .r).notices.rm = s.notices.rm from rfl, firstRm_none 0 h]
  exact State.give_workingOn _ _ _

/-- The first pending RM source is taken, and how many are left is told (R173). -/
theorem State.takeRm_some {pre post : List (Option RmDetail)} {d : RmDetail}
    (hrm : s.notices.rm = pre ++ some d :: post) (hpre : ∀ x ∈ pre, x = none) :
    (s.workingOn .r).takeRm .r = { s.replied .r ⟨.ok, .rmNotice (pre.length + 1) d (post.countP Option.isSome)⟩ with
      notices := { s.notices with rm := pre ++ none :: post } } := by
  have hset : (pre ++ some d :: post).set pre.length none = pre ++ none :: post := by simp
  have hcount : (pre ++ none :: post).countP Option.isSome = post.countP Option.isSome := by
    have hquiet : pre.countP Option.isSome = 0 := List.countP_eq_zero.mpr fun x hx => by simp [hpre x hx]
    simp [List.countP_append, hquiet]
  rw [State.takeRm, show (s.workingOn .r).notices.rm = _ from hrm, firstRm_append d post 0 hpre]
  dsimp only
  rw [Nat.zero_add, hset, hcount]
  rfl

end

/-! ### The attention lines (R169, R173) -/

theorem State.attnALow_iff (s : State) :
    s.attnALow = true ↔ s.bs.ap = .on ∧ ∃ n ∈ s.notices.ap, n.pending = true ∧ 1 ≤ n.level := by
  simp [State.attnALow]

theorem State.attnRLow_iff (s : State) :
    s.attnRLow = true ↔ s.bs.radio = true ∧ ∃ d, some d ∈ s.notices.rm := by
  simp [State.attnRLow, Option.isSome_iff_exists]

/-- Settles O59: a named source, the best one and the first RM source taken, and the two attention lines. -/
theorem takeNoticeTakesHighestSource : Obligations.TakeNoticeTakesHighestSource := by
  refine ⟨⟨fun s n h => ⟨fun hn => ?range, fun h1 h20 x hx => ⟨fun hp => ?notPending, fun hp => ?named⟩⟩,
    fun s h => ⟨fun hq => ?quiet, fun k x hx hp hl hbest => ?best⟩,
    fun s src h => ⟨fun hnone => ?rmNone, fun pre d post hrm hpre => ?rmFirst⟩⟩,
    fun s => ⟨s.attnALow_iff, s.attnRLow_iff⟩⟩
  case range =>
    rw [exec_takeNotice_a _ h, State.takeAp, if_pos (by simp [mt sourceInRange_iff.mp hn]), State.say_workingOn _ h]
  case notPending =>
    rw [exec_takeNotice_a _ h, State.takeAp_named h1 h20 (by exact hx), if_neg (by simp [hp])]
    exact congrArg _ (State.give_workingOn _ _ _)
  case named =>
    refine ⟨_, rfl, ?_⟩
    rw [exec_takeNotice_a _ h, State.takeAp_named h1 h20 (by exact hx), if_pos hp, State.takeNoticeAt_workingOn hx,
      Nat.sub_add_cancel h1]
    rfl
  case quiet =>
    rw [exec_takeNotice_a _ h, State.takeAp, State.bestNotice_none (by exact hq)]
    exact congrArg _ (State.give_workingOn _ _ _)
  case best =>
    refine ⟨_, rfl, ?_⟩
    rw [exec_takeNotice_a _ h, State.takeAp, State.bestNotice_some (by exact hx) hp hl (by exact hbest)]
    exact congrArg _ (State.takeNoticeAt_workingOn hx)
  case rmNone => rw [exec_takeNotice_r _ h, State.takeRm_none hnone]
  case rmFirst => rw [exec_takeNotice_r _ h, State.takeRm_some hrm hpre]

end Sys2Proof.Machine

namespace Sys2Proof.Machine

/-! ### CLEAR_NOTICES (R171) -/

theorem exec_clearNotices {s : State} (x : ClearNoticesArgs) (h : s.Ready .a) :
    exec (.clearNotices (freshFrame .a) (.fields x)) s = .next ((s.workingOn .a).serveClearNotices .a x) :=
  congrArg _ (State.frame_serve h (by simp) rfl)

/-- A list that CLEAR_NOTICES takes: 1 to 20 distinct numbers from 1 to 20. -/
def NamesSources (l : List Nat) : Prop :=
  1 ≤ l.length ∧ l.length ≤ 20 ∧ (∀ n ∈ l, 1 ≤ n ∧ n ≤ 20) ∧ l.Nodup

theorem namesSources_iff {l : List Nat} :
    (inRange 1 20 l.length && l.all sourceInRange && decide l.Nodup) = true ↔ NamesSources l := by
  simp [NamesSources, inRange, sourceInRange_iff, and_assoc]

theorem clearNamed_some {l : List Nat} (h : NamesSources l) : clearNamed ⟨some l⟩ = some l :=
  if_pos (namesSources_iff.mpr h)

theorem clearNamed_none {l : List Nat} (h : ¬ NamesSources l) : clearNamed ⟨some l⟩ = none :=
  if_neg (mt namesSources_iff.mp h)

/-- The named sources taken one after another are the AP set with each of their places taken. -/
theorem State.foldl_taken_frame (s : State) (l : List Nat) :
    l.foldl (fun t n => t.mapNotice (n - 1) Notice.taken) s = { s with
      notices := { s.notices with ap := l.foldl (fun ap n => ap.modify (n - 1) Notice.taken) s.notices.ap } } := by
  induction l generalizing s with
  | nil => rfl
  | cons n l ih => exact ih (s.mapNotice (n - 1) Notice.taken)

theorem getElem?_foldl_taken {l : List Nat} (hl : ∀ n ∈ l, 1 ≤ n) (ap : List Notice) (k : Nat) :
    (l.foldl (fun ap n => ap.modify (n - 1) Notice.taken) ap)[k]?
      = (ap[k]?).map (fun x => if k + 1 ∈ l then x.taken else x) := by
  induction l generalizing ap with
  | nil => simp
  | cons n l ih =>
    have hn : 1 ≤ n := hl n List.mem_cons_self
    rw [List.foldl_cons, ih (fun m hm => hl m (List.mem_cons_of_mem _ hm)), List.getElem?_modify, Option.map_eq_map,
      Option.map_map]
    refine congrArg (Option.map · ap[k]?) (funext fun x => ?_)
    by_cases hk : k + 1 = n
    · have hplace : n - 1 = k := by omega
      simp [hk, hplace, Notice.taken]
    · have hplace : n - 1 ≠ k := by omega
      simp [hk, hplace]

/-- CLEAR_NOTICES of a list it takes, or of all. -/
theorem State.serveClearNotices_named {s : State} {x : ClearNoticesArgs} {l : List Nat} (hx : clearNamed x = some l) :
    (s.workingOn .a).serveClearNotices .a x
      = { s.replied .a ⟨.ok, .cleared (l.countP (fun n => (s.notices.ap[n - 1]?).any Notice.pending))⟩ with
          notices := { s.notices with
            ap := l.foldl (fun ap n => ap.modify (n - 1) Notice.taken) s.notices.ap } } := by
  rw [State.serveClearNotices, hx]
  dsimp only
  rw [State.foldl_taken_frame]
  simp only [State.noticeAt_workingOn, State.noticeAt_pending]
  rfl

/-! ### SET_NOTICE_LEVEL (R168) -/

section
variable {s : State}

theorem exec_setNoticeLevel (x : SetNoticeLevelArgs) (h : s.Ready .a) :
    exec (.setNoticeLevel (freshFrame .a) (.fields x)) s = .next ((s.workingOn .a).serveSetNoticeLevel .a x) :=
  congrArg _ (State.frame_serve h (by simp) rfl)

/-- An AP that is ON is presented no wake (R172). -/
theorem State.presentWake_on (b : Bool) (h : s.bs.ap = .on) : State.presentWake b s = s := by
  simp [State.presentWake, State.wakeCond_on h]

/-- With the AP ON, SET_NOTICE_LEVEL by its source and values: no wake test follows (R168). -/
theorem State.serveSetNoticeLevel_on (x : SetNoticeLevelArgs) (h : s.bs.ap = .on) :
    s.serveSetNoticeLevel .a x =
      if ¬(1 ≤ x.source ∧ x.source ≤ 20) ∨ 7 < x.level ∨ 7 < x.priority then s.say .a .badArgument
      else if x.source = 8 ∨ x.source = 9 then s.say .a .refusedState
      else (s.mapNotice (x.source - 1) (fun n => { n with level := x.level, priority := x.priority })).say .a .ok := by
  rw [State.serveSetNoticeLevel]
  refine if_congr (by simp [← sourceInRange_iff, or_assoc]) rfl (if_congr Iff.rfl rfl ?_)
  exact congrArg (State.say · .a .ok) (State.presentWake_on _ h)

end

/-- Settles O60: SET_NOTICE_LEVEL by its source and values, CLEAR_NOTICES by its list. -/
theorem noticeSettingsAndClears : Obligations.NoticeSettingsAndClears := by
  intro s h
  have hap : (s.workingOn .a).bs.ap = .on := by simpa [State.portPowered, State.workingOn] using h.1
  refine ⟨fun n l p hbad => ?range, fun n l p hn hl hp => ?fixed, fun n l p h1 h20 h8 h9 hl hp => ?sets,
    fun l hl => ?badList, fun o l hol => ?clears⟩
  case range =>
    rw [exec_setNoticeLevel _ h, State.serveSetNoticeLevel_on _ hap, if_pos hbad, State.say_workingOn _ h]
  case fixed =>
    rw [exec_setNoticeLevel _ h, State.serveSetNoticeLevel_on _ hap, if_neg (by dsimp only; omega), if_pos hn,
      State.say_workingOn _ h]
  case sets =>
    rw [exec_setNoticeLevel _ h, State.serveSetNoticeLevel_on _ hap, if_neg (by dsimp only; omega),
      if_neg (by dsimp only; omega)]
    rfl
  case badList =>
    rw [exec_clearNotices _ h, State.serveClearNotices, clearNamed_none hl]
    exact congrArg _ (State.say_workingOn _ h)
  case clears =>
    have hnamed : clearNamed ⟨o⟩ = some l := by
      rcases hol with ⟨rfl, hl⟩ | ⟨rfl, rfl⟩
      · exact clearNamed_some hl
      · rfl
    have hplaces : ∀ n ∈ l, 1 ≤ n := by
      rcases hol with ⟨-, -, -, hl, -⟩ | ⟨-, rfl⟩
      · exact fun n hn => (hl n hn).1
      · decide
    refine ⟨_, (exec_clearNotices _ h).trans (congrArg _ (State.serveClearNotices_named hnamed)), rfl, fun k => ?_⟩
    exact getElem?_foldl_taken hplaces s.notices.ap k

end Sys2Proof.Machine

namespace Sys2Proof.Machine

/-! ### A frame at its port (R176) -/

/-- The command of a request hands the request to its port; SLEEP with the level AWAKE has leaves the pins. -/
theorem exec_requestInstr (s : State) (f : Frame) (q : Req) :
    exec (requestInstr f s.pins.awake q) s = .next (s.frame f (.request q)) := by cases q <;> rfl

/-- The command of a malformed body hands it to its port, its kind named. -/
theorem exec_malformedInstr (s : State) (f : Frame) (k : Kind) :
    exec (malformedInstr f s.pins.awake k) s = .next (s.frame f (.malformed k)) := by cases k <;> rfl

/-- The catalogue ends with kind 47 (section 10.3). -/
theorem kindOfByte_none {code : Nat} (h : code = 0 ∨ 48 ≤ code) : kindOfByte code = none := by
  rcases h with rfl | h
  · rfl
  · have hlen : catalogue.length = 47 := rfl
    rw [kindOfByte, if_neg (by omega), List.getElem?_eq_none (by omega)]

theorem exec_unknownRequest {f : Frame} {code : Nat} (s : State) (h : kindOfByte code = none) :
    exec (.unknownRequest f code) s = .next (s.frame f (.unknown code)) := by
  change execUnknownRequest f code s = _
  rw [execUnknownRequest, h]

/-- Every port may be asked to reset (R181). -/
theorem ne_resetPort_of_not_permitted {q : Req} {p : Port} (h : permitted (kindOf q) p = false) : q ≠ .resetPort := by
  rintro rfl
  exact absurd h (by simp [kindOf, permitted])

/-- A fresh frame at a ready port that the checks of R176 answer with a status leaves everything but the port. -/
theorem State.frame_refused {s : State} {p : Port} {m : Message} {c : Status} (h : s.Ready p)
    (hm : m ≠ .request .resetPort) (hc : ∀ t : State, t.checkMessage p m = t.say p c) :
    s.frame (freshFrame p) m = s.refusedWith p c := by
  rw [State.frame_ready h hm, hc, State.say_taken c h]

/-- Settles O7: each frame fails one check of R176, and the port says so. -/
theorem frameChecksRefuse : Obligations.FrameChecksRefuse := by
  refine ⟨fun s p q h hq => ?request, fun s p k h => ?malformed, fun s p code h hcode => ?unknown⟩
  case request =>
    have hreset : Message.request q ≠ .request .resetPort := by simpa using ne_resetPort_of_not_permitted hq
    rw [exec_requestInstr, State.frame_refused (c := .notPermitted) h hreset fun t => by simp [State.checkMessage, hq]]
  case malformed => rw [exec_malformedInstr, State.frame_refused h (by simp) fun t => rfl]
  case unknown =>
    rw [exec_unknownRequest s (kindOfByte_none (by omega)), State.frame_refused h (by simp) fun t => rfl]

/-- Settles O6: IDENTIFY is permitted on both ports, and its answer names constants only. -/
theorem identifyAnswersOnBothPorts : Obligations.IdentifyAnswersOnBothPorts := fun _ _ h =>
  congrArg _ (State.frame_answers h (q := .identify) (by simp) rfl rfl)

/-! ### Shared items (R180) -/

theorem ShareGrants.granted_setItem_same (g : ShareGrants) (i : ShareItem) (on : Bool) :
    (g.setItem i on).granted i = on := by
  cases i <;> rfl

theorem ShareGrants.granted_setItem_other (g : ShareGrants) {i j : ShareItem} (on : Bool) (h : j ≠ i) :
    (g.setItem i on).granted j = g.granted j := by
  cases i <;> cases j <;> trivial

theorem exec_share {s : State} (x : ShareArgs) (h : s.Ready .a) :
    exec (.share (freshFrame .a) (.fields x)) s
      = .next { s.refusedWith .a .ok with shares := s.shares.setItem x.item x.grant } :=
  congrArg _ (State.frame_serve h (q := .share x) (by simp) rfl)

theorem exec_readShared {s : State} (i : ShareItem) (h : s.Ready .r) :
    exec (.readShared (freshFrame .r) (.fields ⟨i⟩)) s
      = .next (if s.shares.granted i then s.replied .r ⟨.ok, .shared (s.sharedValue i)⟩
          else s.refusedWith .r .notPermitted) := by
  refine congrArg _ ((State.frame_serve h (q := .readShared ⟨i⟩) (by simp) rfl).trans ?_)
  have hvalue : (s.workingOn .r).sharedValue i = s.sharedValue i := by cases i <;> rfl
  refine if_congr Iff.rfl ?_ (State.say_workingOn .notPermitted h)
  rw [State.tell, State.give_workingOn, hvalue]

/-- A granted item is read as its value. -/
theorem exec_readShared_granted {s : State} {i : ShareItem} (h : s.Ready .r) (hi : s.shares.granted i = true) :
    exec (.readShared (freshFrame .r) (.fields ⟨i⟩)) s = .next (s.replied .r ⟨.ok, .shared (s.sharedValue i)⟩) := by
  rw [exec_readShared i h, if_pos hi]

/-- Settles O12: one grant is set beside the others, and a grant decides what Port R reads. -/
theorem sharedItemsAreGrantedAndRead : Obligations.SharedItemsAreGrantedAndRead := by
  refine ⟨⟨fun s i on h => ?share, fun s i h => exec_readShared i h⟩, fun s h => ?values⟩
  case share =>
    exact ⟨_, exec_share ⟨i, on⟩ h, rfl, s.shares.granted_setItem_same i on,
      fun j hj => s.shares.granted_setItem_other on hj⟩
  case values =>
    exact ⟨exec_readShared_granted h, exec_readShared_granted h, exec_readShared_granted h, exec_readShared_granted h⟩

end Sys2Proof.Machine

namespace Sys2Proof.Machine

/-! ### Bytes that bring no frame (R175) -/

theorem frameComplete_of_short {buf : List Byte} (h : buf.length < 3) : frameComplete buf = false := by
  rw [frameComplete, decide_eq_false (by omega), Bool.false_and]

theorem PortUnit.bytes_cons (u : PortUnit) (b : Byte) (bs : List Byte) : u.bytes (b :: bs) = (u.byte b).bytes bs := rfl

/-- An IGNORING port takes no notice of bytes. -/
theorem PortUnit.bytes_ignoring {u : PortUnit} (h : u.state = .ignoring) (bs : List Byte) : u.bytes bs = u := by
  induction bs with
  | nil => rfl
  | cons b bs ih =>
    have hb : u.byte b = u := by simp [PortUnit.byte, h]
    rwa [PortUnit.bytes_cons, hb]

/-- Fewer bytes than a header has are gathered. -/
theorem PortUnit.bytes_receiving {u : PortUnit} (h : u.state = .receiving) (bs : List Byte)
    (hl : u.buffer.length + bs.length < 3) : u.bytes bs = { u with buffer := u.buffer ++ bs } := by
  induction bs generalizing u with
  | nil => simp [PortUnit.bytes]
  | cons b bs ih =>
    rw [List.length_cons] at hl
    have hb : u.byte b = { u with buffer := u.buffer ++ [b] } := by
      have hlast : u.buffer.length ≠ 2 := by omega
      simp [PortUnit.byte, h, frameComplete_of_short (show u.buffer.length < 3 by omega), hlast]
    have hrest := ih (u := { u with buffer := u.buffer ++ [b] }) h
      (by simp only [List.length_append, List.length_singleton]; omega)
    rw [PortUnit.bytes_cons, hb]
    simpa using hrest

/-- A header that declares too long a body is ignored with all that follows it. -/
theorem PortUnit.bytes_longHeader {u : PortUnit} (h : u.state = .receiving) (hbuf : u.buffer = []) (x : Byte)
    {y z : Byte} (hlen : 4200 < y.toNat + 256 * z.toNat) (bs : List Byte) :
    u.bytes (x :: y :: z :: bs) = { u with state := .ignoring } := by
  have hxy : (u.byte x).byte y = { u with buffer := [x, y] } := by
    simpa [hbuf, PortUnit.bytes] using PortUnit.bytes_receiving h [x, y] (by simp [hbuf])
  have hz : PortUnit.byte { u with buffer := [x, y] } z = { u with state := .ignoring } := by
    simp [PortUnit.byte, h, hbuf, frameComplete, headerLength, leValue, hlen]
  rw [PortUnit.bytes_cons, PortUnit.bytes_cons, PortUnit.bytes_cons, hxy, hz, PortUnit.bytes_ignoring rfl]

/-- The sync byte opens a frame. -/
theorem PortUnit.bytes_sync {u : PortUnit} (h : u.state = .waitingSync) (hbuf : u.buffer = []) (bs : List Byte) :
    u.bytes (0xC3#8 :: bs) = PortUnit.bytes { u with state := .receiving } bs := by
  have hbyte : u.byte 0xC3#8 = { u with state := .receiving } := by simp [PortUnit.byte, h, hbuf]
  rw [PortUnit.bytes_cons, hbyte]

/-- Any other first byte has the window ignored. -/
theorem PortUnit.bytes_notSync {u : PortUnit} (h : u.state = .waitingSync) (hbuf : u.buffer = []) {b : Byte}
    (hb : b ≠ 0xC3#8) (bs : List Byte) : u.bytes (b :: bs) = { u with state := .ignoring } := by
  have hbyte : u.byte b = { u with state := .ignoring } := by simp [PortUnit.byte, h, hbuf, hb]
  rw [PortUnit.bytes_cons, hbyte, PortUnit.bytes_ignoring rfl]

/-- Bytes that leave no complete frame in the buffer change the port alone. -/
theorem exec_windowIgnored {s : State} {p : Port} {bs : List Byte} {u : PortUnit} (hp : s.portPowered p = true)
    (hu : (s.port p).bytes bs = u) (hshort : u.buffer.length < 3) :
    exec (.windowIgnored p bs) s = .next (s.setPort p u) := by
  subst hu
  refine congrArg _ (if_pos ?_)
  rw [hp, frameComplete_of_short hshort]
  rfl

/-! ### Windows that end, and the held frame (R175 to R177) -/

/-- A fresh frame that completes while a request is in progress ends the request's window and is held or discarded. -/
theorem State.frame_hold {s : State} {p : Port} {m : Message} (hp : s.portPowered p = true)
    (hbusy : (s.port p).busy.isSome = true) (hm : m ≠ .request .resetPort) :
    s.frame (freshFrame p) m = s.setPort p ((s.port p).released.hold m) := by
  simp [State.frame, freshFrame, hp, State.openWindow, State.completeFrame, hm, PortUnit.released, hbusy]

theorem PortUnit.hold_of_none {u : PortUnit} (m : Message) (h : u.held = none) :
    u.hold m = { u with state := .busy, buffer := [], held := some { message := m, live := true } } := by
  rw [PortUnit.hold, h]

theorem exec_frameDiscarded {s : State} {p : Port} (hp : s.portPowered p = true) (hh : (s.port p).held.isSome = true) :
    exec (.frameDiscarded p) s = .next (s.setPort p { (s.port p).released with state := .ignoring }) :=
  if_pos ⟨hh, hp⟩

/-- A released port goes on with its request and its held frame, with no window for their answers. -/
theorem PortUnit.released_busy_isSome (u : PortUnit) : u.released.busy.isSome = u.busy.isSome := by
  simp [PortUnit.released]

theorem PortUnit.released_busy_ne (u : PortUnit) : u.released.busy ≠ some true := by
  simp [PortUnit.released]

theorem PortUnit.released_busy_of_isSome {u : PortUnit} (h : u.busy.isSome = true) : u.released.busy = some false := by
  obtain ⟨b, hb⟩ := Option.isSome_iff_exists.mp h
  simp [PortUnit.released, hb]

theorem PortUnit.released_held_message (u : PortUnit) :
    u.released.held.map HeldFrame.message = u.held.map HeldFrame.message := by
  simp [PortUnit.released, Function.comp_def]

theorem PortUnit.released_held_live {u : PortUnit} {h : HeldFrame} (hh : u.released.held = some h) : h.live = false := by
  obtain ⟨x, -, rfl⟩ := Option.map_eq_some_iff.mp hh
  rfl

/-- Settles O8: the release, the three ways in which bytes bring no frame, the held frame, and the discarded one. -/
theorem windowsAndHeldFrames : Obligations.WindowsAndHeldFrames := by
  refine ⟨fun s p => ?release,
    fun s p b bs hp hw hbuf => ⟨fun hb => ?notSync, fun x y z hlen => ?longHeader, fun hl => ?partly⟩,
    fun s p q hp hbusy hheld hq => ?held, fun s p hp hheld => ?discarded⟩
  case release =>
    refine ⟨s.setPort p (s.port p).released, rfl, ?_⟩
    rw [State.port_setPort]
    exact ⟨rfl, rfl, rfl, rfl, (s.port p).released_busy_isSome, (s.port p).released_busy_ne,
      (s.port p).released_held_message, fun _ => PortUnit.released_held_live⟩
  case notSync => exact exec_windowIgnored hp (PortUnit.bytes_notSync hw hbuf hb bs) (by simp [hbuf])
  case longHeader =>
    have hbytes := PortUnit.bytes_longHeader (u := { s.port p with state := .receiving }) rfl hbuf x hlen bs
    exact exec_windowIgnored hp ((PortUnit.bytes_sync hw hbuf _).trans hbytes) (by simp [hbuf])
  case partly =>
    have hbytes := PortUnit.bytes_receiving (u := { s.port p with state := .receiving }) rfl bs
      (by simpa [hbuf] using hl)
    rw [hbuf, List.nil_append] at hbytes
    exact exec_windowIgnored hp ((PortUnit.bytes_sync hw hbuf bs).trans hbytes) hl
  case held =>
    have hnone : (s.port p).released.held = none := by simp [PortUnit.released, hheld]
    refine ⟨_, (exec_requestInstr s _ q).trans (congrArg _ (State.frame_hold hp hbusy (by simpa using hq))), ?_⟩
    rw [State.port_setPort, PortUnit.hold_of_none _ hnone]
    exact ⟨rfl, rfl, PortUnit.released_busy_of_isSome hbusy, rfl, rfl⟩
  case discarded =>
    refine ⟨_, exec_frameDiscarded hp hheld, ?_⟩
    rw [State.port_setPort]
    exact ⟨rfl, rfl, (s.port p).released_held_message, (s.port p).released_busy_isSome, rfl⟩

end Sys2Proof.Machine

namespace Sys2Proof

open Sys2Proof.Machine

/-! ### Numbers as bytes (R182) -/

theorem byteOf_toNat (n : Nat) : (byteOf n).toNat = n % 256 := by simp [byteOf]

theorem byteOf_toNat_of_lt {n : Nat} (h : n < 256) : (byteOf n).toNat = n := by rw [byteOf_toNat, Nat.mod_eq_of_lt h]

/-- A number that fits is read from its own bytes. -/
theorem leValue_leBytes {w n : Nat} (h : fitsBytes w n = true) : leValue (leBytes w n) = n := by
  induction w generalizing n with
  | zero =>
    have hn : n = 0 := by simpa [fitsBytes] using h
    rw [hn]
    rfl
  | succ w ih =>
    have hn : n < 256 * 256 ^ w := by rw [← Nat.pow_succ']; exact of_decide_eq_true h
    have hrest : fitsBytes w (n / 256) = true := decide_eq_true (Nat.div_lt_of_lt_mul hn)
    rw [leBytes, leValue, ih hrest, byteOf_toNat, Nat.mod_add_div]

/-- The length of a body that a frame admits fits its two bytes. -/
theorem fitsBytes_two_of_le_bodyMax {n : Nat} (h : n ≤ Config.bodyMax) : fitsBytes 2 n = true :=
  decide_eq_true (lt_of_le_of_lt h (by decide))

/-! ### Reading a written field

Each equation reads a field off the front of the bytes that it was written to, and hands its value and the rest on. -/

section
variable {α β : Type}

theorem readNum_leBytes {w n : Nat} (h : fitsBytes w n = true) (k : Nat → List Byte → Option β) (rest : List Byte) :
    readNum w k (leBytes w n ++ rest) = k n rest := by
  have hlen := Laws.leBytes_length w n
  rw [readNum, if_pos (by rw [List.length_append, hlen]; omega), List.take_left' hlen, List.drop_left' hlen,
    leValue_leBytes h]

/-- A list of codes names every value of its type, in one byte. -/
def NamesAll (l : List α) : Prop := (∀ x, x ∈ l) ∧ l.length ≤ 256

theorem readNamed_named [DecidableEq α] {l : List α} (h : NamesAll l) (x : α) (k : α → List Byte → Option β)
    (rest : List Byte) : readNamed l k (named l x ++ rest) = k x rest := by
  obtain ⟨hall, hlen⟩ := h
  have hlt : l.idxOf x < l.length := List.idxOf_lt_length_of_mem (hall x)
  have hx : l[(byteOf (l.idxOf x)).toNat]? = some x := by
    rw [byteOf_toNat_of_lt (by omega), List.getElem?_idxOf (hall x)]
  simp only [named, List.cons_append, List.nil_append, readNamed, hx]

theorem readFlag_flagByte (b : Bool) (k : Bool → List Byte → Option β) (rest : List Byte) :
    readFlag k (flagByte b :: rest) = k b rest := by cases b <;> rfl

theorem readFlag_one (k : Bool → List Byte → Option β) (rest : List Byte) :
    readFlag k (byteOf 1 :: rest) = k true rest :=
  readFlag_flagByte true k rest

theorem readFlag_zero (k : Bool → List Byte → Option β) (rest : List Byte) :
    readFlag k (byteOf 0 :: rest) = k false rest :=
  readFlag_flagByte false k rest

/-- A present field is a presence byte and the field. -/
theorem optField_some_append (f : α → List Byte) (x : α) (rest : List Byte) :
    optField f (some x) ++ rest = byteOf 1 :: (f x ++ rest) := rfl

theorem readOptNum_optField {w : Nat} {o : Option Nat} (h : o.all (fitsBytes w) = true)
    (k : Option Nat → List Byte → Option β) (rest : List Byte) :
    readOptNum w k (optField (leBytes w) o ++ rest) = k o rest := by
  cases o with
  | none => exact readFlag_zero _ rest
  | some n => rw [optField_some_append, readOptNum, readFlag_one, if_pos rfl, readNum_leBytes h]

theorem readPayload_payloadField {p : List Byte} (h : p.length ≤ Config.bodyMax)
    (k : List Byte → List Byte → Option β) (rest : List Byte) : readPayload k (payloadField p ++ rest) = k p rest := by
  rw [payloadField, List.append_assoc, readPayload, readNum_leBytes (fitsBytes_two_of_le_bodyMax h),
    if_pos (by rw [List.length_append]; omega), List.take_left, List.drop_left]

theorem readNums_flatten {w : Nat} {l : List Nat} (h : l.all (fitsBytes w) = true)
    (k : List Nat → List Byte → Option β) (rest : List Byte) :
    readNums w l.length k ((l.map (leBytes w)).flatten ++ rest) = k l rest := by
  induction l generalizing k with
  | nil => rfl
  | cons n l ih =>
    rw [List.all_cons, Bool.and_eq_true] at h
    obtain ⟨hn, hl⟩ := h
    rw [List.length_cons, readNums, List.map_cons, List.flatten_cons, List.append_assoc, readNum_leBytes hn, ih hl]

theorem readList_listField {w : Nat} {l : List Nat} (hlen : l.length < 256) (h : l.all (fitsBytes w) = true)
    (k : List Nat → List Byte → Option β) (rest : List Byte) :
    readList w k (listField (leBytes w) l ++ rest) = k l rest :=
  (readNum_leBytes (w := 1) (decide_eq_true hlen) _ _).trans (readNums_flatten h k rest)

theorem readKey_keyField {key : PageKey} (h : keyFits key = true)
    (k : PageKey → List Byte → Option β) (rest : List Byte) :
    readKey k (keyField key ++ rest) = k key rest := by
  rw [keyFits, Bool.and_eq_true] at h
  obtain ⟨hb, hp⟩ := h
  rw [readKey, keyField, List.append_assoc, readNum_leBytes hb, readNum_leBytes hp]

/-! ### The request fields of their own (R26, R38, R53, R171) -/

theorem readTurnKind_turnKindField {x : TurnKind} (h : ∀ key, x = .goto key → keyFits key = true)
    (k : TurnKind → List Byte → Option β) (rest : List Byte) : readTurnKind k (turnKindField x ++ rest) = k x rest := by
  cases x with
  | step d => cases d <;> rfl
  | goto key => exact readKey_keyField (h key rfl) (fun key => k (.goto key)) rest

theorem readRange_rangeField {o : Option (Nat × Nat)} (h : o.all (fun r => fitsBytes 3 r.1 && fitsBytes 3 r.2) = true)
    (k : Option (Nat × Nat) → List Byte → Option β) (rest : List Byte) :
    readRange k (rangeField o ++ rest) = k o rest := by
  cases o with
  | none => exact readFlag_zero _ rest
  | some r =>
    rw [Option.all_some, Bool.and_eq_true] at h
    obtain ⟨hfirst, hlast⟩ := h
    rw [rangeField, optField_some_append, readRange, readFlag_one, if_pos rfl, List.append_assoc, readNum_leBytes hfirst,
      readNum_leBytes hlast]

theorem readSources_sourcesField {o : Option (List Nat)}
    (h : o.all (fun l => decide (l.length < 256) && l.all (fitsBytes 1)) = true)
    (k : Option (List Nat) → List Byte → Option β) (rest : List Byte) :
    readSources k (sourcesField o ++ rest) = k o rest := by
  cases o with
  | none => exact readFlag_one _ rest
  | some l =>
    rw [Option.all_some, Bool.and_eq_true, decide_eq_true_eq] at h
    obtain ⟨hlen, hl⟩ := h
    exact (readFlag_zero _ _).trans (readList_listField hlen hl _ rest)

theorem namesAll_edgeCodes : NamesAll edgeCodes := ⟨fun x => by cases x <;> decide, by decide⟩

theorem readEdge_optField (o : Option Edge) (k : Option Edge → List Byte → Option β) (rest : List Byte) :
    readEdge k (optField (named edgeCodes) o ++ rest) = k o rest := by
  cases o with
  | none => exact readFlag_zero _ rest
  | some e => rw [optField_some_append, readEdge, readFlag_one, if_pos rfl, readNamed_named namesAll_edgeCodes]

theorem readEnd_nil (x : β) : readEnd x [] = some x := rfl

end

/-! ### The lists of named values that requests use -/

theorem namesAll_clsCodes : NamesAll clsCodes := ⟨fun x => by cases x <;> decide, by decide⟩
theorem namesAll_designationCodes : NamesAll designationCodes := ⟨fun x => by cases x <;> decide, by decide⟩
theorem namesAll_turnModeCodes : NamesAll turnModeCodes := ⟨fun x => by cases x <;> decide, by decide⟩
theorem namesAll_routeCodes : NamesAll routeCodes := ⟨fun x => by cases x <;> decide, by decide⟩
theorem namesAll_sleepTargetCodes : NamesAll sleepTargetCodes := ⟨fun x => by cases x <;> decide, by decide⟩
theorem namesAll_shareItemCodes : NamesAll shareItemCodes := ⟨fun x => by cases x <;> decide, by decide⟩
theorem namesAll_closedByCodes : NamesAll closedByCodes := ⟨fun x => by cases x <;> decide, by decide⟩
theorem namesAll_onOff : NamesAll [true, false] := ⟨by decide, by decide⟩

/-! ### Bodies and frames read back (R175, R176, R182) -/

theorem payloadField_length (p : List Byte) : (payloadField p).length = 2 + p.length := by
  rw [payloadField, List.length_append, Laws.leBytes_length]

/-- The payload of a request whose body fits a frame is no longer than a body. -/
theorem payload_length_le {a b p : List Byte} (hb : b = a ++ payloadField p) (h : b.length ≤ Config.bodyMax) :
    p.length ≤ Config.bodyMax := by
  rw [hb, List.length_append, payloadField_length] at h
  omega

/-- The body written for a request reads back as that request, field by field. -/
theorem decodeBody_encodeBody {q : Req} (h : fieldsFit q = true) (hl : (encodeBody q).length ≤ Config.bodyMax) :
    decodeBody (kindOf q) (encodeBody q) = some q := by
  rw [← List.append_nil (encodeBody q)]
  cases q with
  | identify | resetPort | listSlots | turnStatus | waveformCommit | panelStatus | lightState | clearAlarm | headroomStatus
  | batteryStatus | sleepStatus | drain | stagingStatus | peekNotices | txRelease | txCancel | radioSleep => rfl
  | turn x =>
    have hkey : ∀ key, x.kind = .goto key → keyFits key = true := fun key hk => by simpa [fieldsFit, hk] using h
    simp only [kindOf, decodeBody, encodeBody, List.append_assoc, readTurnKind_turnKindField hkey,
      readNamed_named namesAll_turnModeCodes, readEnd_nil]
  | writeSlot x | waveformWrite x | putBlock x =>
    have hp : x.payload.length ≤ Config.bodyMax := payload_length_le rfl hl
    simp only [fieldsFit, Bool.and_eq_true] at h
    simp only [kindOf, decodeBody, encodeBody, List.append_assoc, List.cons_append, List.nil_append, readNum_leBytes,
      readFlag_flagByte, readPayload_payloadField hp, readEnd_nil, h]
  | loadCurve x =>
    simp only [fieldsFit, Bool.and_eq_true, decide_eq_true_eq] at h
    simp only [kindOf, decodeBody, encodeBody, readList_listField, readEnd_nil, h]
  | openSlot x | blankSlot x | setClass x | closeStream x | share x | readShared x | sleep x | radioPower x | setKeyRoute x
  | designate x =>
    simp only [fieldsFit, Bool.and_eq_true] at h
    simp only [kindOf, decodeBody, encodeBody, List.append_assoc, List.cons_append, List.nil_append, readNum_leBytes,
      readKey_keyField, readFlag_flagByte, readEdge_optField, readOptNum_optField, readNamed_named namesAll_clsCodes,
      readNamed_named namesAll_closedByCodes, readNamed_named namesAll_shareItemCodes, readNamed_named namesAll_onOff,
      readNamed_named namesAll_sleepTargetCodes, readNamed_named namesAll_routeCodes,
      readNamed_named namesAll_designationCodes, readEnd_nil, h]
  | takeNotice x | setParam x | getParam x | commitSlot x | cancelSlot x | forget x | lightSet x | setTime x | setAlarm x
  | abortStream x | clearNotices x | setNoticeLevel x | openStream x | waitSpace x | txLease x =>
    simp only [fieldsFit, Bool.and_eq_true] at h
    simp only [kindOf, decodeBody, encodeBody, List.append_assoc, readNum_leBytes, readOptNum_optField, readRange_rangeField,
      readSources_sourcesField, readSlot, readEnd_nil, h]

/-- Every kind stands in the catalogue, and its byte names it. -/
theorem kindOfByte_kindByte (k : Kind) : kindOfByte (byteOf (kindByte k)).toNat = some k := by cases k <;> rfl

theorem decodeMessage_encodeBody {q : Req} (h : fieldsFit q = true) (hl : (encodeBody q).length ≤ Config.bodyMax) :
    decodeMessage (byteOf (kindByte (kindOf q))).toNat (encodeBody q) = .request q := by
  simp only [decodeMessage, kindOfByte_kindByte, decodeBody_encodeBody h hl]

/-- The two length bytes declare the body that follows them. -/
theorem decodeFrame_of_body (kind : Byte) {body : List Byte} (h : body.length ≤ Config.bodyMax) :
    decodeFrame (Config.syncByte :: kind :: leBytes 2 body.length ++ body) = some (decodeMessage kind.toNat body) := by
  have hlen : leValue [byteOf body.length, byteOf (body.length / 256)] = body.length :=
    leValue_leBytes (w := 2) (fitsBytes_two_of_le_bodyMax h)
  simp only [leBytes, List.cons_append, List.nil_append, decodeFrame, hlen, List.take_length]
  exact if_pos ⟨trivial, h, le_rfl⟩

theorem decodeFrame_encodeFrame {q : Req} (h : fieldsFit q = true) (hl : (encodeBody q).length ≤ Config.bodyMax) :
    decodeFrame (encodeFrame q) = some (.request q) := by
  rw [encodeFrame, decodeFrame_of_body _ hl, decodeMessage_encodeBody h hl]

/-- A request's command carries that request. -/
theorem requestOf_requestInstr (f : Frame) (awake : Bool) (q : Req) : requestOf (requestInstr f awake q) = some q := by
  cases q <;> rfl

/-- Settles O14: the frame reads back, so its window is the request's command, which carries the request. -/
theorem requestFramesRoundTrip : Obligations.RequestFramesRoundTrip := by
  intro q p awake hfits
  rw [reqFits, Bool.and_eq_true, decide_eq_true_eq] at hfits
  obtain ⟨hfields, hlen⟩ := hfits
  have hframe := decodeFrame_encodeFrame hfields hlen
  refine ⟨hframe, ?window, requestOf_requestInstr _ awake q⟩
  case window =>
    rw [decodeWindow, hframe]
    rfl

end Sys2Proof

namespace Sys2Proof.Machine

/-- The newest queue stands. -/
@[simp] theorem State.withPending_withPending (s : State) (q r : List Instr) :
    (s.withPending q).withPending r = s.withPending r := rfl

theorem step_of_pending_cons {s : State} {c : Instr} {rest : List Instr} (h : s.pending = c :: rest) :
    step s = exec c (s.withPending rest) := by
  simp only [step, h]

theorem step_of_pending_nil {s : State} (h : s.pending = []) : step s = .next s.tick := by
  simp only [step, h]

/-- Settles O1: the queue's two shapes, its front command taken off or, where it is empty, a tick. -/
theorem stepRunsFrontCommand : Obligations.StepRunsFrontCommand := by
  refine ⟨fun c rest s => ?front, fun s => ?empty⟩
  case front =>
    rw [step_of_pending_cons (s.withPending_pending (c :: rest)), State.withPending_withPending]
  case empty =>
    rw [step_of_pending_nil (s.withPending_pending []), State.tick, State.withPending]

end Sys2Proof.Machine
